-- ==== Sys2Proof/Word.lean ====
section
/-! DEFINITION. Word types of the complex (R15, R16) and the sparse list that holds every indexed store. -/

namespace Sys2Proof

/-- A 32-bit word: registers, stack cells, IO words, tarn words. -/
abbrev Word := BitVec 32
/-- A byte of D-space. -/
abbrev Byte := BitVec 8
/-- A half-word. -/
abbrev Half := BitVec 16
/-- A double (R130), a time of TB_NOW (R38), a cycle number (R48). -/
abbrev Dbl := BitVec 64
/-- A 64-byte cache line, byte 0 in bits [7:0]. -/
abbrev Line := BitVec 512

/-- A store by index: keys strictly rising, no entry equal to the store's default. -/
abbrev Sparse (α : Type) := List (Nat × α)

end Sys2Proof
end

