-- ==== Sys2Proof/Syntax.lean ====
section
/-! DEFINITION. The commands of the block: one constructor of `Instr` per row of the table of steps (spec/95),
with the operands a step of that row can carry. -/

namespace Sys2Proof

/-- Engine number: E0 to E31 of the Groves (R119), 32 and 33 the Wellspring pair's leader and checker. -/
abbrev Eng := Fin 34
/-- An index of 16: Grove, field-attach port, CVU unit or channel, watchdog channel. -/
abbrev Grv := Fin 16
/-- Application number (R54). -/
abbrev App := Fin 32
/-- Master ID (R19). -/
abbrev Mst := Fin 64
/-- Tarn number (R133). -/
abbrev Tarn := Fin 64
/-- An index of 8: a mailbox channel (R425) or a host ID (R20). -/
abbrev Chan := Fin 8

/-- A Shore port (R285). -/
inductive Port where
  | a | b
deriving DecidableEq, Repr

/-- The image segment registers of R81. -/
inductive SegReg where
  | int | inl | outt | outl | mrkt | mrkl | ret | safe
deriving DecidableEq, Repr

/-- A Shore frame as received: header words 0 to 5, payload words and PCRC word (R289). -/
structure Frame where
  words : List Word
deriving DecidableEq, Repr

/-- A burst on NCH-S (R498): byte offset from the addressed window's base, beats, direction, and for a write the
data words of the beats (4 a beat) with a 16-bit byte enable per beat. -/
structure BusReq where
  off   : Nat
  beats : Nat
  wr    : Bool
  words : List Word
  be    : List (BitVec 16)
deriving DecidableEq, Repr

/-- How a single register access reaches the complex: an engine-side or block master at an IO word address, a host at
a slave-port byte offset (R422) with its byte enables, or the debugger at a debug register address (R475). -/
inductive RegPath where
  | io (m : Mst) (addr : BitVec 16)
  | host (h : Chan) (off : BitVec 20) (be : BitVec 4)
  | dbg (addr : BitVec 10)
deriving DecidableEq, Repr

/-- Levels of VMON (R415). -/
inductive VLevel where
  | loss | sag2 | sag1 | normal
deriving DecidableEq, Repr

/-- Reset sources (R494). -/
inductive RstSrc where
  | por | pin | clock | cmd | debug
deriving DecidableEq, Repr

/-- One fuse word as read at the fuse port, with its error flag (R512). -/
structure FuseWord where
  data : Word
  err  : Bool
deriving DecidableEq, Repr

/-- Outcome of step 5 of the boot order (R447, R449): Groves whose self-test failed, tarn groups whose BIST failed,
and whether the Wellspring's own check passed. -/
structure BistResult where
  grovesBad : BitVec 16
  tarnsBad  : BitVec 64
  selfOk    : Bool
deriving DecidableEq, Repr

/-- The operands of a fault record (R411): code, scope, flags, and the fields the fault names. -/
structure FaultInfo where
  code    : Byte
  scope   : BitVec 3
  masked  : Bool
  discard : Bool
  master  : BitVec 6
  app     : BitVec 5
  grove   : BitVec 4
  addr    : Word
  info    : Word
deriving DecidableEq, Repr

/-- The commands: one constructor per row of the table. -/
inductive Instr where
  /-- NOP (R150): Does nothing for one cycle. -/
  | nop (e : Eng)
  /-- DUP (R150): Duplicates the top cell of the operand stack. -/
  | dup (e : Eng)
  /-- DROP (R150): Removes the top cell. -/
  | drop (e : Eng)
  /-- SWAP (R150): Exchanges the top two cells. -/
  | swap (e : Eng)
  /-- OVER (R150): Copies the second cell to the top. -/
  | ovr (e : Eng)
  /-- ROT (R150): Rotates the top three cells. -/
  | rot (e : Eng)
  /-- NIP (R150): Removes the second cell. -/
  | nip (e : Eng)
  /-- TUCK (R150): Copies the top cell beneath the second. -/
  | tuck (e : Eng)
  /-- PICK (R150): Copies cell n, n up to 7, to the top. -/
  | pick (e : Eng) (i : BitVec 8)
  /-- DUP2 (R150): Duplicates the top two cells. -/
  | dup2 (e : Eng)
  /-- DROP2 (R150): Removes the top two cells. -/
  | drop2 (e : Eng)
  /-- SWAP2 (R150): Exchanges the top two pairs of cells. -/
  | swap2 (e : Eng)
  /-- LIT8 (R150): Pushes a sign-extended 8-bit literal. -/
  | lit8 (e : Eng) (i : BitVec 8)
  /-- LIT16 (R150): Pushes a sign-extended 16-bit literal. -/
  | lit16 (e : Eng) (i : BitVec 16)
  /-- LIT32 (R150): Pushes a 32-bit literal. -/
  | lit32 (e : Eng) (i : Word)
  /-- LITH (R150): Pushes a 16-bit literal shifted into the upper half. -/
  | lith (e : Eng) (i : BitVec 16)
  /-- ADD (R148): Adds the top two cells and sets C, V, Z, N. -/
  | add (e : Eng)
  /-- SUB (R148): Subtracts the top cell from the second and sets flags. -/
  | sub (e : Eng)
  /-- ADC (R148): Adds with carry in. -/
  | adc (e : Eng)
  /-- SBB (R148): Subtracts with borrow in. -/
  | sbb (e : Eng)
  /-- NEG (R152): Negates the top cell. -/
  | neg (e : Eng)
  /-- ABS (R151): Replaces the top cell by its absolute value. -/
  | abs (e : Eng)
  /-- INC (R148): Adds 1 without writing C. -/
  | inc (e : Eng)
  /-- DEC (R148): Subtracts 1 without writing C. -/
  | dec (e : Eng)
  /-- CMP (R148): Compares two cells, setting flags as SUB without trapping. -/
  | cmp (e : Eng)
  /-- MIN (R151): Signed minimum of two cells. -/
  | min (e : Eng)
  /-- MAX (R151): Signed maximum of two cells. -/
  | max (e : Eng)
  /-- MINU (R151): Unsigned minimum of two cells. -/
  | minu (e : Eng)
  /-- MAXU (R151): Unsigned maximum of two cells. -/
  | maxu (e : Eng)
  /-- LIMIT (R151): Clamps a value between a minimum and a maximum. -/
  | limit (e : Eng)
  /-- SEXB (R151): Sign-extends the low byte. -/
  | sexb (e : Eng)
  /-- SEXH (R151): Sign-extends the low half-word. -/
  | sexh (e : Eng)
  /-- AND (R151): Bitwise AND of two cells. -/
  | iAnd (e : Eng)
  /-- OR (R151): Bitwise OR of two cells. -/
  | iOr (e : Eng)
  /-- XOR (R151): Bitwise XOR of two cells. -/
  | xor (e : Eng)
  /-- NOT (R151): Bitwise complement of the top cell. -/
  | iNot (e : Eng)
  /-- TST (R151): Sets Z and N from the top cell, which stays. -/
  | tst (e : Eng)
  /-- EQZ (R151): Pushes 1 if the popped cell is zero. -/
  | eqz (e : Eng)
  /-- EQ (R151): Pushes 1 if two cells are equal. -/
  | eq (e : Eng)
  /-- NE (R151): Pushes 1 if two cells differ. -/
  | ne (e : Eng)
  /-- LT (R151): Signed less-than test. -/
  | lt (e : Eng)
  /-- LE (R151): Signed less-or-equal test. -/
  | le (e : Eng)
  /-- LTU (R151): Unsigned less-than test. -/
  | ltu (e : Eng)
  /-- LEU (R151): Unsigned less-or-equal test. -/
  | leu (e : Eng)
  /-- SHL (R153): Shifts left by a popped count. -/
  | shl (e : Eng)
  /-- SHR (R153): Logical shift right by a popped count. -/
  | shr (e : Eng)
  /-- SAR (R153): Arithmetic shift right by a popped count. -/
  | sar (e : Eng)
  /-- ROL (R153): Rotates left by a popped count. -/
  | rol (e : Eng)
  /-- ROR (R153): Rotates right by a popped count. -/
  | ror (e : Eng)
  /-- SHLI (R153): Shifts left by an immediate count. -/
  | shli (e : Eng) (i : BitVec 8)
  /-- SHRI (R153): Logical shift right by an immediate count. -/
  | shri (e : Eng) (i : BitVec 8)
  /-- SARI (R153): Arithmetic shift right by an immediate count. -/
  | sari (e : Eng) (i : BitVec 8)
  /-- ROLI (R153): Rotates left by an immediate count. -/
  | roli (e : Eng) (i : BitVec 8)
  /-- ZEXB (R151): Zero-extends the low byte. -/
  | zexb (e : Eng)
  /-- ZEXH (R151): Zero-extends the low half-word. -/
  | zexh (e : Eng)
  /-- LDW (R159): Loads a word from D-space at a popped address. -/
  | ldw (e : Eng)
  /-- LDH (R159): Loads a sign-extended half-word. -/
  | ldh (e : Eng)
  /-- LDHU (R159): Loads a zero-extended half-word. -/
  | ldhu (e : Eng)
  /-- LDB (R159): Loads a sign-extended byte. -/
  | ldb (e : Eng)
  /-- LDBU (R159): Loads a zero-extended byte. -/
  | ldbu (e : Eng)
  /-- LDD (R159): Loads a double as one checked access. -/
  | ldd (e : Eng)
  /-- STW (R159): Stores a word at a popped address. -/
  | stw (e : Eng)
  /-- STH (R159): Stores a half-word. -/
  | sth (e : Eng)
  /-- STB (R159): Stores a byte. -/
  | stb (e : Eng)
  /-- STD (R159): Stores a double as one checked access. -/
  | std (e : Eng)
  /-- LDWA (R159): Loads a word from an absolute address. -/
  | ldwa (e : Eng) (i : Word)
  /-- LDBA (R159): Loads a zero-extended byte from an absolute address. -/
  | ldba (e : Eng) (i : Word)
  /-- STWA (R159): Stores a word to an absolute address. -/
  | stwa (e : Eng) (i : Word)
  /-- STBA (R159): Stores a byte to an absolute address. -/
  | stba (e : Eng) (i : Word)
  /-- LDWS (R159): Loads a word relative to DSP. -/
  | ldws (e : Eng) (i : BitVec 16)
  /-- LDBS (R159): Loads a byte relative to DSP. -/
  | ldbs (e : Eng) (i : BitVec 16)
  /-- STWS (R159): Stores a word relative to DSP. -/
  | stws (e : Eng) (i : BitVec 16)
  /-- STBS (R159): Stores a byte relative to DSP. -/
  | stbs (e : Eng) (i : BitVec 16)
  /-- LDWO (R159): Loads a word at a popped address plus offset. -/
  | ldwo (e : Eng) (i : BitVec 16)
  /-- STWO (R159): Stores a word at a popped address plus offset. -/
  | stwo (e : Eng) (i : BitVec 16)
  /-- LDL (R161): Loads a word and sets the reservation. -/
  | ldl (e : Eng)
  /-- STC (R161): Stores only if the reservation holds and pushes the outcome. -/
  | stc (e : Eng)
  /-- IORD (R159): Reads an IO word at a popped address. -/
  | iord (e : Eng)
  /-- IOWR (R159): Writes an IO word at a popped address. -/
  | iowr (e : Eng)
  /-- IORDI (R159): Reads an IO word at an immediate address. -/
  | iordi (e : Eng) (i : BitVec 16)
  /-- IOWRI (R159): Writes an IO word at an immediate address. -/
  | iowri (e : Eng) (i : BitVec 16)
  /-- BRA (R163): Branches by an 8-bit displacement. -/
  | bra (e : Eng) (i : BitVec 8)
  /-- BRAL (R163): Branches by a 16-bit displacement. -/
  | bral (e : Eng) (i : BitVec 16)
  /-- JMP (R163): Jumps to an absolute address. -/
  | jmp (e : Eng) (i : Word)
  /-- JMPS (R163): Jumps to a popped address. -/
  | jmps (e : Eng)
  /-- CALL (R164): Pushes the return address and branches relative. -/
  | call (e : Eng) (i : BitVec 16)
  /-- CALLA (R164): Pushes the return address and jumps absolute. -/
  | calla (e : Eng) (i : Word)
  /-- CALLS (R164): Pushes the return address and jumps to a popped address. -/
  | calls (e : Eng)
  /-- RET (R164): Pops the return address and transfers to it. -/
  | ret (e : Eng)
  /-- BZ (R163): Branches if the popped cell is zero. -/
  | bz (e : Eng) (i : BitVec 8)
  /-- BNZ (R163): Branches if the popped cell is non-zero. -/
  | bnz (e : Eng) (i : BitVec 8)
  /-- BZL (R163): Long branch if the popped cell is zero. -/
  | bzl (e : Eng) (i : BitVec 16)
  /-- BNZL (R163): Long branch if the popped cell is non-zero. -/
  | bnzl (e : Eng) (i : BitVec 16)
  /-- BEQ (R163): Branches if Z = 1. -/
  | beq (e : Eng) (i : BitVec 8)
  /-- BNE (R163): Branches if Z = 0. -/
  | bne (e : Eng) (i : BitVec 8)
  /-- BCS (R163): Branches if C = 1. -/
  | bcs (e : Eng) (i : BitVec 8)
  /-- BCC (R163): Branches if C = 0. -/
  | bcc (e : Eng) (i : BitVec 8)
  /-- BMI (R163): Branches if N = 1. -/
  | bmi (e : Eng) (i : BitVec 8)
  /-- BPL (R163): Branches if N = 0. -/
  | bpl (e : Eng) (i : BitVec 8)
  /-- BVS (R163): Branches if V = 1. -/
  | bvs (e : Eng) (i : BitVec 8)
  /-- BVC (R163): Branches if V = 0. -/
  | bvc (e : Eng) (i : BitVec 8)
  /-- BLT (R163): Branches if N differs from V. -/
  | blt (e : Eng) (i : BitVec 8)
  /-- BGE (R163): Branches if N equals V. -/
  | bge (e : Eng) (i : BitVec 8)
  /-- BLE (R163): Branches if Z = 1 or N differs from V. -/
  | ble (e : Eng) (i : BitVec 8)
  /-- BGT (R163): Branches if Z = 0 and N equals V. -/
  | bgt (e : Eng) (i : BitVec 8)
  /-- BHI (R163): Branches if C = 0 and Z = 0. -/
  | bhi (e : Eng) (i : BitVec 8)
  /-- BLS (R163): Branches if C = 1 or Z = 1. -/
  | bls (e : Eng) (i : BitVec 8)
  /-- LOOP (R163): Decrements the count and branches while it is non-zero. -/
  | loop (e : Eng) (i : BitVec 8)
  /-- BLD (R174): Pushes a B-space bit onto the logic stack. -/
  | bld (e : Eng) (i : Word)
  /-- BLDN (R174): Pushes the complement of a B-space bit. -/
  | bldn (e : Eng) (i : Word)
  /-- BAND (R174): ANDs a bit into the logic-stack top. -/
  | band (e : Eng) (i : Word)
  /-- BANDN (R174): ANDs the complement of a bit into the top. -/
  | bandn (e : Eng) (i : Word)
  /-- BOR (R174): ORs a bit into the top. -/
  | bor (e : Eng) (i : Word)
  /-- BORN (R174): ORs the complement of a bit into the top. -/
  | born (e : Eng) (i : Word)
  /-- BXOR (R174): XORs a bit into the top. -/
  | bxor (e : Eng) (i : Word)
  /-- BXORN (R174): XORs the complement of a bit into the top. -/
  | bxorn (e : Eng) (i : Word)
  /-- BST (R174): Writes the logic-stack top to a bit. -/
  | bst (e : Eng) (i : Word)
  /-- BSTN (R174): Writes the complement of the top to a bit. -/
  | bstn (e : Eng) (i : Word)
  /-- BSET (R174): Sets a bit when the top is 1. -/
  | bset (e : Eng) (i : Word)
  /-- BRST (R174): Clears a bit when the top is 1. -/
  | brst (e : Eng) (i : Word)
  /-- BLDS (R174): Pushes the bit at a popped address. -/
  | blds (e : Eng)
  /-- BSTS (R174): Writes the top to the bit at a popped address. -/
  | bsts (e : Eng)
  /-- BANDS (R174): ANDs the bit at a popped address into the top. -/
  | bands (e : Eng)
  /-- BORS (R174): ORs the bit at a popped address into the top. -/
  | bors (e : Eng)
  /-- SETB (R174): Sets a B-space bit. -/
  | setb (e : Eng) (i : Word)
  /-- CLRB (R174): Clears a B-space bit. -/
  | clrb (e : Eng) (i : Word)
  /-- INVB (R174): Inverts a bit in one read-modify-write. -/
  | invb (e : Eng) (i : Word)
  /-- TASB (R174): Tests and sets a bit indivisibly. -/
  | tasb (e : Eng) (i : Word)
  /-- BRDC (R174): Reads a bit into an operand-stack cell. -/
  | brdc (e : Eng)
  /-- BWRC (R174): Writes bit 0 of a cell to a bit. -/
  | bwrc (e : Eng)
  /-- BRDW (R174): Reads 32 consecutive bits into a cell. -/
  | brdw (e : Eng)
  /-- BWRW (R174): Writes a cell to 32 consecutive bits. -/
  | bwrw (e : Eng)
  /-- LAND (R174): ANDs the top two logic-stack bits. -/
  | land (e : Eng)
  /-- LOR (R174): ORs the top two logic-stack bits. -/
  | lor (e : Eng)
  /-- LXOR (R174): XORs the top two logic-stack bits. -/
  | lxor (e : Eng)
  /-- LNOT (R174): Inverts the logic-stack top. -/
  | lnot (e : Eng)
  /-- LDUP (R174): Duplicates the logic-stack top. -/
  | ldup (e : Eng)
  /-- LDROP (R174): Drops the logic-stack top. -/
  | ldrop (e : Eng)
  /-- LSWAP (R174): Swaps the top two logic-stack bits. -/
  | lswap (e : Eng)
  /-- LCLR (R174): Empties the logic stack. -/
  | lclr (e : Eng)
  /-- LPUSH (R174): Moves bit 0 of a cell onto the logic stack. -/
  | lpush (e : Eng)
  /-- LPOP (R174): Moves the logic-stack top to a cell. -/
  | lpop (e : Eng)
  /-- LBZ (R174): Branches if the popped logic bit is 0. -/
  | lbz (e : Eng) (i : BitVec 8)
  /-- LBNZ (R174): Branches if the popped logic bit is 1. -/
  | lbnz (e : Eng) (i : BitVec 8)
  /-- EDGR (R175): Detects a rising edge against an edge-memory bit. -/
  | edgr (e : Eng) (i : Word)
  /-- EDGF (R175): Detects a falling edge against an edge-memory bit. -/
  | edgf (e : Eng) (i : Word)
  /-- EDGRS (R175): Rising-edge detection at a popped address. -/
  | edgrs (e : Eng)
  /-- EDGFS (R175): Falling-edge detection at a popped address. -/
  | edgfs (e : Eng)
  /-- TON (R179): Runs an on-delay timer block. -/
  | ton (e : Eng)
  /-- TOF (R179): Runs an off-delay timer block. -/
  | tof (e : Eng)
  /-- TP (R179): Runs a pulse timer block. -/
  | tp (e : Eng)
  /-- TRST (R179): Resets a timer block. -/
  | trst (e : Eng)
  /-- CTU (R180): Runs an up-counter block. -/
  | ctu (e : Eng)
  /-- CTD (R180): Runs a down-counter block. -/
  | ctd (e : Eng)
  /-- CTUD (R180): Runs an up-down counter block. -/
  | ctud (e : Eng)
  /-- MOVB (R181): Moves one byte from SRCP to DSTP. -/
  | movb (e : Eng)
  /-- MOVW (R181): Moves one word upward. -/
  | movw (e : Eng)
  /-- MOVWD (R181): Moves one word downward. -/
  | movwd (e : Eng)
  /-- STOB (R181): Stores a byte at DSTP. -/
  | stob (e : Eng)
  /-- STOW (R181): Stores a word at DSTP. -/
  | stow (e : Eng)
  /-- CMPB (R181): Compares bytes at SRCP and DSTP. -/
  | cmpb (e : Eng)
  /-- CMPW (R181): Compares words at SRCP and DSTP. -/
  | cmpw (e : Eng)
  /-- SCAB (R181): Compares a byte at DSTP with an operand. -/
  | scab (e : Eng)
  /-- SCAW (R181): Compares a word at DSTP with an operand. -/
  | scaw (e : Eng)
  /-- BMOV (R181): Moves one B-space bit. -/
  | bmov (e : Eng)
  /-- BSTO (R181): Stores a bit at DSTP. -/
  | bsto (e : Eng)
  /-- XCHW (R181): Exchanges a word with memory. -/
  | xchw (e : Eng)
  /-- ADDW (R181): Adds to a memory word and returns the old value. -/
  | addw (e : Eng)
  /-- REP (R187): Repeats a move or store instruction RCNT times with resumable chunks. -/
  | rep (e : Eng) (op : Byte) (imm : Word)
  /-- REPZ (R187): Repeats a compare or scan while Z = 1. -/
  | repz (e : Eng) (op : Byte) (imm : Word)
  /-- REPNZ (R187): Repeats a compare or scan while Z = 0. -/
  | repnz (e : Eng) (op : Byte) (imm : Word)
  /-- LOCK (R186): Runs XCHW or ADDW as one indivisible tarn or Pond access. -/
  | lock (e : Eng) (op : Byte) (imm : Word)
  /-- MUL (R154): Signed 32-bit multiply, low word. -/
  | mul (e : Eng)
  /-- MULU (R154): Unsigned 32-bit multiply, low word. -/
  | mulu (e : Eng)
  /-- MULD (R154): Signed 64-bit product. -/
  | muld (e : Eng)
  /-- MULUD (R154): Unsigned 64-bit product. -/
  | mulud (e : Eng)
  /-- DIVMOD (R155): Signed division with remainder. -/
  | divmod (e : Eng)
  /-- DIVMODU (R155): Unsigned division with remainder. -/
  | divmodu (e : Eng)
  /-- DADJ (R158): Decimal-adjusts a word. -/
  | dadj (e : Eng)
  /-- DADJD (R158): Decimal-adjusts a double. -/
  | dadjd (e : Eng)
  /-- BADD (R156): Adds 8-digit BCD values. -/
  | badd (e : Eng)
  /-- BSUB (R156): Subtracts 8-digit BCD values. -/
  | bsub (e : Eng)
  /-- BADDD (R156): Adds 16-digit BCD values. -/
  | baddd (e : Eng)
  /-- BSUBD (R156): Subtracts 16-digit BCD values. -/
  | bsubd (e : Eng)
  /-- BCD2B (R157): Converts 8-digit BCD to binary. -/
  | bcd2b (e : Eng)
  /-- B2BCD (R157): Converts binary to 8-digit BCD. -/
  | b2bcd (e : Eng)
  /-- BCD2BD (R157): Converts 16-digit BCD to binary. -/
  | bcd2bd (e : Eng)
  /-- B2BCDD (R157): Converts a double to 16-digit BCD. -/
  | b2bcdd (e : Eng)
  /-- SVC (R191): Enters the supervisor call entry of its number. -/
  | svc (e : Eng) (i : BitVec 8)
  /-- RETX (R201): Returns from an exception frame. -/
  | retx (e : Eng)
  /-- WGATE (R210): Calls a registered gate into the other world. -/
  | wgate (e : Eng) (i : BitVec 16)
  /-- WGATE_RETURN (R211): WGATE 0xFFFF returns from the open gate call. -/
  | wgateReturn (e : Eng)
  /-- RDC (R119): Pushes a control register. -/
  | rdc (e : Eng) (i : BitVec 8)
  /-- WRC (R119): Writes a control register from a popped cell. -/
  | wrc (e : Eng) (i : BitVec 8)
  /-- WAIT (R166): Stops issue until an interrupt, wake or stop. -/
  | wait (e : Eng)
  /-- SYNC (R167): Retires once earlier writes are acknowledged. -/
  | sync (e : Eng)
  /-- PFH (R168): Requests a prefetch of a cache line. -/
  | pfh (e : Eng)
  /-- DADD (R169): Adds two doubles. -/
  | dadd (e : Eng)
  /-- DSUB (R169): Subtracts two doubles. -/
  | dsub (e : Eng)
  /-- DNEG (R169): Negates a double. -/
  | dneg (e : Eng)
  /-- DCMP (R169): Compares two doubles. -/
  | dcmp (e : Eng)
  /-- DSHL (R169): Shifts a double left. -/
  | dshl (e : Eng)
  /-- DSHR (R169): Logical shift right of a double. -/
  | dshr (e : Eng)
  /-- DSAR (R169): Arithmetic shift right of a double. -/
  | dsar (e : Eng)
  /-- DSEX (R169): Sign-extends a word to a double. -/
  | dsex (e : Eng)
  /-- DZEX (R169): Zero-extends a word to a double. -/
  | dzex (e : Eng)
  /-- RESERVED_OPCODE (R146): Decoding a reserved or illegal opcode raises Illegal Instruction. -/
  | reservedOpcode (e : Eng) (op op2 : Byte)
  /-- INTERRUPT_ENTRY (R362): An engine takes a presented interrupt line and starts the group hold-off. -/
  | interruptEntry (e : Eng)
  /-- DOORBELL (R351): A write to ICU_DBELL sets a source pending, subject to world checks. -/
  | doorbell (m : Mst) (v : Word)
  /-- HOLD_OFF_END (R364): A group hold-off count expires and its sources become candidates again. -/
  | holdOffEnd (j : Fin 32)
  /-- ICU_BADDB_READ (R354): Reads and clears the refused-doorbell counts. -/
  | icuBaddbRead (m : Mst)
  /-- ICU_EMPTY_READ (R365): Reads and clears a target's empty-entry count. -/
  | icuEmptyRead (m : Mst) (t : Fin 33)
  /-- TB_NOWL_READ (R39): Reads TB_NOW low word and captures the high word for the master. -/
  | tbNowlRead (m : Mst)
  /-- TB_SETL_WRITE (R42): Stores the low half of a TB_NOW load value. -/
  | tbSetlWrite (m : Mst) (v : Word)
  /-- TB_SETH_WRITE (R42): Loads TB_NOW, or is refused with SETREJ. -/
  | tbSethWrite (m : Mst) (v : Word)
  /-- TB_PPS_EDGE (R45): A TB_PPS rising edge measures the error and steps or slews TB_NOW. -/
  | tbPpsEdge
  /-- PPS_MISS (R46): No TB_PPS edge within 1,000,500 µs sets PPSMISS and clears LOCK. -/
  | ppsMiss
  /-- MAJOR_CYCLE_BOUNDARY (R23): TB_NOW reaches a cycle start and SCHED runs steps 1 to 7 of the boundary. -/
  | majorCycleBoundary
  /-- AGREEMENT_TIMEOUT (R64): The twin agreement wait of step 4 expires and the primary proceeds alone. -/
  | agreementTimeout
  /-- RECORD_WAIT_TIMEOUT (R273): The step-2 wait for a twin outcome record expires. -/
  | recordWaitTimeout
  /-- GLADE_START (R65): At its start time a Glade cleans L1, reseeds, arms the Weir and releases the engines. -/
  | gladeStart (k : Fin 64)
  /-- WEIR_TRIP (R70): A Weir count exceeds its budget and trips the Grove. -/
  | weirTrip (g : Grv)
  /-- WINDOW_END (R70): A Glade window end reaches SCHED and trips the Grove. -/
  | windowEnd (g : Grv)
  /-- GROVE_STOP (R70): A tripped Grove reaches its stop point. -/
  | groveStop (g : Grv)
  /-- SCHED_DONE (R67): A write to SCHED_DONE ends a Grove's part of its Glade. -/
  | schedDone (m : Mst)
  /-- OUTLET_COMMIT (R406): 16 cycles after done the outlet is committed with the retain header. -/
  | outletCommit (a : App)
  /-- DIVERSE_COMPARISON (R258): The comparison of the two Diverse outlet parts completes. -/
  | diverseComparison (a : App)
  /-- OUTLET_CHECK (R259): The outlet check value job starts when its vital channel is free. -/
  | outletCheck (a : App)
  /-- OUTLET_CHECK_DONE (R272): The outlet check value is ready and the outcome record is sent. -/
  | outletCheckDone (a : App)
  /-- SCHED_ENABLE (R49): A write of EN = 1 validates a bank and starts scheduling. -/
  | schedEnable (m : Mst) (v : Word)
  /-- SCHED_DISABLE (R520): A write of EN = 0 stops Glades and scheduling. -/
  | schedDisable (m : Mst) (v : Word)
  /-- SWAP_REQUEST (R58): A write of SWAPREQ validates the other bank and arms a swap. -/
  | swapRequest (m : Mst) (v : Word)
  /-- SCHED_CYCL_READ (R52): Reads the cycle number and captures its high word. -/
  | schedCyclRead (m : Mst)
  /-- SCHED_OVRCNT_READ (R78): Reads overrun history and clears TOTAL. -/
  | schedOvrcntRead (m : Mst) (a : App)
  /-- EDIT_ARM (R243): A write of ARM = 1 arms an edit and loads the pending shadow. -/
  | editArm (m : Mst) (v : Word)
  /-- EDIT_SHADOW_LOADED (R243): The pending shadow read completes and ARM reads 1, or FAIL is set. -/
  | editShadowLoaded
  /-- EDIT_DISARM (R243): A write of ARM = 0 disarms an edit with REASON 0x0F. -/
  | editDisarm (m : Mst) (v : Word)
  /-- IMG_SEGMENT_WRITE (R82): A write to an image segment register is checked against the whole configuration. -/
  | imgSegmentWrite (m : Mst) (r : SegReg) (a : App) (v : Word)
  /-- ROUTE_TABLE_WRITE (R96): A write to IMG_RTBL starts copying and validating a route table. -/
  | routeTableWrite (m : Mst) (v : Word)
  /-- ROUTE_TABLE_DECISION (R96): Route table validation completes, queueing or refusing the table. -/
  | routeTableDecision
  /-- INLET_ROUTE (R98): The fabric applies an inlet route on sweep or source update. -/
  | inletRoute (i : Fin 1024)
  /-- OUTLET_ROUTE (R101): The fabric runs an outlet route to a Shore item or transmit queue. -/
  | outletRoute (i : Fin 1024)
  /-- ATTACH_DEPOSIT (R105): A controller burst deposits a frame record into a port FIFO. -/
  | attachDeposit (p : Grv) (off : Nat) (ws : List Word)
  /-- ATTACH_RECORD (R108): The attach engine filters a FIFO record and stores or discards it. -/
  | attachRecord (p : Grv)
  /-- BUFFER_CLEAR (R113): A write to buffer word 0 clears NEWD or OVW if SEQ matches. -/
  | bufferClear (m : Mst) (p : Grv) (b : Fin 64) (v : Word)
  /-- TRANSMIT_RECORD_READ (R115): A read burst at +0x800 pops a transmit record. -/
  | transmitRecordRead (p : Grv) (beats : Nat)
  /-- ATT_DROP_READ (R118): Reads and clears a port's drop count. -/
  | attDropRead (m : Mst) (p : Grv)
  /-- HEARTBEAT_SEND (R296): Every 10 µs a node sends a HEARTBEAT on both ports. -/
  | heartbeatSend
  /-- HEARTBEAT (R297): A received heartbeat measures delay and may bring the port UP. -/
  | heartbeat (p : Port) (f : Frame)
  /-- LINK_LOSS (R298): 30 µs without an intact heartbeat marks the port not UP. -/
  | linkLoss (p : Port)
  /-- LINK_DOWN (R298): A received LINK_DOWN report is forwarded and queued for application. -/
  | linkDown (p : Port) (f : Frame)
  /-- LINK_UP (R297): A received LINK_UP report is forwarded and queued for application. -/
  | linkUp (p : Port) (f : Frame)
  /-- TOPO_SEND (R299): Every 1 ms a node floods a TOPO. -/
  | topoSend
  /-- TOPO (R299): A received TOPO report is queued for application. -/
  | topo (p : Port) (f : Frame)
  /-- REPORT_APPLY (R299): At TSTAMP + RPTDLY a report updates the link graph and reachable set. -/
  | reportApply
  /-- SYNC_SEND (R303): The acting manager sends a SYNC at every 100 µs multiple. -/
  | syncSend
  /-- SYNC_FRAME (R303): A received SYNC updates CORR or disciplines TB_NOW. -/
  | syncFrame (p : Port) (f : Frame)
  /-- SYNCMISS (R303): No SYNC for 1 ms clears LOCK and sets SYNCMISS. -/
  | syncmiss
  /-- BEACON (R304): A received BEACON supplies roster and WIT0 and is checked. -/
  | beacon (p : Port) (f : Frame)
  /-- JOIN_REQ_SEND (R306): An unadmitted node sends a JOIN_REQ every 1 ms or retries every 10 ms. -/
  | joinReqSend
  /-- JOIN_REQ (R306): The acting manager answers a JOIN_REQ. -/
  | joinReq (p : Port) (f : Frame)
  /-- JOIN_ACK (R306): A received JOIN_ACK admits or refuses the node. -/
  | joinAck (p : Port) (f : Frame)
  /-- ROSTER_REMOVAL (R307): A node outside the settled set for 10 ms leaves the roster. -/
  | rosterRemoval (n : Fin 63)
  /-- ITEM (R312): A received ITEM copy is accepted into its slot or refused. -/
  | item (p : Port) (f : Frame)
  /-- UNKNOWN_FRAME (R290): A frame of unknown TYPE or failing HCRC is dropped. -/
  | unknownFrame (p : Port) (f : Frame)
  /-- FRAME_TRANSMIT (R291): A free port transmitter starts the next frame in class order. -/
  | frameTransmit (p : Port)
  /-- ITEM_TABLE_WRITE (R310): A write to SHR_ITCNT validates the item table. -/
  | itemTableWrite (m : Mst) (v : Word)
  /-- SHR_ERR_READ (R320): Reads and clears a port's error counts. -/
  | shrErrRead (m : Mst) (p : Port)
  /-- SHR_ALIVE_TIMEOUT (R317): Missing SHR alive strobes stop SPILL_KEEP. -/
  | shrAliveTimeout
  /-- SNAP (R274): A standby receives snapshot words and checks them. -/
  | snap (p : Port) (f : Frame)
  /-- AGREE (R274): The primary receives agreement and completes step 4. -/
  | agree (p : Port) (f : Frame)
  /-- REFUSE (R274): The primary receives a refusal and drops the twin. -/
  | refuse (p : Port) (f : Frame)
  /-- RECORD (R273): A twin outcome record arrives and the pair is judged. -/
  | record (p : Port) (f : Frame)
  /-- HANDOFF (R278): The standby receives HANDOFF and enters Run. -/
  | handoff (p : Port) (f : Frame)
  /-- TWIN_DROP (R275): A standby in MISS receives TWIN_DROP and enters Safe Hold. -/
  | twinDrop (p : Port) (f : Frame)
  /-- DEPART (R279): A departing message reports the primary lost. -/
  | depart (p : Port) (f : Frame)
  /-- LEFT (R279): A twin reports it has left Run or Tracking. -/
  | left (p : Port) (f : Frame)
  /-- MISS_TIMEOUT (R275): No primary-lost report within 40 µs of a miss sends the standby to Safe Hold. -/
  | missTimeout
  /-- HANDOFF_TIMEOUT (R278): The standby's wait for HANDOFF expires. -/
  | handoffTimeout
  /-- EDIT_PREP (R247): The standby checks its staging and arms the edit. -/
  | editPrep (p : Port) (f : Frame)
  /-- EDIT_PREPD (R247): The primary receives the standby's edit result and arms. -/
  | editPrepd (p : Port) (f : Frame)
  /-- EDIT_ABRT (R247): The standby disarms an edit. -/
  | editAbrt (p : Port) (f : Frame)
  /-- SW_PREP (R278): The standby checks and arms a switchover. -/
  | swPrep (p : Port) (f : Frame)
  /-- SW_PREPD (R278): The primary arms the switchover. -/
  | swPrepd (p : Port) (f : Frame)
  /-- SW_ABRT (R278): The standby disarms a switchover. -/
  | swAbrt (p : Port) (f : Frame)
  /-- JOIN_COPY (R270): A joining device receives copied vital state. -/
  | joinCopy (p : Port) (f : Frame)
  /-- JOIN_COPY_SEND (R270): In a quiet interval the primary copies an Application's state. -/
  | joinCopySend (a : App)
  /-- LOCKSTEP_MISCOMPARE (R257): The checker differs from the leader and the Grove stops. -/
  | lockstepMiscompare (g : Grv)
  /-- GROVE_FENCE (R260): A Grove is fenced and its cycles discarded. -/
  | groveFence (g : Grv)
  /-- SPARE_CHOICE (R263): The Wellspring chooses a Spare and writes GRV_SUBg. -/
  | spareChoice (g : Grv)
  /-- SPARE_PREPARATION (R263): The Wellspring cleans and zeroes a new Spare. -/
  | sparePreparation (g : Grv)
  /-- GRV_ERDAT_WRITE (R255): Writes an engine register of an idle Grove. -/
  | grvErdatWrite (m : Mst) (v : Word)
  /-- GRV_FENCE_WRITE (R261): A write of 1 fences an engine. -/
  | grvFenceWrite (m : Mst) (v : Word)
  /-- GRV_UNFENCE_WRITE (R261): Unfences Groves and makes them Spares. -/
  | grvUnfenceWrite (m : Mst) (v : Word)
  /-- WSP_FAULT (R408): A Wellspring miscompare or World Fault sends the device to Safe Hold. -/
  | wspFault
  /-- BOUNDARY_SEQUENCER_MISCOMPARE (R218): A boundary sequencer miscompare sends the device to Safe Hold. -/
  | boundarySequencerMiscompare
  /-- SAFE_HOLD_ENTRY (R408): FLT takes the device to Safe Hold within 1 µs. -/
  | safeHoldEntry
  /-- FAULT_RECORD (R412): FLT stores a fault record and notifies the Wellspring. -/
  | faultRecord (r : FaultInfo)
  /-- FLT_ACK_WRITE (R414): Releases fault records up to SEQ. -/
  | fltAckWrite (m : Mst) (v : Word)
  /-- FLT_LOST_READ (R414): Reads and clears the lost-record count. -/
  | fltLostRead (m : Mst)
  /-- CLOCK_FAULT (R403): A clock monitor finds a fault and takes its action. -/
  | clockFault (c : Fin 6)
  /-- CVU_INIT (R372): Starts a general-unit computation. -/
  | cvuInit (m : Mst) (u : Grv)
  /-- CVU_GO (R375): Starts a feeder job. -/
  | cvuGo (m : Mst) (u : Grv)
  /-- CVU_FIN (R374): Forms the result and compares it with EXP. -/
  | cvuFin (m : Mst) (u : Grv)
  /-- CVU_STOP (R376): Stops a feeder job. -/
  | cvuStop (m : Mst) (u : Grv)
  /-- CVU_FEEDB (R373): Feeds one byte. -/
  | cvuFeedb (m : Mst) (u : Grv) (v : Word)
  /-- CVU_FEEDH (R373): Feeds a half-word. -/
  | cvuFeedh (m : Mst) (u : Grv) (v : Word)
  /-- CVU_FEEDW (R373): Feeds a word. -/
  | cvuFeedw (m : Mst) (u : Grv) (v : Word)
  /-- FEEDER_CHUNK (R376): A feeder chunk arrives and is processed. -/
  | feederChunk (u : Grv)
  /-- CVU_VGO (R380): Starts a vital software job. -/
  | cvuVgo (m : Mst) (c : Grv)
  /-- SOFTWARE_JOB_DONE (R380): A vital software job completes. -/
  | softwareJobDone (c : Grv)
  /-- JOURNALED_WRITE_EFFECT (R392): A journal entry completes and the write takes effect. -/
  | journaledWriteEffect
  /-- JRN_ACK_WRITE (R399): Releases journal entries up to SEQ. -/
  | jrnAckWrite (m : Mst) (v : Word)
  /-- JOURNAL_RELEASE (R395): JRN complements word 7 of a released entry. -/
  | journalRelease
  /-- JRN_REJCNT_READ (R399): Reads and clears the refusal count. -/
  | jrnRejcntRead (m : Mst)
  /-- ACT_VCNT_READ (R386): Reads and clears the denial count. -/
  | actVcntRead (m : Mst)
  /-- SCRUB_READ (R347): A scrub read falls due and checks one word. -/
  | scrubRead (t : Tarn)
  /-- CORRECTION_WRITE (R341): A queued correction write rewrites a word. -/
  | correctionWrite (t : Tarn)
  /-- TARN_OWN_WRITE (R344): A write requests a change of a tarn's owner. -/
  | tarnOwnWrite (m : Mst) (t : Tarn) (v : Word)
  /-- OWNER_CHANGE (R345): The new owner takes effect once the tarn is free. -/
  | ownerChange (t : Tarn)
  /-- TARN_CECNT_READ (R350): Reads and clears corrected-word count. -/
  | tarnCecntRead (m : Mst)
  /-- TARN_UECNT_READ (R350): Reads and clears uncorrectable count. -/
  | tarnUecntRead (m : Mst)
  /-- RETENTION_ENTRY (R348): A tarn group enters retention. -/
  | retentionEntry (k : Fin 15)
  /-- RETENTION_WAKE (R510): A wake cause lowers PWR_RET for a group. -/
  | retentionWake (k : Fin 15)
  /-- PWR_ROK_RISE (R510): PWR_ROK rises and the group counts as retained. -/
  | pwrRokRise (k : Fin 15)
  /-- PWR_ROK_FALL (R510): PWR_ROK falls during a wake. -/
  | pwrRokFall (k : Fin 15)
  /-- WAKE_COMPLETE (R510): A group wake completes and waiting requests proceed. -/
  | wakeComplete (k : Fin 15)
  /-- RETENTION_WAKE_FAIL (R510): PWR_ROK has not fallen 100 µs after wake; group unusable. -/
  | retentionWakeFail (k : Fin 15)
  /-- INVALIDATE (R338): CMX invalidates a range or whole caches. -/
  | invalidate (m : Mst) (v : Word)
  /-- CLEAN (R337): CMX writes back dirty lines of a range. -/
  | clean (m : Mst) (v : Word)
  /-- CLEAN_AND_INVALIDATE (R338): CMX writes back and invalidates a range. -/
  | cleanAndInvalidate (m : Mst) (v : Word)
  /-- PRELOAD_AND_LOCK (R337): CMX fills and locks Lake lines. -/
  | preloadAndLock (m : Mst) (v : Word)
  /-- UNLOCK (R338): CMX clears Lake line locks. -/
  | unlock (m : Mst) (v : Word)
  /-- POND_LOAD (R337): CMX loads a range into an I-Pond. -/
  | pondLoad (m : Mst) (v : Word)
  /-- CMX_COMPLETION (R337): The last line and fill complete; BUSY clears and DONE sets. -/
  | cmxCompletion
  /-- LAKE_FILL (R329): A Lake fill completes and the line is installed. -/
  | lakeFill (id : Fin 128)
  /-- POND_CONVERSION (R327): A write of CMX_PONDg converts cache ways. -/
  | pondConversion (m : Mst) (g : Grv) (v : Word)
  /-- POND_ZERO (R327): ZERO writes 0 to every Pond word. -/
  | pondZero (m : Mst) (g : Grv) (v : Word)
  /-- POND_OPERATION_DONE (R327): A Pond conversion or zeroing completes. -/
  | pondOperationDone (g : Grv)
  /-- CMX_SKIP_READ (R335): Reads and clears the skip count. -/
  | cmxSkipRead (m : Mst)
  /-- CMX_PERR_READ (R335): Reads and clears masked parity counts. -/
  | cmxPerrRead (m : Mst)
  /-- NCHM_READ_RESPONSE (R504): A read response arrives on NCH-M. -/
  | nchmReadResponse (id : Fin 128) (resp : BitVec 2) (data : Line)
  /-- NCHM_WRITE_ACK (R504): A write acknowledge arrives on NCH-M. -/
  | nchmWriteAck (id : Fin 64) (resp : BitVec 2)
  /-- NCHM_TIMEOUT (R503): A request without response for 1 ms completes as ERR. -/
  | nchmTimeout (id : Byte)
  /-- NCHS_BAD_REQUEST (R500): A misaligned or 4 KiB-crossing host request gets an error. -/
  | nchsBadRequest (addr : BitVec 20) (len : BitVec 4) (wr : Bool)
  /-- HOST_TARN_WINDOW_ACCESS (R507): A host access through a tarn window. -/
  | hostTarnWindowAccess (h : Chan) (w : Fin 6) (x : BusReq)
  /-- EXPERT_WINDOW_ACCESS (R440): A host access through the expert window. -/
  | expertWindowAccess (h : Chan) (x : BusReq)
  /-- MBX_GO (R426): A GO write submits a channel's command. -/
  | mbxGo (h : Chan) (c : Chan) (v : Word)
  /-- MBX_ACK (R426): An ACK write releases a response. -/
  | mbxAck (h : Chan) (c : Chan) (v : Word)
  /-- MBX_EVENT_READ (R424): A host read pops the oldest event. -/
  | mbxEventRead (h : Chan)
  /-- MBX_EVSTAT_READ (R424): Reads and clears the lost-event count. -/
  | mbxEvstatRead (h : Chan)
  /-- MBX_WINSTAT_READ (R439): Reads and clears refused window accesses. -/
  | mbxWinstatRead (h : Chan)
  /-- CHANNEL_ABORT (R442): After WSP_FAULT the channel logic aborts running commands. -/
  | channelAbort (c : Chan)
  /-- UNKNOWN_COMMAND (R430): A command with an unknown CODE completes with UNKNOWN. -/
  | unknownCommand (c : Chan)
  /-- AUTH_TIMEOUT (R431): No AUTH within 1 s closes the session. -/
  | authTimeout (sid : BitVec 16)
  /-- AUTH_LOCKOUT_END (R431): The 1 s OPEN_SESSION lockout ends. -/
  | authLockoutEnd (h : Chan)
  /-- SESSION_TIMEOUT (R432): A session idle timeout closes it. -/
  | sessionTimeout (sid : BitVec 16)
  /-- GET_INFO (R433): Returns identification and state. -/
  | getInfo (c : Chan)
  /-- OPEN_SESSION (R431): Opens a session and returns SID and NONCE. -/
  | openSession (c : Chan)
  /-- AUTH (R431): Authenticates a session. -/
  | auth (c : Chan)
  /-- CLOSE_SESSION (R432): Closes a session. -/
  | closeSession (c : Chan)
  /-- SET_PROFILE (R436): Installs a host access profile. -/
  | setProfile (c : Chan)
  /-- APP_DEFINE (R433): Defines an Application. -/
  | appDefine (c : Chan)
  /-- APP_REMOVE (R433): Removes an Application. -/
  | appRemove (c : Chan)
  /-- SCHEDULE_SET (R433): Writes a schedule and enables or swaps it. -/
  | scheduleSet (c : Chan)
  /-- FILTER_SET (R433): Writes a filter list and its pointer. -/
  | filterSet (c : Chan)
  /-- ROUTES_SET (R433): Writes a route table and IMG_RTBL. -/
  | routesSet (c : Chan)
  /-- ITEMS_SET (R433): Writes an item table and its registers. -/
  | itemsSet (c : Chan)
  /-- START (R433): Starts the device in a role. -/
  | start (c : Chan)
  /-- SWITCHOVER (R278): Starts a planned switchover. -/
  | switchover (c : Chan)
  /-- SAFE_HOLD (R409): Enters Safe Hold. -/
  | safeHold (c : Chan)
  /-- EDIT_STAGE (R237): Stages an edit. -/
  | editStage (c : Chan)
  /-- EDIT_COMMIT (R247): Runs the two-phase commit. -/
  | editCommit (c : Chan)
  /-- EDIT_ABORT (R249): Aborts an armed edit. -/
  | editAbort (c : Chan)
  /-- READ_FAULTS (R433): Returns and optionally releases fault records. -/
  | readFaults (c : Chan)
  /-- READ_JOURNAL (R433): Returns journal entries. -/
  | readJournal (c : Chan)
  /-- ACK_JOURNAL (R433): Releases journal entries. -/
  | ackJournal (c : Chan)
  /-- READ_STATUS (R433): Returns 16 status words. -/
  | readStatus (c : Chan)
  /-- LOAD_BEGIN (R435): Opens a load object. -/
  | loadBegin (c : Chan)
  /-- LOAD_DATA (R435): Writes a load chunk. -/
  | loadData (c : Chan)
  /-- LOAD_END (R435): Checks a load object's CRC. -/
  | loadEnd (c : Chan)
  /-- LOAD_CANCEL (R433): Frees the session's object. -/
  | loadCancel (c : Chan)
  /-- MAINT_ENTER (R437): Enters Maintenance. -/
  | maintEnter (c : Chan)
  /-- MAINT_LEAVE (R437): Leaves Maintenance for Config. -/
  | maintLeave (c : Chan)
  /-- SAFE_CLEAR (R437): Leaves Safe Hold for Config. -/
  | safeClear (c : Chan)
  /-- SET_ACCESS (R437): Writes one access-table entry. -/
  | setAccess (c : Chan)
  /-- SET_REGION (R437): Writes an outer-memory region. -/
  | setRegion (c : Chan)
  /-- GROVE_MODE (R437): Writes a Grove mode and Ponds. -/
  | groveMode (c : Chan)
  /-- FENCE (R437): Writes GRV_FENCE. -/
  | fence (c : Chan)
  /-- UNFENCE (R437): Self-tests and unfences a Grove. -/
  | unfence (c : Chan) (pass : Bool)
  /-- TWIN_BIND (R437): Writes GRV_TWCTL. -/
  | twinBind (c : Chan)
  /-- RING_CONFIG (R437): Writes ring and quorum configuration. -/
  | ringConfig (c : Chan)
  /-- TIME_CONFIG (R437): Writes time and cycle configuration. -/
  | timeConfig (c : Chan)
  /-- TARN_CONFIG (R437): Writes scrub, retention and owners. -/
  | tarnConfig (c : Chan)
  /-- CVU_CONFIG (R437): Writes CVU_VCFG and ICU_PRIGRP. -/
  | cvuConfig (c : Chan)
  /-- ICU_CONFIG (R437): Writes a source and its hold-off. -/
  | icuConfig (c : Chan)
  /-- FW_INFO (R457): Returns firmware and record information. -/
  | fwInfo (c : Chan)
  /-- FW_ERASE (R457): Erases a firmware slot. -/
  | fwErase (c : Chan)
  /-- FW_WRITE (R457): Programs firmware bytes. -/
  | fwWrite (c : Chan)
  /-- FW_VERIFY (R457): Checks a slot. -/
  | fwVerify (c : Chan)
  /-- FW_ACTIVATE (R457): Sets a slot to try once. -/
  | fwActivate (c : Chan)
  /-- FW_CONFIRM (R457): Commits the trial slot. -/
  | fwConfirm (c : Chan)
  /-- DEVICE_RESET (R457): Sends LEFT and resets the device. -/
  | deviceReset (c : Chan)
  /-- WD_CONFIG (R457): Writes watchdog channel owners and period. -/
  | wdConfig (c : Chan)
  /-- PATCH_LOCK (R226): A write of LOCK makes matches live. -/
  | patchLock (m : Mst) (v : Word)
  /-- PATCH_CLEAR (R225): CLR zeroes patch words and matches. -/
  | patchClear (m : Mst) (v : Word)
  /-- PATCH_DATA_WRITE (R225): Writes a patch lane and advances. -/
  | patchDataWrite (m : Mst) (v : Word)
  /-- ID_UERR_READ (R225): Reads and clears corrected store errors. -/
  | idUerrRead (m : Mst)
  /-- CHECK_IN (R464): A write to WDI_CHKk is forwarded or dropped. -/
  | checkIn (m : Mst) (k : Grv) (v : Word)
  /-- PERIOD_CHANGE (R466): A write of WDI_SET forwards a period code. -/
  | periodChange (m : Mst) (v : Word)
  /-- WDI_CNT_READ (R462): Reads and clears dropped check-in counts. -/
  | wdiCntRead (m : Mst)
  /-- WD_OPEN_RISE (R463): A watchdog window opens. -/
  | wdOpenRise
  /-- WD_OPEN_FALL (R463): A watchdog window closes. -/
  | wdOpenFall
  /-- WD_BITE (R468): Accepted bite: Safe Hold and PC freeze. -/
  | wdBite
  /-- BITE_CAPTURE (R468): Writes the 33 capture records. -/
  | biteCapture
  /-- VMON_SAG1 (R416): Accepted SAG1 sheds trace and prefetch. -/
  | vmonSag1
  /-- VMON_SAG2 (R417): Accepted SAG2 stops Auxiliary Glades. -/
  | vmonSag2
  /-- VMON_LOSS (R418): Accepted LOSS starts the power-loss sequence. -/
  | vmonLoss
  /-- VMON_RISE (R415): A higher level held 1 ms takes effect. -/
  | vmonRise (l : VLevel)
  /-- PWR_SAFE_ASSERT (R418): PWR_SAFE is asserted after LOSS. -/
  | pwrSafeAssert
  /-- PWR_LOSSMK_WRITE (R420): Writes the journal mark after LOSS. -/
  | pwrLossmkWrite (m : Mst) (v : Word)
  /-- PWR_VCNT_READ (R420): Reads and clears sag counts. -/
  | pwrVcntRead (m : Mst)
  /-- GROVE_POWER_DOWN (R509): An idle Grove domain is gated. -/
  | grovePowerDown (g : Grv)
  /-- GROVE_POWER_UP (R509): A gated Grove domain is requested up. -/
  | grovePowerUp (g : Grv)
  /-- PWR_GOK_RISE (R509): Supply reported in range. -/
  | pwrGokRise (g : Grv)
  /-- PWR_GOK_FALL (R509): Supply falls while requested; Grove fenced. -/
  | pwrGokFall (g : Grv)
  /-- GROVE_POWER_UP_DONE (R509): Grove reset and Pond zeroing complete. -/
  | grovePowerUpDone (g : Grv)
  /-- POWER_UP_TIMEOUT (R509): No PWR_GOK 20 µs after request sets PUTO. -/
  | powerUpTimeout (g : Grv)
  /-- AON_POWER_UP (R494): AON_POR_N resets PD_AON and PD_DBG. -/
  | aonPowerUp
  /-- POWER_REMOVAL (R26): Power is removed; device Off. -/
  | powerRemoval
  /-- RESET_ASSERT (R494): A reset source is asserted. -/
  | resetAssert (r : RstSrc)
  /-- RESET_RELEASE (R495): All reset sources release. -/
  | resetRelease (witness : Bool)
  /-- FUSE_LOAD (R512): Fuse words load into the shadow. -/
  | fuseLoad (ws : List FuseWord)
  /-- COMMIT_RECORD_READ (R447): ROM reads the commit record. -/
  | commitRecordRead
  /-- SLOT_SELECTION (R454): Selects and loads a firmware slot. -/
  | slotSelection
  /-- PATCH_LOAD (R228): Loads the microcode patch. -/
  | patchLoad
  /-- TARN_BIST (R449): Runs tarn BIST and self-checks. -/
  | tarnBist (r : BistResult)
  /-- OMI_READY (R447): Journal recovery, boot record, Config. -/
  | omiReady
  /-- DEBUG_RESET (R470): DBG_RST_N resets PD_DBG and releases halts. -/
  | debugReset
  /-- TAP_RESET (R470): TRST_N resets the TAP controller. -/
  | tapReset
  /-- DEBUG_AUTH (R474): DBG_AUTH GO checks the response. -/
  | debugAuth (v : Word)
  /-- DEBUG_LOCKOUT_END (R474): The 1 s debug lockout ends. -/
  | debugLockoutEnd
  /-- HALT_GROVE (R476): Requests a Grove halt. -/
  | haltGrove (v : Word)
  /-- HALT_DEVICE (R476): Requests a device-wide halt. -/
  | haltDevice (v : Word)
  /-- GROVE_HALTED (R477): A Grove reaches its halt point. -/
  | groveHalted (g : Grv)
  /-- DEVICE_HALTED (R478): The device enters Halted. -/
  | deviceHalted
  /-- RELEASE_GROVE (R480): Releases a halted Grove. -/
  | releaseGrove (v : Word)
  /-- RELEASE_DEVICE (R480): Releases the device-wide halt. -/
  | releaseDevice (v : Word)
  /-- STEP (R480): Releases Groves for one step. -/
  | step (v : Word)
  /-- FEED (R479): Executes fed bytes on a halted engine. -/
  | feed (v : Word)
  /-- XFER_PUSH (R479): Pushes a cell on a halted engine. -/
  | xferPush (v : Word)
  /-- XFER_POP (R479): Pops a cell from a halted engine. -/
  | xferPop
  /-- VTX_READ (R486): Debugger takes the terminal word. -/
  | vtxRead
  /-- VRX_WRITE (R486): Debugger fills the terminal receive word. -/
  | vrxWrite (v : Word)
  /-- DBGV_TX_WRITE (R486): Engine sends a terminal word. -/
  | dbgvTxWrite (m : Mst) (v : Word)
  /-- DBGV_RX_READ (R486): Engine reads the receive word. -/
  | dbgvRxRead (m : Mst)
  /-- MDATA_READ (R483): Quiet read by master 46. -/
  | mdataRead
  /-- MDATA_WRITE (R483): Write by master 46. -/
  | mdataWrite (v : Word)
  /-- DEBUG_RESET_REQUEST (R475): RSTREQ asserts the debug reset. -/
  | debugResetRequest (v : Word)
  /-- TRACE_WRITE (R487): Trace FIFO writes a record. -/
  | traceWrite
  /-- DBG_TRCDROP_READ (R475): Reads and clears trace drops. -/
  | dbgTrcdropRead
  /-- REGISTER_WRITE (R12): Write to a register without its own row. -/
  | registerWrite (p : RegPath) (v : Word)
  /-- TIMEBASE_TICK (R38): Each TB_CLK tick advances TB_NOW by 10 ns, or by 9 or 11 ns while the discipline works off a measured error. -/
  | timebaseTick
  /-- BLOCK_LOCK_GAINED (R286): A Shore receive path gains block lock, with SHA_RXRDY or SHB_RXRDY at 1 and hi_ber clear, and starts taking frames. -/
  | blockLockGained (p : Port)
  /-- BLOCK_LOCK_LOST (R286): A Shore receive path loses block lock, through SHA_RXRDY or SHB_RXRDY falling or hi_ber asserting, and stops taking frames. -/
  | blockLockLost (p : Port)
  /-- SHR_ALIVE_RESUMED (R317): The SHR alive strobe returns after a gap, so SPILL_KEEP resumes toggling in a toggling state. -/
  | shrAliveResumed
  /-- FLASH_COMMAND_DONE (R451): The external flash finishes a sector erase or page program, FLC_STAT.BUSY clears and ERR reports the outcome. -/
  | flashCommandDone (err : Bool)
deriving DecidableEq, Repr

end Sys2Proof
end

