-- ==== Sys2Proof/Decode.lean ====
section
/-! DEFINITION. Words of the table of steps: no row of it gives bits. -/

namespace Sys2Proof

/-- The command a table word spells: the table of steps gives no row a bit pattern, so no word spells one. -/
def decodeTableWord (_nbits _w : Nat) : Option Instr := none

end Sys2Proof
end

