-- ==== Sys2Proof/Config.lean ====
section
/-! DEFINITION. What a delivery fixes and what the manual leaves open: constants without a body, so that no proof can
see a value. A free value is indexed by the counter `State.free` (log 3). -/

namespace Sys2Proof.Config

/-- IPVER.BUILD (R2). -/
opaque build : BitVec 16
/-- IPCFG.FORM and IPCFG.PCLASS (R29). -/
opaque form : BitVec 1
opaque pclass : BitVec 2
/-- ID_UROMID (R220). -/
opaque romId : Word
/-- Bytes of the Wellspring's ROM (R421). -/
opaque wspRom : Nat → Byte
/-- Cycles of a wait that the manual does not bound to one number: a tarn port under rotating priority (R160), the
latency of the outer memory (R160), a full write buffer (R160), the drain of SYNC (R167). -/
opaque freeWait : Nat → Nat
/-- A word whose value the manual leaves open. -/
opaque freeWord : Nat → Word

end Sys2Proof.Config
end

