-- ==== Sys2Proof/Machine/Sparse.lean ====
section
/-! DEFINITION. Reading and writing a sparse store in its canonical form, and bit fields of words. -/

namespace Sys2Proof

/-- The value at key `k`, the default `d` where none is listed. -/
def Sparse.get {α : Type} (d : α) : Sparse α → Nat → α
  | [], _ => d
  | (j, v) :: r, k => if j = k then v else Sparse.get d r k

/-- Insert into a rising list that does not list `k`. -/
def Sparse.ins {α : Type} (k : Nat) (v : α) : Sparse α → Sparse α
  | [] => [(k, v)]
  | (j, w) :: r => if k < j then (k, v) :: (j, w) :: r else (j, w) :: Sparse.ins k v r

/-- Drop key `k`. -/
def Sparse.del {α : Type} (m : Sparse α) (k : Nat) : Sparse α := m.filter fun p => p.1 ≠ k

/-- Write `v` at `k`; writing the default removes the entry, so that equal stores are equal lists. -/
def Sparse.set {α : Type} [DecidableEq α] (d : α) (m : Sparse α) (k : Nat) (v : α) : Sparse α :=
  if v = d then m.del k else (m.del k).ins k v

/-- The canonical form: keys strictly rising, no entry equal to the default. -/
abbrev Sparse.wf {α : Type} [DecidableEq α] (d : α) (m : Sparse α) : Prop :=
  (m.map Prod.fst).Pairwise (· < ·) ∧ ∀ p ∈ m, p.2 ≠ d

namespace Machine

/-- Bits [hi:lo] of a word as a number. -/
def fld (w : Word) (hi lo : Nat) : Nat := (w.toNat >>> lo) % 2 ^ (hi - lo + 1)

/-- The word with bits [hi:lo] replaced by `v`. -/
def putFld (w : Word) (hi lo v : Nat) : Word :=
  let mask := (2 ^ (hi - lo + 1) - 1) <<< lo
  (w &&& ~~~ BitVec.ofNat 32 mask) ||| BitVec.ofNat 32 ((v % 2 ^ (hi - lo + 1)) <<< lo)

/-- Bit `i` of a word. -/
def bit (w : Word) (i : Nat) : Bool := w.getLsbD i

/-- The word with bit `i` set to `b`. -/
def putBit (w : Word) (i : Nat) (b : Bool) : Word :=
  if b then w ||| BitVec.ofNat 32 (1 <<< i) else w &&& ~~~ BitVec.ofNat 32 (1 <<< i)

/-- A word from its bits, bit 0 first. -/
def ofBits : List Bool → Nat
  | [] => 0
  | b :: r => (if b then 1 else 0) + 2 * ofBits r

/-- 1 for true (boolean cells and flags). -/
def b2n (b : Bool) : Nat := if b then 1 else 0

/-- Boolean cell of R135. -/
def b2w (b : Bool) : Word := if b then 1#32 else 0#32

/-- Count up to a limit. -/
def satAdd (lim n k : Nat) : Nat := if n + k ≤ lim then n + k else lim

/-- The four bytes of a word, little-endian (R16). -/
def wordBytes (w : Word) : List Byte :=
  [w.extractLsb' 0 8, w.extractLsb' 8 8, w.extractLsb' 16 8, w.extractLsb' 24 8]

/-- A word from four bytes, little-endian (R16). -/
def bytesWord (b0 b1 b2 b3 : Byte) : Word := b3 ++ b2 ++ b1 ++ b0

/-- The bytes of a list of words in memory order. -/
def wordsBytes : List Word → List Byte
  | [] => []
  | w :: r => wordBytes w ++ wordsBytes r

/-- Words of a byte list, the last padded with zero bytes. -/
def bytesWords : List Byte → List Word
  | [] => []
  | [a] => [bytesWord a 0 0 0]
  | [a, b] => [bytesWord a b 0 0]
  | [a, b, c] => [bytesWord a b c 0]
  | a :: b :: c :: d :: r => bytesWord a b c d :: bytesWords r

/-- The `i`-th word of a list, 0 past its end. -/
def nth (ws : List Word) (i : Nat) : Word := ws.getD i 0

/-- The list with its `i`-th element replaced. -/
def putNth {α : Type} : List α → Nat → α → List α
  | [], _, _ => []
  | _ :: r, 0, v => v :: r
  | x :: r, i + 1, v => x :: putNth r i v

/-- Low and high words of a double. -/
def lo32 (d : Dbl) : Word := d.extractLsb' 0 32
def hi32 (d : Dbl) : Word := d.extractLsb' 32 32

/-- A double from its low and high words (R130, R16). -/
def dbl (lo hi : Word) : Dbl := hi ++ lo

end Machine
end Sys2Proof
end

