-- ==== Sys2Proof/Machine/Crc.lean ====
section
/-! DEFINITION. The check values of R371 and R372: one bit-serial computation over any width. -/

namespace Sys2Proof.Machine

/-- A CRC computation's parameters (R371). -/
structure CrcParam where
  width  : Nat
  poly   : Nat
  init   : Nat
  refIn  : Bool
  refOut : Bool
  xorOut : Nat
deriving DecidableEq, Repr

/-- CRC-32 (IEEE 802.3), CRC-32C, CRC-16 with polynomial 0x1021, CRC-64 (ECMA-182). -/
def crc32Param : CrcParam := ⟨32, 0x04C11DB7, 0xFFFFFFFF, true, true, 0xFFFFFFFF⟩
def crc32cParam : CrcParam := ⟨32, 0x1EDC6F41, 0xFFFFFFFF, true, true, 0xFFFFFFFF⟩
def crc16Param : CrcParam := ⟨16, 0x1021, 0xFFFF, false, false, 0⟩
def crc64Param : CrcParam := ⟨64, 0x42F0E1EBA9EA3693, 0, false, false, 0⟩

/-- Reverse the low `w` bits of a number. -/
def bitRev (w n : Nat) : Nat := (List.range w).foldl (fun acc i => acc * 2 + (n >>> i) % 2) 0

/-- One bit of a byte fed to the running value (R372). -/
def crcBit (p : CrcParam) (reg : Nat) (b : Nat) : Nat :=
  let top := ((reg >>> (p.width - 1)) % 2 + b) % 2
  let sh := (reg * 2) % 2 ^ p.width
  if top = 1 then sh ^^^ (p.poly % 2 ^ p.width) else sh

/-- One byte fed: bits 7 down to 0 of the byte, reversed first when REFIN = 1 (R372). -/
def crcByte (p : CrcParam) (reg : Nat) (b : Byte) : Nat :=
  let n := if p.refIn then bitRev 8 b.toNat else b.toNat
  [7, 6, 5, 4, 3, 2, 1, 0].foldl (fun r i => crcBit p r ((n >>> i) % 2)) reg

/-- Bytes fed in order. -/
def crcFeed (p : CrcParam) (reg : Nat) (bs : List Byte) : Nat := bs.foldl (crcByte p) reg

/-- The result formed from the running value (R372). -/
def crcFin (p : CrcParam) (reg : Nat) : Nat :=
  (if p.refOut then bitRev p.width reg else reg) ^^^ (p.xorOut % 2 ^ p.width)

/-- The check value of a byte list from the initial value. -/
def crcOf (p : CrcParam) (bs : List Byte) : Nat := crcFin p (crcFeed p (p.init % 2 ^ p.width) bs)

/-- CRC-32C over words in byte order, as journal entries, fault records and frames carry it (R289, R394, R411). -/
def crc32c (ws : List Word) : Word := BitVec.ofNat 32 (crcOf crc32cParam (wordsBytes ws))

end Sys2Proof.Machine
end

