-- ==== Sys2Proof/Machine/Regs.lean ====
section
/-! DEFINITION. The IO-space register map (R17): one row per register of the register tables of the manual, with its
address, its index range, the bits of each access code (R12) and its reset value. Addresses are IO word addresses.
The rows follow the tables rule by rule; registers whose fields hardware keeps up to date have those fields outside
every writable mask. -/

namespace Sys2Proof.Machine

/-- One register or array of registers: `base + i * stride` for `i < count`. Masks of the fields that are RW, W1C, W1S,
RC and WO (R12); `jrn` when some field is marked +J (R391); the reset word (R14). -/
structure RegRow where
  base   : Nat
  count  : Nat
  stride : Nat
  rw     : Nat
  w1c    : Nat
  w1s    : Nat
  rc     : Nat
  wo     : Nat
  jrn    : Bool
  reset  : Nat
deriving DecidableEq, Repr

namespace Reg

/-- ICU_DBELL (R352). -/
def icuDbell : Nat := 0x0100
/-- ICU_BADDB (R354). -/
def icuBaddb : Nat := 0x0101
/-- ICU_PRIGRP (R360). -/
def icuPrigrp : Nat := 0x0102
/-- ICU_STAT (R369). -/
def icuStat : Nat := 0x0103
/-- ICU_WAKEP (R369). -/
def icuWakep : Nat := 0x0104
/-- ICU_PENDk (R357). -/
def icuPend : Nat := 0x0108
/-- ICU_ENk (R357). -/
def icuEn : Nat := 0x0110
/-- ICU_MINEk (R357). -/
def icuMine : Nat := 0x0118
/-- ICU_HOLDj (R364). -/
def icuHold : Nat := 0x0120
/-- ICU_EMPTYt (R365). -/
def icuEmpty : Nat := 0x0140
/-- ICU_SRCn (R355). -/
def icuSrc : Nat := 0x0200
/-- CVU_GCFGu (R373). -/
def cvuGcfg : Nat := 0x0400
/-- CVU_GCMDu (R373). -/
def cvuGcmd : Nat := 0x0401
/-- CVU_GFOLDu (R373). -/
def cvuGfold : Nat := 0x0402
/-- CVU_GADDRu (R373). -/
def cvuGaddr : Nat := 0x0403
/-- CVU_GLENu (R373). -/
def cvuGlen : Nat := 0x0404
/-- CVU_GRUNLu (R373). -/
def cvuGrunl : Nat := 0x0405
/-- CVU_GRUNHu (R373). -/
def cvuGrunh : Nat := 0x0406
/-- CVU_GRESLu (R373). -/
def cvuGresl : Nat := 0x0407
/-- CVU_GRESHu (R373). -/
def cvuGresh : Nat := 0x0408
/-- CVU_GEXPLu (R373). -/
def cvuGexpl : Nat := 0x0409
/-- CVU_GEXPHu (R373). -/
def cvuGexph : Nat := 0x040A
/-- CVU_GFEEDBu (R373). -/
def cvuGfeedb : Nat := 0x040B
/-- CVU_GFEEDHu (R373). -/
def cvuGfeedh : Nat := 0x040C
/-- CVU_GFEEDWu (R373). -/
def cvuGfeedw : Nat := 0x040D
/-- CVU_GSTATu (R373). -/
def cvuGstat : Nat := 0x040E
/-- CVU_VSTATc (R378). -/
def cvuVstat : Nat := 0x0500
/-- CVU_VCMDc (R378). -/
def cvuVcmd : Nat := 0x0501
/-- CVU_VADDRc (R378). -/
def cvuVaddr : Nat := 0x0502
/-- CVU_VLENc (R378). -/
def cvuVlen : Nat := 0x0503
/-- CVU_VFOLDc (R378). -/
def cvuVfold : Nat := 0x0504
/-- CVU_VEXPLc (R378). -/
def cvuVexpl : Nat := 0x0505
/-- CVU_VEXPHc (R378). -/
def cvuVexph : Nat := 0x0506
/-- CVU_VRESLc (R378). -/
def cvuVresl : Nat := 0x0507
/-- CVU_VRESHc (R378). -/
def cvuVresh : Nat := 0x0508
/-- CVU_VINLc (R378). -/
def cvuVinl : Nat := 0x0509
/-- CVU_VINHc (R378). -/
def cvuVinh : Nat := 0x050A
/-- CVU_VOUTLc (R378). -/
def cvuVoutl : Nat := 0x050B
/-- CVU_VOUTHc (R378). -/
def cvuVouth : Nat := 0x050C
/-- CVU_VSRCc (R378). -/
def cvuVsrc : Nat := 0x050D
/-- CVU_VRUNLc (R378). -/
def cvuVrunl : Nat := 0x050E
/-- CVU_VRUNHc (R378). -/
def cvuVrunh : Nat := 0x050F
/-- CVU_PCFGs (R382). -/
def cvuPcfg : Nat := 0x0600
/-- CVU_PPOLYLs (R382). -/
def cvuPpolyl : Nat := 0x0601
/-- CVU_PPOLYHs (R382). -/
def cvuPpolyh : Nat := 0x0602
/-- CVU_PINITLs (R382). -/
def cvuPinitl : Nat := 0x0603
/-- CVU_PINITHs (R382). -/
def cvuPinith : Nat := 0x0604
/-- CVU_PXORLs (R382). -/
def cvuPxorl : Nat := 0x0605
/-- CVU_PXORHs (R382). -/
def cvuPxorh : Nat := 0x0606
/-- CVU_VCFG (R381). -/
def cvuVcfg : Nat := 0x0610
/-- SCHED_CTL (R49). -/
def schedCtl : Nat := 0x0800
/-- SCHED_MCYC (R50). -/
def schedMcyc : Nat := 0x0801
/-- SCHED_GAP (R50). -/
def schedGap : Nat := 0x0802
/-- SCHED_STAT (R51). -/
def schedStat : Nat := 0x0803
/-- SCHED_CYCL (R52). -/
def schedCycl : Nat := 0x0804
/-- SCHED_CYCH (R52). -/
def schedCych : Nat := 0x0805
/-- SCHED_EPOCHL (R52). -/
def schedEpochl : Nat := 0x0806
/-- SCHED_EPOCHH (R52). -/
def schedEpochh : Nat := 0x0807
/-- SCHED_SWAPL (R60). -/
def schedSwapl : Nat := 0x0808
/-- SCHED_SWAPH (R60). -/
def schedSwaph : Nat := 0x0809
/-- SCHED_OVR (R77). -/
def schedOvr : Nat := 0x080A
/-- SCHED_DONE (R67). -/
def schedDone : Nat := 0x080B
/-- SCHED_AGRTO (R64). -/
def schedAgrto : Nat := 0x080C
/-- SCHED_APPn (R54). -/
def schedApp : Nat := 0x0810
/-- SCHED_OVRCNTn (R78). -/
def schedOvrcnt : Nat := 0x0830
/-- SCHED_SLOTAn (R232). -/
def schedSlota : Nat := 0x0850
/-- SCHED_SLOTBn (R232). -/
def schedSlotb : Nat := 0x0870
/-- SCHED_ASLOT (R232). -/
def schedAslot : Nat := 0x0890
/-- SCHED_EDCTL (R243). -/
def schedEdctl : Nat := 0x0891
/-- SCHED_EDCYCL (R243). -/
def schedEdcycl : Nat := 0x0892
/-- SCHED_EDCYCH (R243). -/
def schedEdcych : Nat := 0x0893
/-- SCHED_EDMIG (R243). -/
def schedEdmig : Nat := 0x0894
/-- SCHED_EDSTAT (R243). -/
def schedEdstat : Nat := 0x0895
/-- SCHED_EDTIME (R243). -/
def schedEdtime : Nat := 0x0896
/-- SCHED_GOFFm (R57). -/
def schedGoff : Nat := 0x0900
/-- SCHED_GLENm (R57). -/
def schedGlen : Nat := 0x0901
/-- SCHED_GCYCm (R57). -/
def schedGcyc : Nat := 0x0902
/-- SCHED_GBEATm (R57). -/
def schedGbeat : Nat := 0x0903
/-- SCHED_GSEEDm (R57). -/
def schedGseed : Nat := 0x0904
/-- SCHED_GGRVm (R57). -/
def schedGgrv : Nat := 0x0905
/-- SCHED_WCYCg (R72). -/
def schedWcyc : Nat := 0x0B00
/-- SCHED_WBEATg (R72). -/
def schedWbeat : Nat := 0x0B10
/-- IMG_STAT (R97). -/
def imgStat : Nat := 0x0C01
/-- IMG_RTBL (R95). -/
def imgRtbl : Nat := 0x0C02
/-- IMG_RTACT (R95). -/
def imgRtact : Nat := 0x0C03
/-- IMG_ISIDE (R88). -/
def imgIside : Nat := 0x0C04
/-- IMG_OSIDE (R88). -/
def imgOside : Nat := 0x0C05
/-- IMG_SAFEOUT (R88). -/
def imgSafeout : Nat := 0x0C06
/-- IMG_STALE (R88). -/
def imgStale : Nat := 0x0C07
/-- IMG_INTn (R81). -/
def imgInt : Nat := 0x0C20
/-- IMG_INLn (R81). -/
def imgInl : Nat := 0x0C40
/-- IMG_OUTTn (R81). -/
def imgOutt : Nat := 0x0C60
/-- IMG_OUTLn (R81). -/
def imgOutl : Nat := 0x0C80
/-- IMG_MRKTn (R81). -/
def imgMrkt : Nat := 0x0CA0
/-- IMG_MRKLn (R81). -/
def imgMrkl : Nat := 0x0CC0
/-- IMG_RETn (R81). -/
def imgRet : Nat := 0x0CE0
/-- IMG_SAFEn (R81). -/
def imgSafe : Nat := 0x0D00
/-- TARN_OWNn (R344). -/
def tarnOwn : Nat := 0x1000
/-- TARN_STAT (R350). -/
def tarnStat : Nat := 0x1040
/-- TARN_SCRUB (R347). -/
def tarnScrub : Nat := 0x1041
/-- TARN_SCPASS (R350). -/
def tarnScpass : Nat := 0x1042
/-- TARN_RET (R348). -/
def tarnRet : Nat := 0x1043
/-- TARN_RETST (R348). -/
def tarnRetst : Nat := 0x1044
/-- TARN_CECNT (R350). -/
def tarnCecnt : Nat := 0x1045
/-- TARN_UECNT (R350). -/
def tarnUecnt : Nat := 0x1046
/-- TARN_UELOG (R350). -/
def tarnUelog : Nat := 0x1047
/-- TARN_RPSEL (R350). -/
def tarnRpsel : Nat := 0x1048
/-- TARN_RPDAT (R350). -/
def tarnRpdat : Nat := 0x1049
/-- CMX_START (R335). -/
def cmxStart : Nat := 0x1400
/-- CMX_END (R335). -/
def cmxEnd : Nat := 0x1401
/-- CMX_CMD (R335). -/
def cmxCmd : Nat := 0x1402
/-- CMX_STAT (R335). -/
def cmxStat : Nat := 0x1403
/-- CMX_SKIP (R335). -/
def cmxSkip : Nat := 0x1404
/-- CMX_PDST (R335). -/
def cmxPdst : Nat := 0x1405
/-- CMX_LKCNT (R335). -/
def cmxLkcnt : Nat := 0x1406
/-- CMX_PERR (R335). -/
def cmxPerr : Nat := 0x1407
/-- CMX_RATTRr (R321). -/
def cmxRattr : Nat := 0x1410
/-- CMX_PONDg (R327). -/
def cmxPond : Nat := 0x1420
/-- ACT_TSEL (R386). -/
def actTsel : Nat := 0x1800
/-- ACT_STAT (R386). -/
def actStat : Nat := 0x1801
/-- ACT_VINFO (R386). -/
def actVinfo : Nat := 0x1802
/-- ACT_VADDR (R386). -/
def actVaddr : Nat := 0x1803
/-- ACT_VCNT (R386). -/
def actVcnt : Nat := 0x1804
/-- ACT_RBASEr (R386). -/
def actRbase : Nat := 0x1810
/-- ACT_RLIMr (R386). -/
def actRlim : Nat := 0x1811
/-- ACT_ENTj (R386). -/
def actEnt : Nat := 0x1840
/-- JRN_HEAD (R399). -/
def jrnHead : Nat := 0x2000
/-- JRN_TAIL (R399). -/
def jrnTail : Nat := 0x2001
/-- JRN_USED (R399). -/
def jrnUsed : Nat := 0x2002
/-- JRN_ACK (R399). -/
def jrnAck : Nat := 0x2003
/-- JRN_STAT (R399). -/
def jrnStat : Nat := 0x2004
/-- JRN_REJCNT (R399). -/
def jrnRejcnt : Nat := 0x2005
/-- JRN_THR (R399). -/
def jrnThr : Nat := 0x2006
/-- SHR_NODE (R320). -/
def shrNode : Nat := 0x2400
/-- SHR_CTL (R320). -/
def shrCtl : Nat := 0x2401
/-- SHR_STAT (R320). -/
def shrStat : Nat := 0x2402
/-- SHR_PSTATA (R320). -/
def shrPstata : Nat := 0x2403
/-- SHR_PSTATB (R320). -/
def shrPstatb : Nat := 0x2404
/-- SHR_ERRA (R320). -/
def shrErra : Nat := 0x2405
/-- SHR_ERRB (R320). -/
def shrErrb : Nat := 0x2406
/-- SHR_ITBL (R320). -/
def shrItbl : Nat := 0x2407
/-- SHR_ITCNT (R320). -/
def shrItcnt : Nat := 0x2408
/-- SHR_ITACT (R320). -/
def shrItact : Nat := 0x2409
/-- SHR_REACH0 (R320). -/
def shrReach0 : Nat := 0x240A
/-- SHR_REACH1 (R320). -/
def shrReach1 : Nat := 0x240B
/-- SHR_ROSTER0 (R320). -/
def shrRoster0 : Nat := 0x240C
/-- SHR_ROSTER1 (R320). -/
def shrRoster1 : Nat := 0x240D
/-- SHR_LOOP (R320). -/
def shrLoop : Nat := 0x240E
/-- SHR_ADMSTAT (R320). -/
def shrAdmstat : Nat := 0x240F
/-- GRV_MODEg (R251). -/
def grvMode : Nat := 0x2800
/-- GRV_STAT (R253). -/
def grvStat : Nat := 0x2810
/-- GRV_FENCE (R261). -/
def grvFence : Nat := 0x2811
/-- GRV_UNFENCE (R261). -/
def grvUnfence : Nat := 0x2812
/-- GRV_ERSEL (R255). -/
def grvErsel : Nat := 0x2813
/-- GRV_ERDAT (R255). -/
def grvErdat : Nat := 0x2814
/-- GRV_SUBg (R262). -/
def grvSub : Nat := 0x2820
/-- GRV_TWCTL (R267). -/
def grvTwctl : Nat := 0x2830
/-- GRV_TWSTAT (R277). -/
def grvTwstat : Nat := 0x2831
/-- GRV_QWk (R280). -/
def grvQw : Nat := 0x2840
/-- GRV_QSTAT (R283). -/
def grvQstat : Nat := 0x2844
/-- GRV_QREACH0 (R283). -/
def grvQreach0 : Nat := 0x2845
/-- GRV_QREACH1 (R283). -/
def grvQreach1 : Nat := 0x2846
/-- GRV_XRBn (R203). -/
def grvXrb : Nat := 0x2A00
/-- GRV_XRLn (R203). -/
def grvXrl : Nat := 0x2A01
/-- GRV_GPCg (R208). -/
def grvGpc : Nat := 0x2B00
/-- GRV_GDSPg (R208). -/
def grvGdsp : Nat := 0x2B01
/-- GRV_GDSLg (R208). -/
def grvGdsl : Nat := 0x2B02
/-- GRV_GAPPg (R208). -/
def grvGapp : Nat := 0x2B03
/-- GRV_GCTLg (R208). -/
def grvGctl : Nat := 0x2B04
/-- FLT_STAT (R414). -/
def fltStat : Nat := 0x2C00
/-- FLT_HEAD (R414). -/
def fltHead : Nat := 0x2C01
/-- FLT_TAIL (R414). -/
def fltTail : Nat := 0x2C02
/-- FLT_ACK (R414). -/
def fltAck : Nat := 0x2C03
/-- FLT_LOST (R414). -/
def fltLost : Nat := 0x2C04
/-- FLT_RECw (R414). -/
def fltRec : Nat := 0x2C10
/-- FLT_CKNOMc (R414). -/
def fltCknom : Nat := 0x2C20
/-- FLT_CKSTAT (R414). -/
def fltCkstat : Nat := 0x2C26
/-- TB_NOWL (R39). -/
def tbNowl : Nat := 0x3000
/-- TB_NOWH (R39). -/
def tbNowh : Nat := 0x3001
/-- TB_CTL (R40). -/
def tbCtl : Nat := 0x3002
/-- TB_STAT (R41). -/
def tbStat : Nat := 0x3003
/-- TB_SETL (R42). -/
def tbSetl : Nat := 0x3004
/-- TB_SETH (R42). -/
def tbSeth : Nat := 0x3005
/-- TB_OFFS (R43). -/
def tbOffs : Nat := 0x3006
/-- WDI_CHKk (R462). -/
def wdiChk : Nat := 0x3400
/-- WDI_CFGk (R462). -/
def wdiCfg : Nat := 0x3410
/-- WDI_LASTLk (R462). -/
def wdiLastl : Nat := 0x3420
/-- WDI_LASTHk (R462). -/
def wdiLasth : Nat := 0x3430
/-- WDI_STAT (R462). -/
def wdiStat : Nat := 0x3440
/-- WDI_CNT (R462). -/
def wdiCnt : Nat := 0x3441
/-- WDI_SET (R462). -/
def wdiSet : Nat := 0x3442
/-- ATT_LFORCE (R118). -/
def attLforce : Nat := 0x3800
/-- ATT_LISTENST (R118). -/
def attListenst : Nat := 0x3801
/-- ATT_PCFGp (R118). -/
def attPcfg : Nat := 0x3810
/-- ATT_FLTp (R118). -/
def attFlt : Nat := 0x3820
/-- ATT_BUFp (R118). -/
def attBuf : Nat := 0x3830
/-- ATT_STATp (R118). -/
def attStat : Nat := 0x3840
/-- ATT_DROPp (R118). -/
def attDrop : Nat := 0x3850
/-- ATT_TXSTp (R118). -/
def attTxst : Nat := 0x3860
/-- PWR_GSTAT (R511). -/
def pwrGstat : Nat := 0x3C00
/-- PWR_STAT (R511). -/
def pwrStat : Nat := 0x3C01
/-- PWR_GCTL (R511). -/
def pwrGctl : Nat := 0x3C02
/-- PWR_VSTAT (R420). -/
def pwrVstat : Nat := 0x3C20
/-- PWR_VCNT (R420). -/
def pwrVcnt : Nat := 0x3C21
/-- PWR_LOSSMK (R420). -/
def pwrLossmk : Nat := 0x3C22
/-- DBGV_TX (R486). -/
def dbgvTx : Nat := 0x4000
/-- DBGV_RX (R486). -/
def dbgvRx : Nat := 0x4001
/-- DBGV_TST (R486). -/
def dbgvTst : Nat := 0x4002
/-- DBGV_CMPAe_c (R485). -/
def dbgvCmpa : Nat := 0x4100
/-- DBGV_CMPCe_c (R485). -/
def dbgvCmpc : Nat := 0x4101
/-- IPVER (R2). -/
def ipver : Nat := 0xF000
/-- IPCFG (R29). -/
def ipcfg : Nat := 0xF001
/-- ID_STATE (R28). -/
def idState : Nat := 0xF002
/-- ID_RSTSRC (R446). -/
def idRstsrc : Nat := 0xF003
/-- ID_BOOT (R450). -/
def idBoot : Nat := 0xF004
/-- ID_BOOTCNT (R450). -/
def idBootcnt : Nat := 0xF005
/-- ID_UPCTL (R225). -/
def idUpctl : Nat := 0xF010
/-- ID_UPSTAT (R225). -/
def idUpstat : Nat := 0xF011
/-- ID_UPADDR (R225). -/
def idUpaddr : Nat := 0xF012
/-- ID_UPDATA (R225). -/
def idUpdata : Nat := 0xF013
/-- ID_UROMID (R220). -/
def idUromid : Nat := 0xF014
/-- ID_UERR (R225). -/
def idUerr : Nat := 0xF015
/-- ID_UMATCHn (R225). -/
def idUmatch : Nat := 0xF020

end Reg

/-- Registers of the ICU window (R17). -/
def regsIcu : List RegRow := [
  ⟨Reg.icuDbell, 1, 1, 0x0, 0x0, 0x0, 0x0, 0xFFFFFFFF, false, 0x0⟩,
  ⟨Reg.icuBaddb, 1, 1, 0x0, 0x0, 0x0, 0xFFFFFFFF, 0x0, false, 0x0⟩,
  ⟨Reg.icuPrigrp, 1, 1, 0x7, 0x0, 0x0, 0x0, 0x0, true, 0x0⟩,
  ⟨Reg.icuStat, 1, 1, 0x0, 0x1, 0x0, 0x0, 0x0, false, 0x0⟩,
  ⟨Reg.icuWakep, 1, 1, 0x0, 0xFFFFFFFF, 0x0, 0x0, 0x0, false, 0x0⟩,
  ⟨Reg.icuPend, 8, 1, 0x0, 0xFFFFFFFF, 0x0, 0x0, 0x0, false, 0x0⟩,
  ⟨Reg.icuEn, 8, 1, 0xFFFFFFFF, 0x0, 0x0, 0x0, 0x0, false, 0x0⟩,
  ⟨Reg.icuMine, 8, 1, 0x0, 0x0, 0x0, 0x0, 0x0, false, 0x0⟩,
  ⟨Reg.icuHold, 32, 1, 0xFFFFF, 0x0, 0x0, 0x0, 0x0, true, 0x0⟩,
  ⟨Reg.icuEmpty, 33, 1, 0x0, 0x0, 0x0, 0xFFFF, 0x0, false, 0x0⟩,
  ⟨Reg.icuSrc, 256, 1, 0xFFFF, 0x0, 0x0, 0x0, 0x0, true, 0x0⟩]

/-- Registers of the CVU window (R17). -/
def regsCvu : List RegRow := [
  ⟨Reg.cvuGcfg, 16, 16, 0x3FFF, 0x0, 0x0, 0x0, 0x0, false, 0x0⟩,
  ⟨Reg.cvuGcmd, 16, 16, 0x0, 0x0, 0x0, 0x0, 0xF, false, 0x0⟩,
  ⟨Reg.cvuGfold, 16, 16, 0xFFFFFFFF, 0x0, 0x0, 0x0, 0x0, false, 0x0⟩,
  ⟨Reg.cvuGaddr, 16, 16, 0xFFFFFFFF, 0x0, 0x0, 0x0, 0x0, false, 0x0⟩,
  ⟨Reg.cvuGlen, 16, 16, 0xFFFFFFFF, 0x0, 0x0, 0x0, 0x0, false, 0x0⟩,
  ⟨Reg.cvuGrunl, 16, 16, 0xFFFFFFFF, 0x0, 0x0, 0x0, 0x0, false, 0x0⟩,
  ⟨Reg.cvuGrunh, 16, 16, 0xFFFFFFFF, 0x0, 0x0, 0x0, 0x0, false, 0x0⟩,
  ⟨Reg.cvuGresl, 16, 16, 0x0, 0x0, 0x0, 0x0, 0x0, false, 0x0⟩,
  ⟨Reg.cvuGresh, 16, 16, 0x0, 0x0, 0x0, 0x0, 0x0, false, 0x0⟩,
  ⟨Reg.cvuGexpl, 16, 16, 0xFFFFFFFF, 0x0, 0x0, 0x0, 0x0, false, 0x0⟩,
  ⟨Reg.cvuGexph, 16, 16, 0xFFFFFFFF, 0x0, 0x0, 0x0, 0x0, false, 0x0⟩,
  ⟨Reg.cvuGfeedb, 16, 16, 0x0, 0x0, 0x0, 0x0, 0xFF, false, 0x0⟩,
  ⟨Reg.cvuGfeedh, 16, 16, 0x0, 0x0, 0x0, 0x0, 0xFFFF, false, 0x0⟩,
  ⟨Reg.cvuGfeedw, 16, 16, 0x0, 0x0, 0x0, 0x0, 0xFFFFFFFF, false, 0x0⟩,
  ⟨Reg.cvuGstat, 16, 16, 0x0, 0x3E, 0x0, 0x0, 0x0, false, 0x0⟩,
  ⟨Reg.cvuVstat, 16, 16, 0x0, 0x1E, 0x0, 0x0, 0x0, false, 0x0⟩,
  ⟨Reg.cvuVcmd, 16, 16, 0x0, 0x0, 0x0, 0x0, 0x1, false, 0x0⟩,
  ⟨Reg.cvuVaddr, 16, 16, 0xFFFFFFFF, 0x0, 0x0, 0x0, 0x0, false, 0x0⟩,
  ⟨Reg.cvuVlen, 16, 16, 0x1FFF, 0x0, 0x0, 0x0, 0x0, false, 0x0⟩,
  ⟨Reg.cvuVfold, 16, 16, 0xFFFFFFFF, 0x0, 0x0, 0x0, 0x0, false, 0x0⟩,
  ⟨Reg.cvuVexpl, 16, 16, 0xFFFFFFFF, 0x0, 0x0, 0x0, 0x0, false, 0x0⟩,
  ⟨Reg.cvuVexph, 16, 16, 0xFFFFFFFF, 0x0, 0x0, 0x0, 0x0, false, 0x0⟩,
  ⟨Reg.cvuVresl, 16, 16, 0x0, 0x0, 0x0, 0x0, 0x0, false, 0x0⟩,
  ⟨Reg.cvuVresh, 16, 16, 0x0, 0x0, 0x0, 0x0, 0x0, false, 0x0⟩,
  ⟨Reg.cvuVinl, 16, 16, 0x0, 0x0, 0x0, 0x0, 0x0, false, 0x0⟩,
  ⟨Reg.cvuVinh, 16, 16, 0x0, 0x0, 0x0, 0x0, 0x0, false, 0x0⟩,
  ⟨Reg.cvuVoutl, 16, 16, 0x0, 0x0, 0x0, 0x0, 0x0, false, 0x0⟩,
  ⟨Reg.cvuVouth, 16, 16, 0x0, 0x0, 0x0, 0x0, 0x0, false, 0x0⟩,
  ⟨Reg.cvuVsrc, 16, 16, 0x3FF, 0x0, 0x0, 0x0, 0x0, false, 0x0⟩,
  ⟨Reg.cvuVrunl, 16, 16, 0x0, 0x0, 0x0, 0x0, 0x0, false, 0x0⟩,
  ⟨Reg.cvuVrunh, 16, 16, 0x0, 0x0, 0x0, 0x0, 0x0, false, 0x0⟩,
  ⟨Reg.cvuPcfg, 2, 8, 0xFF, 0x0, 0x0, 0x0, 0x0, false, 0x1F⟩,
  ⟨Reg.cvuPpolyl, 2, 8, 0xFFFFFFFF, 0x0, 0x0, 0x0, 0x0, false, 0x0⟩,
  ⟨Reg.cvuPpolyh, 2, 8, 0xFFFFFFFF, 0x0, 0x0, 0x0, 0x0, false, 0x0⟩,
  ⟨Reg.cvuPinitl, 2, 8, 0xFFFFFFFF, 0x0, 0x0, 0x0, 0x0, false, 0x0⟩,
  ⟨Reg.cvuPinith, 2, 8, 0xFFFFFFFF, 0x0, 0x0, 0x0, 0x0, false, 0x0⟩,
  ⟨Reg.cvuPxorl, 2, 8, 0xFFFFFFFF, 0x0, 0x0, 0x0, 0x0, false, 0x0⟩,
  ⟨Reg.cvuPxorh, 2, 8, 0xFFFFFFFF, 0x0, 0x0, 0x0, 0x0, false, 0x0⟩,
  ⟨Reg.cvuVcfg, 1, 1, 0x3F, 0x80000000, 0x0, 0x0, 0x0, true, 0x1B⟩]

/-- Registers of the SCHED window (R17). -/
def regsSched : List RegRow := [
  ⟨Reg.schedCtl, 1, 1, 0x1FF03, 0x0, 0x0, 0x0, 0x8, true, 0x0⟩,
  ⟨Reg.schedMcyc, 1, 1, 0xFFFFF, 0x0, 0x0, 0x0, 0x0, true, 0x3E8⟩,
  ⟨Reg.schedGap, 1, 1, 0xFFFF, 0x0, 0x0, 0x0, 0x0, true, 0x7D0⟩,
  ⟨Reg.schedStat, 1, 1, 0x0, 0x8000F, 0x0, 0x0, 0x0, false, 0x0⟩,
  ⟨Reg.schedCycl, 1, 1, 0x0, 0x0, 0x0, 0x0, 0x0, false, 0x0⟩,
  ⟨Reg.schedCych, 1, 1, 0x0, 0x0, 0x0, 0x0, 0x0, false, 0x0⟩,
  ⟨Reg.schedEpochl, 1, 1, 0xFFFFFFFF, 0x0, 0x0, 0x0, 0x0, true, 0x0⟩,
  ⟨Reg.schedEpochh, 1, 1, 0xFFFFFFFF, 0x0, 0x0, 0x0, 0x0, true, 0x0⟩,
  ⟨Reg.schedSwapl, 1, 1, 0xFFFFFFFF, 0x0, 0x0, 0x0, 0x0, true, 0x0⟩,
  ⟨Reg.schedSwaph, 1, 1, 0xFFFFFFFF, 0x0, 0x0, 0x0, 0x0, true, 0x0⟩,
  ⟨Reg.schedOvr, 1, 1, 0x0, 0xFFFFFFFF, 0x0, 0x0, 0x0, false, 0x0⟩,
  ⟨Reg.schedDone, 1, 1, 0x0, 0x0, 0x0, 0x0, 0xFFFFFFFF, false, 0x0⟩,
  ⟨Reg.schedAgrto, 1, 1, 0xFFFF, 0x0, 0x0, 0x0, 0x0, true, 0x3E8⟩,
  ⟨Reg.schedApp, 32, 1, 0x3FFF, 0x0, 0x0, 0x0, 0x0, true, 0x0⟩,
  ⟨Reg.schedOvrcnt, 32, 1, 0x0, 0x0, 0x0, 0xFFFF, 0x0, false, 0x0⟩,
  ⟨Reg.schedSlota, 32, 1, 0xFFFFFFC0, 0x0, 0x0, 0x0, 0x0, true, 0x0⟩,
  ⟨Reg.schedSlotb, 32, 1, 0xFFFFFFC0, 0x0, 0x0, 0x0, 0x0, true, 0x0⟩,
  ⟨Reg.schedAslot, 1, 1, 0xFFFFFFFF, 0x0, 0x0, 0x0, 0x0, true, 0x0⟩,
  ⟨Reg.schedEdctl, 1, 1, 0xFFFFFF, 0x0, 0x0, 0x0, 0x0, true, 0x0⟩,
  ⟨Reg.schedEdcycl, 1, 1, 0xFFFFFFFF, 0x0, 0x0, 0x0, 0x0, true, 0x0⟩,
  ⟨Reg.schedEdcych, 1, 1, 0xFFFFFFFF, 0x0, 0x0, 0x0, 0x0, true, 0x0⟩,
  ⟨Reg.schedEdmig, 1, 1, 0xFFFFFFF, 0x0, 0x0, 0x0, 0x0, true, 0x0⟩,
  ⟨Reg.schedEdstat, 1, 1, 0x0, 0x3, 0x0, 0x0, 0x0, false, 0x0⟩,
  ⟨Reg.schedEdtime, 1, 1, 0x0, 0x0, 0x0, 0x0, 0x0, false, 0x0⟩,
  ⟨Reg.schedGoff, 64, 8, 0xFFFFFFFF, 0x0, 0x0, 0x0, 0x0, true, 0x0⟩,
  ⟨Reg.schedGlen, 64, 8, 0x7FFFFFF, 0x0, 0x0, 0x0, 0x0, true, 0x0⟩,
  ⟨Reg.schedGcyc, 64, 8, 0xFFFFFF, 0x0, 0x0, 0x0, 0x0, true, 0x0⟩,
  ⟨Reg.schedGbeat, 64, 8, 0xFFFFF, 0x0, 0x0, 0x0, 0x0, true, 0x0⟩,
  ⟨Reg.schedGseed, 64, 8, 0xFFFFFFFF, 0x0, 0x0, 0x0, 0x0, true, 0x0⟩,
  ⟨Reg.schedGgrv, 64, 8, 0x1FFFFF, 0x0, 0x0, 0x0, 0x0, true, 0x0⟩,
  ⟨Reg.schedWcyc, 16, 1, 0x0, 0x0, 0x0, 0x0, 0x0, false, 0x0⟩,
  ⟨Reg.schedWbeat, 16, 1, 0x0, 0x0, 0x0, 0x0, 0x0, false, 0x0⟩]

/-- Registers of the IMG window (R17). -/
def regsImg : List RegRow := [
  ⟨Reg.imgStat, 1, 1, 0x0, 0x7, 0x0, 0x0, 0x0, false, 0x0⟩,
  ⟨Reg.imgRtbl, 1, 1, 0x3FFFFFF, 0x0, 0x0, 0x0, 0x0, true, 0x0⟩,
  ⟨Reg.imgRtact, 1, 1, 0x0, 0x0, 0x0, 0x0, 0x0, false, 0x0⟩,
  ⟨Reg.imgIside, 1, 1, 0x0, 0x0, 0x0, 0x0, 0x0, false, 0x0⟩,
  ⟨Reg.imgOside, 1, 1, 0x0, 0x0, 0x0, 0x0, 0x0, false, 0x0⟩,
  ⟨Reg.imgSafeout, 1, 1, 0x0, 0x0, 0x0, 0x0, 0x0, false, 0x0⟩,
  ⟨Reg.imgStale, 1, 1, 0x0, 0x0, 0x0, 0x0, 0x0, false, 0x0⟩,
  ⟨Reg.imgInt, 32, 1, 0xFFFF8FFF, 0x0, 0x0, 0x0, 0x0, true, 0x0⟩,
  ⟨Reg.imgInl, 32, 1, 0xFFFF7FFF, 0x0, 0x0, 0x0, 0x0, true, 0x0⟩,
  ⟨Reg.imgOutt, 32, 1, 0xFFFF8FFF, 0x0, 0x0, 0x0, 0x0, true, 0x0⟩,
  ⟨Reg.imgOutl, 32, 1, 0xFFFF7FFF, 0x0, 0x0, 0x0, 0x0, true, 0x0⟩,
  ⟨Reg.imgMrkt, 32, 1, 0xFFFFC03F, 0x0, 0x0, 0x0, 0x0, true, 0x0⟩,
  ⟨Reg.imgMrkl, 32, 1, 0xFFFF7FFF, 0x0, 0x0, 0x0, 0x0, true, 0x0⟩,
  ⟨Reg.imgRet, 32, 1, 0xFFFF7FFF, 0x0, 0x0, 0x0, 0x0, true, 0x0⟩,
  ⟨Reg.imgSafe, 32, 1, 0x7FFF, 0x0, 0x0, 0x0, 0x0, true, 0x0⟩]

/-- Registers of the TARN window (R17). -/
def regsTarn : List RegRow := [
  ⟨Reg.tarnOwn, 64, 1, 0xFF, 0x0, 0x0, 0x0, 0x0, true, 0x0⟩,
  ⟨Reg.tarnStat, 1, 1, 0x0, 0x7, 0x0, 0x0, 0x0, false, 0x0⟩,
  ⟨Reg.tarnScrub, 1, 1, 0x7FF, 0x0, 0x0, 0x0, 0x0, true, 0xC9⟩,
  ⟨Reg.tarnScpass, 1, 1, 0x0, 0x0, 0x0, 0x0, 0x0, false, 0x0⟩,
  ⟨Reg.tarnRet, 1, 1, 0x7FFF, 0x0, 0x0, 0x0, 0x0, true, 0x0⟩,
  ⟨Reg.tarnRetst, 1, 1, 0x0, 0x0, 0x0, 0x0, 0x0, false, 0x0⟩,
  ⟨Reg.tarnCecnt, 1, 1, 0x0, 0x0, 0x0, 0xFFFF, 0x0, false, 0x0⟩,
  ⟨Reg.tarnUecnt, 1, 1, 0x0, 0x0, 0x0, 0xFFFF, 0x0, false, 0x0⟩,
  ⟨Reg.tarnUelog, 1, 1, 0x0, 0x80000000, 0x0, 0x0, 0x0, false, 0x0⟩,
  ⟨Reg.tarnRpsel, 1, 1, 0xFF, 0x0, 0x0, 0x0, 0x0, false, 0x0⟩,
  ⟨Reg.tarnRpdat, 1, 1, 0x0, 0x0, 0x0, 0x0, 0x0, false, 0x0⟩]

/-- Registers of the CMX window (R17). -/
def regsCmx : List RegRow := [
  ⟨Reg.cmxStart, 1, 1, 0xFFFFFFC0, 0x0, 0x0, 0x0, 0x0, false, 0x0⟩,
  ⟨Reg.cmxEnd, 1, 1, 0xFFFFFFC0, 0x0, 0x0, 0x0, 0x0, false, 0x0⟩,
  ⟨Reg.cmxCmd, 1, 1, 0x0, 0x0, 0x0, 0x0, 0xFFFFFF, false, 0x0⟩,
  ⟨Reg.cmxStat, 1, 1, 0x0, 0x3E, 0x0, 0x0, 0x0, false, 0x0⟩,
  ⟨Reg.cmxSkip, 1, 1, 0x0, 0x0, 0x0, 0xFFFF, 0x0, false, 0x0⟩,
  ⟨Reg.cmxPdst, 1, 1, 0xFFF, 0x0, 0x0, 0x0, 0x0, false, 0x0⟩,
  ⟨Reg.cmxLkcnt, 1, 1, 0x0, 0x0, 0x0, 0x0, 0x0, false, 0x0⟩,
  ⟨Reg.cmxPerr, 1, 1, 0x0, 0x0, 0x0, 0xFFFFFFFF, 0x0, false, 0x0⟩,
  ⟨Reg.cmxRattr, 16, 1, 0x3, 0x0, 0x0, 0x0, 0x0, true, 0x0⟩,
  ⟨Reg.cmxPond, 16, 1, 0xF, 0x0, 0x0, 0x0, 0x10, true, 0x0⟩]

/-- Registers of the ACT window (R17). -/
def regsAct : List RegRow := [
  ⟨Reg.actTsel, 1, 1, 0xFF, 0x0, 0x0, 0x0, 0x0, false, 0x0⟩,
  ⟨Reg.actStat, 1, 1, 0x0, 0x1, 0x0, 0x0, 0x0, false, 0x0⟩,
  ⟨Reg.actVinfo, 1, 1, 0x0, 0x80000000, 0x0, 0x0, 0x0, false, 0x0⟩,
  ⟨Reg.actVaddr, 1, 1, 0x0, 0x0, 0x0, 0x0, 0x0, false, 0x0⟩,
  ⟨Reg.actVcnt, 1, 1, 0x0, 0x0, 0x0, 0xFFFF, 0x0, false, 0x0⟩,
  ⟨Reg.actRbase, 16, 2, 0x7FFFF000, 0x0, 0x0, 0x0, 0x0, true, 0x0⟩,
  ⟨Reg.actRlim, 16, 2, 0xFFFFF000, 0x0, 0x0, 0x0, 0x0, true, 0x0⟩,
  ⟨Reg.actEnt, 32, 1, 0xFFFFFFFF, 0x0, 0x0, 0x0, 0x0, true, 0x0⟩]

/-- Registers of the JRN window (R17). -/
def regsJrn : List RegRow := [
  ⟨Reg.jrnHead, 1, 1, 0x0, 0x0, 0x0, 0x0, 0x0, false, 0x0⟩,
  ⟨Reg.jrnTail, 1, 1, 0x0, 0x0, 0x0, 0x0, 0x0, false, 0x0⟩,
  ⟨Reg.jrnUsed, 1, 1, 0x0, 0x0, 0x0, 0x0, 0x0, false, 0x0⟩,
  ⟨Reg.jrnAck, 1, 1, 0x0, 0x0, 0x0, 0x0, 0xFFFFFFFF, false, 0x0⟩,
  ⟨Reg.jrnStat, 1, 1, 0x0, 0x2E, 0x0, 0x0, 0x0, false, 0x0⟩,
  ⟨Reg.jrnRejcnt, 1, 1, 0x0, 0x0, 0x0, 0xFFFF, 0x0, false, 0x0⟩,
  ⟨Reg.jrnThr, 1, 1, 0x1FFFFF, 0x0, 0x0, 0x0, 0x0, true, 0xE00⟩]

/-- Registers of the SHR window (R17). -/
def regsShr : List RegRow := [
  ⟨Reg.shrNode, 1, 1, 0x7F, 0x0, 0x0, 0x0, 0x0, true, 0x3F⟩,
  ⟨Reg.shrCtl, 1, 1, 0xFFFF1F, 0x0, 0x0, 0x0, 0x0, true, 0xA⟩,
  ⟨Reg.shrStat, 1, 1, 0x0, 0x7F, 0x0, 0x0, 0x0, false, 0x0⟩,
  ⟨Reg.shrPstata, 1, 1, 0x0, 0x0, 0x0, 0x0, 0x0, false, 0x1F8⟩,
  ⟨Reg.shrPstatb, 1, 1, 0x0, 0x0, 0x0, 0x0, 0x0, false, 0x1F8⟩,
  ⟨Reg.shrErra, 1, 1, 0x0, 0x0, 0x0, 0xFFFFFFFF, 0x0, false, 0x0⟩,
  ⟨Reg.shrErrb, 1, 1, 0x0, 0x0, 0x0, 0xFFFFFFFF, 0x0, false, 0x0⟩,
  ⟨Reg.shrItbl, 1, 1, 0x1FFFFF, 0x0, 0x0, 0x0, 0x0, true, 0x0⟩,
  ⟨Reg.shrItcnt, 1, 1, 0x7FFFF, 0x0, 0x0, 0x0, 0x0, true, 0x0⟩,
  ⟨Reg.shrItact, 1, 1, 0x0, 0x0, 0x0, 0x0, 0x0, false, 0x0⟩,
  ⟨Reg.shrReach0, 1, 1, 0x0, 0x0, 0x0, 0x0, 0x0, false, 0x0⟩,
  ⟨Reg.shrReach1, 1, 1, 0x0, 0x0, 0x0, 0x0, 0x0, false, 0x0⟩,
  ⟨Reg.shrRoster0, 1, 1, 0x0, 0x0, 0x0, 0x0, 0x0, false, 0x0⟩,
  ⟨Reg.shrRoster1, 1, 1, 0x0, 0x0, 0x0, 0x0, 0x0, false, 0x0⟩,
  ⟨Reg.shrLoop, 1, 1, 0x0, 0x0, 0x0, 0x0, 0x0, false, 0x0⟩,
  ⟨Reg.shrAdmstat, 1, 1, 0x0, 0x100, 0x0, 0x0, 0x0, false, 0x0⟩]

/-- Registers of the GRV window (R17). -/
def regsGrv : List RegRow := [
  ⟨Reg.grvMode, 16, 1, 0xF, 0x0, 0x0, 0x0, 0x0, true, 0x10⟩,
  ⟨Reg.grvStat, 1, 1, 0x0, 0x7, 0x0, 0x0, 0x0, false, 0x0⟩,
  ⟨Reg.grvFence, 1, 1, 0x0, 0x0, 0xFFFFFFFF, 0x0, 0x0, true, 0x0⟩,
  ⟨Reg.grvUnfence, 1, 1, 0x0, 0x0, 0x0, 0x0, 0xFFFF, true, 0x0⟩,
  ⟨Reg.grvErsel, 1, 1, 0x3FFF, 0x0, 0x0, 0x0, 0x0, false, 0x0⟩,
  ⟨Reg.grvErdat, 1, 1, 0xFFFFFFFF, 0x0, 0x0, 0x0, 0x0, true, 0x0⟩,
  ⟨Reg.grvSub, 16, 1, 0x1F, 0x0, 0x0, 0x0, 0x0, true, 0x0⟩,
  ⟨Reg.grvTwctl, 1, 1, 0x7F, 0x0, 0x0, 0x0, 0x0, true, 0x0⟩,
  ⟨Reg.grvTwstat, 1, 1, 0x0, 0x3E, 0x0, 0x0, 0x0, false, 0x0⟩,
  ⟨Reg.grvQw, 4, 1, 0xFFFFFFFF, 0x0, 0x0, 0x0, 0x0, true, 0x0⟩,
  ⟨Reg.grvQstat, 1, 1, 0x0, 0x80000, 0x0, 0x0, 0x0, false, 0x0⟩,
  ⟨Reg.grvQreach0, 1, 1, 0x0, 0x0, 0x0, 0x0, 0x0, false, 0x0⟩,
  ⟨Reg.grvQreach1, 1, 1, 0x0, 0x0, 0x0, 0x0, 0x0, false, 0x0⟩,
  ⟨Reg.grvXrb, 16, 2, 0xFFFFFFC0, 0x0, 0x0, 0x0, 0x0, true, 0x0⟩,
  ⟨Reg.grvXrl, 16, 2, 0xFFFFFFC3, 0x0, 0x0, 0x0, 0x0, true, 0x0⟩,
  ⟨Reg.grvGpc, 32, 8, 0xFFFFFFFF, 0x0, 0x0, 0x0, 0x0, true, 0x0⟩,
  ⟨Reg.grvGdsp, 32, 8, 0xFFFFFFFC, 0x0, 0x0, 0x0, 0x0, true, 0x0⟩,
  ⟨Reg.grvGdsl, 32, 8, 0xFFFFFFFC, 0x0, 0x0, 0x0, 0x0, true, 0x0⟩,
  ⟨Reg.grvGapp, 32, 8, 0xFFFFFFFF, 0x0, 0x0, 0x0, 0x0, true, 0x0⟩,
  ⟨Reg.grvGctl, 32, 8, 0x1FFF, 0x0, 0x0, 0x0, 0x0, true, 0x0⟩]

/-- Registers of the FLT window (R17). -/
def regsFlt : List RegRow := [
  ⟨Reg.fltStat, 1, 1, 0x0, 0x3, 0x0, 0x0, 0x0, false, 0x0⟩,
  ⟨Reg.fltHead, 1, 1, 0x0, 0x0, 0x0, 0x0, 0x0, false, 0x0⟩,
  ⟨Reg.fltTail, 1, 1, 0x0, 0x0, 0x0, 0x0, 0x0, false, 0x0⟩,
  ⟨Reg.fltAck, 1, 1, 0x0, 0x0, 0x0, 0x0, 0xFFFFFFFF, false, 0x0⟩,
  ⟨Reg.fltLost, 1, 1, 0x0, 0x0, 0x0, 0xFFFF, 0x0, false, 0x0⟩,
  ⟨Reg.fltRec, 8, 1, 0x0, 0x0, 0x0, 0x0, 0x0, false, 0x0⟩,
  ⟨Reg.fltCknom, 6, 1, 0x1FFF, 0x0, 0x0, 0x0, 0x0, true, 0x0⟩,
  ⟨Reg.fltCkstat, 1, 1, 0x0, 0x3F, 0x0, 0x0, 0x0, false, 0x0⟩]

/-- Registers of the TB window (R17). -/
def regsTb : List RegRow := [
  ⟨Reg.tbNowl, 1, 1, 0x0, 0x0, 0x0, 0x0, 0x0, false, 0x0⟩,
  ⟨Reg.tbNowh, 1, 1, 0x0, 0x0, 0x0, 0x0, 0x0, false, 0x0⟩,
  ⟨Reg.tbCtl, 1, 1, 0x3, 0x0, 0x0, 0x0, 0x0, true, 0x0⟩,
  ⟨Reg.tbStat, 1, 1, 0x0, 0xE, 0x0, 0x0, 0x0, false, 0x0⟩,
  ⟨Reg.tbSetl, 1, 1, 0x0, 0x0, 0x0, 0x0, 0xFFFFFFFF, true, 0x0⟩,
  ⟨Reg.tbSeth, 1, 1, 0x0, 0x0, 0x0, 0x0, 0xFFFFFFFF, true, 0x0⟩,
  ⟨Reg.tbOffs, 1, 1, 0x0, 0x0, 0x0, 0x0, 0x0, false, 0x0⟩]

/-- Registers of the WDI window (R17). -/
def regsWdi : List RegRow := [
  ⟨Reg.wdiChk, 16, 1, 0x0, 0x0, 0x0, 0x0, 0xFF, false, 0x0⟩,
  ⟨Reg.wdiCfg, 16, 1, 0x3F, 0x0, 0x0, 0x0, 0x0, true, 0x20⟩,
  ⟨Reg.wdiLastl, 16, 1, 0x0, 0x0, 0x0, 0x0, 0x0, false, 0x0⟩,
  ⟨Reg.wdiLasth, 16, 1, 0x0, 0x0, 0x0, 0x0, 0x0, false, 0x0⟩,
  ⟨Reg.wdiStat, 1, 1, 0x0, 0x18, 0x0, 0x0, 0x0, false, 0x0⟩,
  ⟨Reg.wdiCnt, 1, 1, 0x0, 0x0, 0x0, 0xFFFFFFFF, 0x0, false, 0x0⟩,
  ⟨Reg.wdiSet, 1, 1, 0x0, 0x0, 0x0, 0x0, 0xFF, true, 0x0⟩]

/-- Registers of the ATT window (R17). -/
def regsAtt : List RegRow := [
  ⟨Reg.attLforce, 1, 1, 0xFFFF, 0x0, 0x0, 0x0, 0x0, true, 0x0⟩,
  ⟨Reg.attListenst, 1, 1, 0x0, 0x0, 0x0, 0x0, 0x0, false, 0xFFFF⟩,
  ⟨Reg.attPcfg, 16, 1, 0x3, 0x0, 0x0, 0x0, 0x0, true, 0x0⟩,
  ⟨Reg.attFlt, 16, 1, 0x7FFFFFFF, 0x0, 0x0, 0x0, 0x0, true, 0x0⟩,
  ⟨Reg.attBuf, 16, 1, 0x7FFFFFF, 0x0, 0x0, 0x0, 0x0, true, 0x0⟩,
  ⟨Reg.attStat, 16, 1, 0x0, 0x7F, 0x0, 0x0, 0x0, false, 0x0⟩,
  ⟨Reg.attDrop, 16, 1, 0x0, 0x0, 0x0, 0xFFFF, 0x0, false, 0x0⟩,
  ⟨Reg.attTxst, 16, 1, 0x0, 0x0, 0x0, 0x0, 0x0, false, 0x0⟩]

/-- Registers of the PWR window (R17). -/
def regsPwr : List RegRow := [
  ⟨Reg.pwrGstat, 1, 1, 0x0, 0x0, 0x0, 0x0, 0x0, false, 0xFFFF⟩,
  ⟨Reg.pwrStat, 1, 1, 0x0, 0xF, 0x0, 0x0, 0x0, false, 0x0⟩,
  ⟨Reg.pwrGctl, 1, 1, 0xFFFF, 0x0, 0x0, 0x0, 0x0, true, 0x0⟩,
  ⟨Reg.pwrVstat, 1, 1, 0x0, 0x40, 0x0, 0x0, 0x0, false, 0xF⟩,
  ⟨Reg.pwrVcnt, 1, 1, 0x0, 0x0, 0x0, 0xFFFF, 0x0, false, 0x0⟩,
  ⟨Reg.pwrLossmk, 1, 1, 0x0, 0x0, 0x0, 0x0, 0xFFFFFFFF, true, 0x0⟩]

/-- Registers of the DBGV window (R17). -/
def regsDbgv : List RegRow := [
  ⟨Reg.dbgvTx, 1, 1, 0x0, 0x0, 0x0, 0x0, 0xFFFFFFFF, false, 0x0⟩,
  ⟨Reg.dbgvRx, 1, 1, 0x0, 0x0, 0x0, 0xFFFFFFFF, 0x0, false, 0x0⟩,
  ⟨Reg.dbgvTst, 1, 1, 0x0, 0x4, 0x0, 0x0, 0x0, false, 0x0⟩,
  ⟨Reg.dbgvCmpa, 256, 2, 0xFFFFFFFF, 0x0, 0x0, 0x0, 0x0, false, 0x0⟩,
  ⟨Reg.dbgvCmpc, 256, 2, 0x1FF, 0x0, 0x0, 0x0, 0x0, false, 0x0⟩]

/-- Registers of the ID window (R17). -/
def regsId : List RegRow := [
  ⟨Reg.ipver, 1, 1, 0x0, 0x0, 0x0, 0x0, 0x0, false, 0x3000000⟩,
  ⟨Reg.ipcfg, 1, 1, 0x0, 0x0, 0x0, 0x0, 0x0, false, 0x4010⟩,
  ⟨Reg.idState, 1, 1, 0x0, 0x0, 0x0, 0x0, 0x0, false, 0x1⟩,
  ⟨Reg.idRstsrc, 1, 1, 0x0, 0x0, 0x0, 0x0, 0x0, false, 0x0⟩,
  ⟨Reg.idBoot, 1, 1, 0x0, 0x0, 0x0, 0x0, 0x0, false, 0x0⟩,
  ⟨Reg.idBootcnt, 1, 1, 0x0, 0x0, 0x0, 0x0, 0x0, false, 0x0⟩,
  ⟨Reg.idUpctl, 1, 1, 0x1, 0x0, 0x0, 0x0, 0x2, false, 0x0⟩,
  ⟨Reg.idUpstat, 1, 1, 0xFFFFF, 0x0, 0x0, 0x0, 0x0, false, 0x0⟩,
  ⟨Reg.idUpaddr, 1, 1, 0x3FF, 0x0, 0x0, 0x0, 0x0, false, 0x0⟩,
  ⟨Reg.idUpdata, 1, 1, 0x0, 0x0, 0x0, 0x0, 0xFFFFFFFF, false, 0x0⟩,
  ⟨Reg.idUromid, 1, 1, 0x0, 0x0, 0x0, 0x0, 0x0, false, 0x0⟩,
  ⟨Reg.idUerr, 1, 1, 0x0, 0x0, 0x0, 0xFFFF, 0x0, false, 0x0⟩,
  ⟨Reg.idUmatch, 16, 1, 0x80FF1FFF, 0x0, 0x0, 0x0, 0x0, false, 0x0⟩]

/-- The IO-space block windows, in the order of R17 and of the target codes 0x50 to 0x60 (R383):
base, end, target code, registers. -/
def windows : List (Nat × Nat × Nat × List RegRow) := [
  (0x0100, 0x03FF, 0x50, regsIcu),
  (0x0400, 0x07FF, 0x51, regsCvu),
  (0x0800, 0x0BFF, 0x52, regsSched),
  (0x0C00, 0x0FFF, 0x53, regsImg),
  (0x1000, 0x13FF, 0x54, regsTarn),
  (0x1400, 0x17FF, 0x55, regsCmx),
  (0x1800, 0x1BFF, 0x56, regsAct),
  (0x2000, 0x23FF, 0x57, regsJrn),
  (0x2400, 0x27FF, 0x58, regsShr),
  (0x2800, 0x2BFF, 0x59, regsGrv),
  (0x2C00, 0x2FFF, 0x5A, regsFlt),
  (0x3000, 0x33FF, 0x5B, regsTb),
  (0x3400, 0x37FF, 0x5C, regsWdi),
  (0x3800, 0x3BFF, 0x5D, regsAtt),
  (0x3C00, 0x3FFF, 0x5E, regsPwr),
  (0x4000, 0x43FF, 0x5F, regsDbgv),
  (0xF000, 0xF3FF, 0x60, regsId)]

/-- The window an IO word lies in (R17): its target code and registers; none outside every window. -/
def windowOf (a : Nat) : Option (Nat × List RegRow) :=
  (windows.find? fun w => decide (w.1 ≤ a ∧ a ≤ w.2.1)).map fun w => (w.2.2.1, w.2.2.2)

/-- Does the row name word `a`? -/
def RegRow.has (r : RegRow) (a : Nat) : Bool :=
  decide (r.base ≤ a) && decide ((a - r.base) % r.stride = 0) && decide ((a - r.base) / r.stride < r.count)

/-- The register row of an IO word, none where no register is defined (R18). -/
def rowOf (a : Nat) : Option RegRow :=
  match windowOf a with
  | none => none
  | some w => w.2.find? (·.has a)

/-- Storage key of the bank-1 copy of a banked SCHED register (R49, R54, R57). -/
def bankKey (bank : Bool) (a : Nat) : Nat := if bank then a + 0x10000 else a

/-- Reset word of a stored IO register (R14); TARN_OWN under R344. Keys of bank 1 reset as bank 0. -/
def ioReset (k : Nat) : Word :=
  let a := k % 0x10000
  if 0x103D ≤ a ∧ a ≤ 0x103F then 0x3#32
  else if a = 0x103C then 0x1#32
  else match rowOf a with
    | some r => BitVec.ofNat 32 r.reset
    | none => 0#32

end Sys2Proof.Machine
end

