-- ==== Sys2Proof/Machine/State.lean ====
section
/-! DEFINITION. The state of the block as plain data: everything the manual gives the complex, block by block, and
`State.reset`. Registers of IO-space, of the slave port and of the debug port are held by address, unlisted registers at
their reset values; each other structure names the rule it follows. -/

namespace Sys2Proof.Machine

/-- Device states (R25). -/
inductive Dev where
  | off | reset | boot | config | run | tracking | safeHold | maintenance | halted
deriving DecidableEq, Repr

/-! ### Engines -/

/-- The gate context of an engine while a gate call is open (R209). -/
structure GateCtx where
  gate   : Nat
  stat   : Word
  dsp    : Word
  dsl    : Word
  ddepth : Word
  ret    : Word
  tow    : Bool
  tos    : Bool
  nret   : Nat
deriving DecidableEq, Repr

/-- A latched valid execute region: world, SUPONLY, first and last 64-byte granule (R203, R204). -/
structure XRegion where
  vital   : Bool
  supOnly : Bool
  base    : Nat
  limit   : Nat
deriving DecidableEq, Repr

/-- What an engine is doing: idle between Glades or done; running; in WAIT (R166); stopped until the next stage start
by a World Fault or fence of its own (R214). -/
inductive RunState where
  | idle | running | waiting | stopped
deriving DecidableEq, Repr

/-- The terminal pair of an engine (R486). -/
structure Terminal where
  tx      : Word
  txFull  : Bool
  txOvf   : Bool
  rx      : Word
  rxValid : Bool
deriving DecidableEq, Repr

/-- One Cladodel engine: the registers of R119, the operand-stack cache (top first, at most 32 cells), the gate context,
the latched execute regions, and where it is in its program. -/
structure Engine where
  pc       : Word
  stat     : Word
  trapen   : Word
  dsp      : Word
  dsl      : Word
  ddepth   : Word
  cells    : List Word
  rcnt     : Word
  srcp     : Word
  dstp     : Word
  lsk      : Word
  lskd     : Word
  rsv      : Word
  /-- Registers 0x10 to 0x1B by number. -/
  ers      : Sparse Word
  gate     : Option GateCtx
  xr       : List XRegion
  run      : RunState
  /-- A trap or supervisor call due at the boundary: its vector, or 0x100 and the call's number (R191, R194). -/
  dueTrap  : Option Nat
  /-- The first instruction of a handler has not yet retired (R213). -/
  inEntry  : Bool
  /-- Address at which the next instruction would fold with the one before it (R140). -/
  foldAt   : Option Word
  /-- The 16-byte block last fetched from an uncached region (R322). -/
  fetchBlk : Option Nat
  term     : Terminal
deriving DecidableEq, Repr

/-! ### Groves, caches and Weirs -/

/-- A cache line: line number (address / 64), data, dirty bit, the Application that last wrote it (R334), whether it
holds a parity error, and the Lake's lock bit (R330). -/
structure CLine where
  tag    : Nat
  data   : Line
  dirty  : Bool
  app    : Option Nat
  bad    : Bool
  locked : Bool
deriving DecidableEq, Repr

/-- Why a Weir tripped (R71, R78); `force` for a trip by the system (R408, R417, R520), a discard and not an overrun. -/
inductive TripCause where
  | cycles | beats | window | force
deriving DecidableEq, Repr

/-- A Glade running on a Grove: entry index and bank (R57), Application, stage, window end, armed budgets (R65, R74). -/
structure GladeRun where
  entry   : Nat
  app     : Nat
  stage   : Nat
  winEnd  : Nat
  cycBud  : Nat
  beatBud : Nat
deriving DecidableEq, Repr

/-- A Grove: its running Glade, Weir counts, stop and halt state, caches, victim cache, Ponds and LFSRs. -/
structure Grove where
  glade    : Option GladeRun
  /-- Weir counts of the current or last Glade: cycles and beats as each engine has run them; the Weir's cycle count is
  the larger, since the two run side by side (R68, R69). -/
  cycL     : Nat
  cycC     : Nat
  beatsL   : Nat
  beatsC   : Nat
  /-- The Weir is armed and counting (R72). -/
  counting : Bool
  trip     : Option TripCause
  doneL    : Bool
  doneC    : Bool
  /-- The Grove's part of its Glade is done (R67). -/
  done     : Bool
  haltReq  : Bool
  halted   : Bool
  /-- Released for one step (R480). -/
  stepping : Bool
  l1i      : Sparse (Option CLine)
  l1d      : Sparse (Option CLine)
  victim   : List CLine
  ipond    : Sparse Byte
  dpond    : Sparse Byte
  /-- Pond words with bad parity: byte offset, and 0x4000 more for the D-Pond (R333). -/
  pondBad  : List Nat
  lfsrI    : BitVec 16
  lfsrD    : BitVec 16
  lfsrLake : BitVec 16
  /-- A Pond conversion or zeroing in progress (R327). -/
  pondBusy : Bool
deriving DecidableEq, Repr

/-! ### Memory -/

/-- The class of a stored tarn codeword (R341). -/
inductive TarnErr where
  | good | single | multi | wrongAddr
deriving DecidableEq, Repr

/-- Why an NCH-M transaction is outstanding (R503, R504): a Lake fill for a prefetch or for preload-and-lock,
or a write with the engine or master that made it and the Application it belongs to. -/
inductive NchUse where
  | pfh (e : Nat) (icache : Bool)
  | preload
  | write (app : Option Nat) (addr len : Nat)
deriving DecidableEq, Repr

/-- An outstanding NCH-M transaction: ID, line number, master, purpose, whether its response has come (and its
outcome), and whether the line may be allocated (R339). -/
structure NchTxn where
  id     : Nat
  line   : Nat
  master : Nat
  use    : NchUse
  alloc  : Bool
  done   : Option Bool
deriving DecidableEq, Repr

/-- A CMX operation in progress (R337): operation, first and last line, FORCE and targets as written, next line of the
walk, the writing master's world and level. -/
structure CmxOp where
  op     : Nat
  first  : Nat
  last   : Nat
  cmd    : Word
  next   : Nat
  master : Nat
  vital  : Bool
  sup    : Bool
deriving DecidableEq, Repr

/-- A denied request as ACT_VINFO and ACT_VADDR log it (R386, R389). -/
structure Denial where
  master : Nat
  vital  : Bool
  sup    : Bool
  tcode  : Nat
  need   : Nat
  space  : Nat
  owner  : Bool
  addr   : Word
deriving DecidableEq, Repr

/-! ### Journal -/

/-- A journaled write whose entry is being written (R392): sequence number, origin, world, level, KIND, exempt bit, address,
target code, OLD, NEW, and the time taken in cycle a. -/
structure JrnWrite where
  seq    : Word
  origin : Nat
  vital  : Bool
  sup    : Bool
  kind   : Nat
  exempt : Bool
  addr   : Nat
  tcode  : Nat
  old    : Word
  new    : Word
  time   : Dbl
  /-- The value written, as the block applies it at the effect. -/
  value  : Word
deriving DecidableEq, Repr

/-! ### Timebase -/

/-- Timebase state beside its registers (R38 to R46, R303). -/
structure TbState where
  now      : Dbl
  setL     : Word
  /-- Captured high words by master (R39), and of SCHED_CYCH (R52). -/
  capH     : Sparse (Option Word)
  cycH     : Sparse (Option Word)
  /-- Error still to work off, in ns, and ticks since the last adjusted tick (R44). -/
  err      : Int
  sinceAdj : Nat
  /-- Time of the last TB_PPS edge or of the setting of SRC, and whether an edge has come since SRC was set (R45, R46). -/
  ppsLast  : Option Dbl
  ppsSeen  : Bool
deriving DecidableEq, Repr

/-! ### Scheduler and images -/

/-- How an Application's last due cycle ended (R84). -/
inductive CycleEnd where
  | none | committed | overrun | discarded
deriving DecidableEq, Repr

/-- An Application's run: the boundary at which its cycle started, whether that cycle is in progress, the next stage to
start, how the last cycle ended, whether its outlet was committed and not yet handed over, discarded cycles since the
last commit (R407), and the samples of R90. -/
structure AppRun where
  /-- Enabled and started at least one cycle (R83). -/
  started    : Bool
  cycleN     : Dbl
  active     : Bool
  nextStage  : Nat
  ended      : CycleEnd
  discards   : Nat
  /-- Next cycle is to be discarded (R334). -/
  discardNext : Bool
  /-- FIRST is to be shown at the next step 6 (R90). -/
  first      : Bool
  /-- The status bits sampled at step 6: FIRST, OVRPREV, SAFEOUT, PRIMARY, SAG, INSTALE in bits 2 to 7. -/
  status     : Byte
  /-- Time at which the last named Grove of the last stage was done (R406). -/
  doneAt     : Option Dbl
  /-- Diverse parts compared equal (R258). -/
  compared   : Bool
  /-- Inlet and outlet check values of this cycle, and whether the outlet's is ready (R272, R379). -/
  cvIn       : Dbl
  cvOut      : Dbl
  cvOutReady : Bool
  /-- Routes the sweep has not reached (R98, R100). -/
  unswept    : List Nat
  /-- Fill period in progress (R98). -/
  filling    : Bool
  /-- A route of this fill period was denied or met an uncorrectable read (R518). -/
  routeBad   : Bool
  /-- An outlet has been committed since the Application was enabled (R83, R101). -/
  hasOut     : Bool
deriving DecidableEq, Repr

/-- A route of the route store (R94): the four words of its entry. -/
structure Route where
  w0 : Word
  w1 : Word
  w2 : Word
  w3 : Word
deriving DecidableEq, Repr

/-- A field-attach port's FIFO of received records and its transmit queue, each record its words (R106, R115). -/
structure AttPort where
  fifo : List (List Word)
  tx   : List (List Word)
deriving DecidableEq, Repr

/-- Power handshakes (R508 to R510): the pins, the wake causes not yet acted on, groups unusable until Reset (R449, R510),
and the times of the last edges by Grove or group. -/
structure PwrState where
  gen     : BitVec 16
  gok     : BitVec 16
  ret     : BitVec 15
  rok     : BitVec 15
  wakeReq : BitVec 15
  dead    : BitVec 15
  upReq   : BitVec 16
  genRise : Sparse (Option Dbl)
  gokRise : Sparse (Option Dbl)
  retFall : Sparse (Option Dbl)
  rokFall : Sparse (Option Dbl)
  /-- PWR_SAFE as driven (R418). -/
  safe    : Bool
  /-- SPILL_KEEP toggles (R317). -/
  spillOn : Bool
  /-- Time of an accepted LOSS while its order of events runs; whether the safe images have been sent and PWR_LOSSMK written
  since (R418). -/
  lossAt  : Option Dbl
  lossSent : Bool
  marked  : Bool
deriving DecidableEq, Repr

/-- Debug state of PD_DBG beside its registers (R470, R471, R473, R474): the TAP's instruction register and the RNW and ADDR last
shifted in, the granted level, the authentication counter, and the end of a lockout. -/
structure DbgState where
  tapIr    : BitVec 5
  rnw      : Bool
  addr     : BitVec 10
  granted  : Nat
  counter  : Word
  lockEnd  : Option Dbl
  /-- Trace records waiting in the FIFO, oldest first: address and target (R487). -/
  trace    : List (Word × Word)
deriving DecidableEq, Repr

/-! ### Boundary sequencer, twin and edit -/

/-- What the boundary sequencer waits for: HANDOFF in step 1 (R278), records in step 2 (R272), the standby's agreement in
step 4 (R64), snapshots in step 4 (R274). -/
inductive BndPhase where
  | idle | handoff | records | agree | snapshots
deriving DecidableEq, Repr

/-- The boundary sequencer: its wait, the cycle number of its last boundary, when that boundary and its wait began, and the
lowest cycle number whose boundary has not yet passed (R48). -/
structure Bnd where
  phase : BndPhase
  cyc   : Dbl
  start : Dbl
  since : Dbl
  next  : Dbl
deriving DecidableEq, Repr

/-- An outcome record (R272): Application, cycle number [31:0], committed, outlet check value, PROGID. -/
structure TwinRec where
  app       : Nat
  cyc       : Word
  committed : Bool
  cv        : Dbl
  progid    : Word
deriving DecidableEq, Repr

/-- A snapshot being received (R274): Application, words taken, running check value, and once its closing frame has come,
the primary's check value and bank digest. -/
structure SnapRx where
  app  : Nat
  got  : Nat
  reg  : Nat
  want : Option (Dbl × Word)
deriving DecidableEq, Repr

/-- Twin state (R267 to R279): whether the pair runs (the primary's view of a twin in Tracking, or a member's own); the
Applications on the agreed inlet; a join in progress and its attempts for the current Application; records received and
sent; snapshots; the agreement received (EACK and EID); the first miss and the report that the primary is lost; an armed
switchover; a switchover or bank swap that waits for SW_PREPD; HANDOFF received; the next frame of a copy awaited by a
joining device, and the Application whose copy the primary has sent (R270). -/
structure Twin where
  live     : Bool
  joined   : List Nat
  joining  : Bool
  tries    : Nat
  recs     : List TwinRec
  mine     : List TwinRec
  snaps    : List SnapRx
  agreed   : Option (Bool × Word)
  missAt   : Option Dbl
  lostAt   : Option Dbl
  armed    : Option Dbl
  prep     : Option Dbl
  swapPrep : Option Dbl
  handoff  : Bool
  jNext    : Nat
  jOut     : Option Nat
deriving DecidableEq, Repr

/-- A staged edit (R237): Application, slot (true for B), table start and entries in T61, T5, and the table's CRC-32C. -/
structure Staged where
  app   : Nat
  slotB : Bool
  off   : Nat
  count : Nat
  t5    : Nat
  crc   : Word
deriving DecidableEq, Repr

/-- Edit state: the staged edit, the last EID, the pending shadow (R234), the first failing reason at the commit boundary in
progress, EGO received, and the decision to commit (R245), and an accepted arming whose pending header is still to be read (R243). -/
structure EditSt where
  arming : Bool
  staged : Option Staged
  eid    : Word
  pend   : List Word
  fail   : Nat
  ego    : Bool
  commit : Bool
deriving DecidableEq, Repr

/-! ### Shore ring -/

/-- A frame waiting at a transmitter: class (R290), transit, ends in an error block (R293), when it arrived, words. -/
structure TxFrame where
  arr     : Dbl
  cls     : Nat
  transit : Bool
  bad     : Bool
  words   : List Word
deriving DecidableEq, Repr

/-- A Shore port: source and number of consecutive intact heartbeats, time of the last one, its TSTAMP and arrival for the
echo (R296), the last heartbeats sent with their TSTAMP and the echo they carried, the last 16 delays (R302), the transmit
queue, and class-2 blocks sent since the cycle start (R313). -/
structure ShrPort where
  hbSrc  : Nat
  hbCnt  : Nat
  hbLast : Option Dbl
  echoT  : Word
  echoR  : Word
  sent   : List (Word × Word × Word)
  delays : List Int
  tx     : List TxFrame
  meter  : Nat
deriving DecidableEq, Repr

/-- What the applied reports say of a node (R299, R300). -/
structure NodeLinks where
  node : Nat
  nbrA : Nat
  nbrB : Nat
  upA  : Bool
  upB  : Bool
  act  : Bool
  wit  : Bool
deriving DecidableEq, Repr

/-- A report that waits to be applied (R299): when, its node's links (TOPO), or one link of a node (port B or A, up or
down). -/
inductive Report where
  | topo (at' : Dbl) (ts : Word) (l : NodeLinks)
  | link (at' : Dbl) (ts : Word) (node other : Nat) (portB up : Bool)
deriving DecidableEq, Repr

/-- A copy taken within the last 1 ms (R292). -/
structure SeenCopy where
  src  : Nat
  typ  : Nat
  sub  : Nat
  seq  : Word
  time : Dbl
deriving DecidableEq, Repr

/-- The Shore ring block: ports; node records and reports; copies seen; sequence counters by TYPE * 65536 + SUB; the item
table in force, the one waiting (with its SHR_ITCNT word); whether this node acts as manager; consecutive mismatching
BEACONs; the last SYNC and whether the first since SRC was set has come; the last JOIN_REQ; when a roster node was first
outside the settled set (R307); SHR alive (R317). -/
structure Shr where
  pa       : ShrPort
  pb       : ShrPort
  nodes    : List NodeLinks
  reports  : List Report
  seen     : List SeenCopy
  seqs     : Sparse Word
  items    : List (Word × Word)
  waiting  : Option (Word × List (Word × Word))
  acting   : Bool
  bcnBad   : Nat
  syncLast : Option Dbl
  syncSeen : Bool
  outside  : Sparse (Option Dbl)
  alive    : Bool
deriving DecidableEq, Repr

/-! ### Check-value units -/

/-- An entry of a general unit's queue (R374). -/
inductive CvuCmd where
  | init | go | fin
  | feed (n : Nat) (v : Word)
deriving DecidableEq, Repr

/-- A general unit beside its registers: queue, feeder job running, recorded writer
(master, world, level), and the programmable set latched at INIT (R382). -/
structure CvuUnit where
  queue  : List CvuCmd
  going  : Bool
  wm     : Nat
  wv     : Bool
  ws     : Bool
  set    : List Word
deriving DecidableEq, Repr

/-- A job of a vital channel: a software job of a master, or the outlet check of an Application. -/
inductive VJob where
  | soft (m : Nat)
  | outlet (a : Nat)
deriving DecidableEq, Repr

/-! ### Management interface -/

/-- A mailbox channel (R425): STATE, REJ, ABT, MASTER, command and response words. -/
structure Mbx where
  st     : Nat
  rej    : Bool
  abt    : Bool
  master : Nat
  cmd    : Sparse Word
  rsp    : Sparse Word
deriving DecidableEq, Repr

/-- A load object (R435): kind, TOTAL, word offset in T61, passed LOAD_END. -/
structure LoadObj where
  kind   : Nat
  total  : Nat
  base   : Nat
  passed : Bool
deriving DecidableEq, Repr

/-- A session (R431, R432). -/
structure Session where
  sid     : Nat
  master  : Nat
  expert  : Bool
  authed  : Bool
  timeout : Nat
  lastUse : Dbl
  nonce   : List Word
  obj     : Option LoadObj
deriving DecidableEq, Repr

/-- One flash operation (R451): erase a sector, or program a page. -/
inductive FlashOp where
  | erase (addr : Nat)
  | program (addr : Nat) (data : List Byte)
deriving DecidableEq, Repr

/-- A command that waits (R434) or holds the flash (R457): the operations left, of which the first runs, and the read-back
check of FW_WRITE (address and bytes). -/
inductive WaitKind where
  | startStandby
  | switchover (s : Dbl)
  | swap (s : Dbl)
  | edit (app : Nat) (c : Dbl) (armed : Bool)
  | flash (ops : List FlashOp) (check : Option (Nat × List Byte))
deriving DecidableEq, Repr

/-- A waiting command, its channel, and JRN_HEAD after its last journaled write if it has made one (R428). -/
structure WaitCmd where
  chan : Nat
  kind : WaitKind
  hseq : Option Word
deriving DecidableEq, Repr

/-- Boot state: last step done, the commit record in force (16 words) and its copy, the slots still to try, bytes of firmware
loaded and the CRC-32C computed over them (R449), the VERSION of the slot loaded (R455). -/
structure BootSt where
  step  : Nat
  record : Option (List Word)
  copyB : Bool
  fwLen : Nat
  crc   : Word
  version : Word
deriving DecidableEq, Repr

/-! ### The whole block -/

/-- The state of the complex. -/
structure State where
  /-- Commands waiting, first in, first out. -/
  pending  : List Instr
  /-- Data and response of the last access answered at a port (R498, R502): response code and words. -/
  outResp  : BitVec 2
  outData  : List Word
  /-- Counter that free values are indexed by; the model's own. -/
  free     : Nat
  /-- Device state, state before the last change, cause of the last change (R25, R28). -/
  dev      : Dev
  prevDev  : BitVec 4
  cause    : Byte
  tb       : TbState
  /-- IO-space registers by word address; bank 1 of a banked SCHED register at address + 0x10000. -/
  io       : Sparse Word
  /-- Slave-port registers by byte offset (R422) and debug registers by debug address (R475). -/
  host     : Sparse Word
  dbg      : Sparse Word
  engs     : Sparse Engine
  grvs     : Sparse Grove
  /-- The Lake's lines by set * 16 + way (R329) and LFSR 16 (R332). -/
  lake     : Sparse (Option CLine)
  lfsr16   : BitVec 16
  /-- D-space bytes of outer memory and tarns by byte address (R133). -/
  mem      : Sparse Byte
  /-- Codeword class of tarn words, by tarn * 32768 + word (R341). -/
  tarnErr  : Sparse TarnErr
  /-- Queued correction writes of each tarn, oldest first (R341). -/
  corrQ    : Sparse (List Nat)
  scrubPos : Sparse Nat
  /-- Owner change not yet in effect, by tarn (R345). -/
  ownPend  : Sparse (Option Word)
  /-- Outer-memory lines that answer ERR (R504), by line number. -/
  outerErr : List Nat
  nchm     : List NchTxn
  cmx      : Option CmxOp
  pwr      : PwrState
  dbgSt    : DbgState
  /-- Fuse shadow by fuse word (R512, R513). -/
  fuse     : Sparse Word
  /-- Access-table entries by target code * 64 + master (R384). -/
  act      : Sparse (BitVec 16)
  jPend    : Option JrnWrite
  /-- Next released entry to complement (R395). -/
  jRel     : Word
  /-- Fault records held, oldest first, words 0 to 7 (R411, R412). -/
  flt      : List (List Word)
  /-- Cause of a Safe Hold that FLT is to enter within 1 us (R408), and engines to be fenced within 1 us (R214). -/
  safeReq  : Option Nat
  fenceReq : BitVec 32
  /-- The Wellspring pair is held stopped after WSP_FAULT (R408). -/
  wspStopped : Bool
  /-- Events held for the host, oldest first (R424). -/
  evq      : List Word
  apps     : Sparse AppRun
  /-- A boundary was cut since EN was set (R48). -/
  cutSince : Bool
  routes   : List Route
  waitRoutes : Option (Word × List Route)
  valRoutes  : Option Word
  att      : Sparse AttPort
  attLast  : Nat
  /-- Hold-offs running (R364). -/
  holdRun  : BitVec 32
  /-- Microcode store errors by copy * 16384 + microaddress: true for an uncorrectable one (R219). -/
  ucErr    : Sparse (Option Bool)
  /-- Patch memory lanes by patch word * 4 + lane (R225). -/
  upatch   : Sparse Word
  bnd      : Bnd
  twin     : Twin
  edit     : EditSt
  /-- Entry shadow: the 64 header words of the active slot by Application (R234). -/
  shadow   : Sparse (List Word)
  /-- Outlet routes still to run, by route index (R101), with the Application's safe-image choice of step 2. -/
  outQ     : List (Nat × Route × Bool)
  /-- Inlet routes to apply again because their source was updated (R98). -/
  inQ      : List Nat
  shr      : Shr
  cvu      : Sparse CvuUnit
  vjob     : Sparse (Option VJob)
  mbx      : Sparse Mbx
  /-- Channels in the order in which their GO was accepted (R427). -/
  goQ      : List Nat
  sessions : List Session
  openCnt  : Word
  /-- Consecutive failed AUTHs by master, and the end of a lockout (R431). -/
  authFail : Sparse Nat
  authLock : Sparse (Option Dbl)
  waits    : List WaitCmd
  /-- Applications that APP_DEFINE has defined, with their SCHED_APPn fields, as the Wellspring keeps them (R433). -/
  defs     : Sparse (Option Word)
  /-- The operation that the flash controller runs (R451). -/
  flash    : Option FlashOp
  boot     : BootSt
  /-- Groves prepared as Spares (R263). -/
  prepared : BitVec 16
  /-- Fenced Groves for which no Spare was found (R266). -/
  noSpare  : BitVec 16
  /-- PCs frozen by WD_BITE and not yet captured (R468), and whether the capture of this Reset has been made. -/
  frozen   : Option (List Word)
  captured : Bool
  /-- WD_SET[7:0] as last driven (R466). -/
  wdSet    : Byte
  /-- Reset sources asserted, as the bits of ID_RSTSRC (R446), and fuse words loaded since the release (R495). -/
  rstSrc   : BitVec 5
  fuseDone : Bool
  /-- A device-wide halt waits for the boundary step in progress (R478). -/
  devHalt  : Bool
  /-- Suspension of Auxiliary Glades under SAG2 that lasts to the next boundary after power-up (R417). -/
  auxHeld  : Bool
deriving DecidableEq, Repr

namespace State

/-- An engine after a Grove reset (R119). -/
def engReset : Engine :=
  { pc := 0, stat := 0, trapen := 0, dsp := 0, dsl := 0, ddepth := 0, cells := [], rcnt := 0, srcp := 0, dstp := 0,
    lsk := 0, lskd := 0, rsv := 0, ers := [], gate := none, xr := [], run := .idle, dueTrap := none, inEntry := false,
    foldAt := none, fetchBlk := none,
    term := { tx := 0, txFull := false, txOvf := false, rx := 0, rxValid := false } }

/-- A Grove at Reset: idle, caches empty. The L1 and Lake LFSRs hold 0x0001 (DESIGN CHOICE, log 7). -/
def grvReset : Grove :=
  { glade := none, cycL := 0, cycC := 0, beatsL := 0, beatsC := 0, counting := false, trip := none, doneL := false, doneC := false,
    done := false, haltReq := false, halted := false, stepping := false, l1i := [], l1d := [], victim := [], ipond := [],
    dpond := [], pondBad := [], lfsrI := 1, lfsrD := 1, lfsrLake := 1, pondBusy := false }

/-- An Application never started. -/
def appReset : AppRun :=
  { started := false, cycleN := 0, active := false, nextStage := 0, ended := .none, discards := 0, discardNext := false,
    first := false, status := 0, doneAt := none, compared := false, cvIn := 0, cvOut := 0, cvOutReady := false,
    unswept := [], filling := false, routeBad := false, hasOut := false }

/-- An attach port with an empty FIFO and queue. -/
def attReset : AttPort := { fifo := [], tx := [] }

/-- Timebase at AON power-up (R39). -/
def tbReset : TbState :=
  { now := 0, setL := 0, capH := [], cycH := [], err := 0, sinceAdj := 1000, ppsLast := none, ppsSeen := false }

/-- Power pins after Reset (R508); every Grove supply in range, no group at retention voltage (DEDUCED from ON = 0xFFFF,
log 5). -/
def pwrReset : PwrState :=
  { gen := 0xFFFF, gok := 0xFFFF, ret := 0, rok := 0, wakeReq := 0, dead := 0, upReq := 0, genRise := [], gokRise := [],
    retFall := [], rokFall := [], safe := false, spillOn := false, lossAt := none, lossSent := false, marked := false }

/-- Boundary sequencer idle (R48). -/
def bndReset : Bnd := { phase := .idle, cyc := 0, start := 0, since := 0, next := 0 }

/-- No twin. -/
def twinReset : Twin :=
  { live := false, joined := [], joining := false, tries := 0, recs := [], mine := [], snaps := [], agreed := none, missAt := none,
    lostAt := none, armed := none, prep := none, swapPrep := none, handoff := false, jNext := 0, jOut := none }

/-- Nothing staged. -/
def editReset : EditSt := { arming := false, staged := none, eid := 0, pend := [], fail := 0, ego := false, commit := false }

/-- A Shore port that has received nothing. -/
def portReset : ShrPort := { hbSrc := 0x3F, hbCnt := 0, hbLast := none, echoT := 0, echoR := 0, sent := [], delays := [], tx := [], meter := 0 }

/-- The Shore ring at Reset. -/
def shrReset : Shr :=
  { pa := portReset, pb := portReset, nodes := [], reports := [], seen := [], seqs := [], items := [], waiting := none,
    acting := false, bcnBad := 0, syncLast := none, syncSeen := false, outside := [], alive := true }

/-- A general check-value unit with nothing queued. -/
def cvuReset : CvuUnit := { queue := [], going := false, wm := 0, wv := false, ws := false, set := [] }

/-- A mailbox channel at Reset: IDLE with zeroed buffers (R443). -/
def mbxReset : Mbx := { st := 0, rej := false, abt := false, master := 0, cmd := [], rsp := [] }

/-- PD_DBG after DBG_RST_N (R470); the TAP selects IDCODE (PRESUMED from IEEE 1149.1, log 36). -/
def dbgReset : DbgState :=
  { tapIr := 1, rnw := false, addr := 0, granted := 0, counter := 0, lockEnd := none, trace := [] }

/-- Before boot. -/
def bootReset : BootSt := { step := 0, record := none, copyB := false, fwLen := 0, crc := 0, version := 0 }

/-- The complex right after AON power-up, in Reset with AON_POR_N still asserted (R26, R28, R446): the state every run starts
from. -/
def reset : State :=
  { pending := [], outResp := 0, outData := [], free := 0, dev := .reset, prevDev := 0, cause := 0, tb := tbReset,
    io := [(0xF003, 1#32)], host := [], dbg := [], engs := [], grvs := [], lake := [], lfsr16 := 1, mem := [], tarnErr := [],
    corrQ := [], scrubPos := [], ownPend := [], outerErr := [], nchm := [], cmx := none, pwr := pwrReset,
    dbgSt := dbgReset, fuse := [], act := [], jPend := none,
    jRel := 0, flt := [], safeReq := none, fenceReq := 0, wspStopped := false, evq := [], apps := [], cutSince := false, routes := [], waitRoutes := none, valRoutes := none, att := [],
    attLast := 15, holdRun := 0, ucErr := [], upatch := [],
    bnd := bndReset, twin := twinReset, edit := editReset, shadow := [], outQ := [], inQ := [], shr := shrReset, cvu := [],
    vjob := [], mbx := [], goQ := [], sessions := [], openCnt := 0, authFail := [], authLock := [], waits := [], defs := [], flash := none,
    boot := bootReset, prepared := 0, noSpare := 0, frozen := none, captured := false, wdSet := 0, rstSrc := 1, fuseDone := false,
    devHalt := false, auxHeld := false }

end State

/-- Ways a step can stop short of a next state with a fault. -/
inductive Fault where
  /-- Raised by NCHM_READ_RESPONSE and NCHM_WRITE_ACK for an ID on which nothing is outstanding: the surroundings broke
  the contract of R499 and R503 in a way the complex cannot detect, and R9 gives no behaviour for it. Safe: the model
  stops where the hardware does something the manual does not state. -/
  | brokenContract
deriving DecidableEq, Repr

/-- Ways a step can be refused. -/
inductive Refusal where
  /-- Raised by the dispatcher for a command that has no meaning yet. Safe. -/
  | notModelled (mnemonic : String)
deriving DecidableEq, Repr

end Sys2Proof.Machine
end

