-- ==== Sys2Proof/Machine/Ops.lean ====
section
/-! DEFINITION. Named operations over the state: IO registers and their fields, engines, Groves, bytes of memory,
free values, events and fault records. -/

namespace Sys2Proof.Machine

/-! ### IO-space registers -/

/-- The stored word of an IO register. -/
def rd (s : State) (a : Nat) : Word := Sparse.get (ioReset a) s.io a

/-- Store a word in an IO register. -/
def wr (s : State) (a : Nat) (v : Word) : State := { s with io := Sparse.set (ioReset a) s.io a v }

/-- A field of a stored register, and the register with the field replaced. -/
def rf (s : State) (a hi lo : Nat) : Nat := fld (rd s a) hi lo
def wf (s : State) (a hi lo v : Nat) : State := wr s a (putFld (rd s a) hi lo v)

/-- A flag of a stored register. -/
def rb (s : State) (a i : Nat) : Bool := bit (rd s a) i
def sb (s : State) (a i : Nat) (b : Bool) : State := wr s a (putBit (rd s a) i b)

/-- Add to a saturating counter field. -/
def bump (s : State) (a hi lo k : Nat) : State := wf s a hi lo (satAdd (2 ^ (hi - lo + 1) - 1) (rf s a hi lo) k)

/-- Slave-port registers by byte offset (R422) and debug registers by debug address (R475), reset 0 but for DBG_FEED1.LEN
and DBG_MCTL.SIZE. -/
def hostRd (s : State) (off : Nat) : Word := Sparse.get 0#32 s.host off
def hostWr (s : State) (off : Nat) (v : Word) : State := { s with host := Sparse.set 0#32 s.host off v }
def dbgReset (a : Nat) : Word := if a = 0x016 then 0x100#32 else if a = 0x021 then 0x8#32 else 0#32
def dbgRd (s : State) (a : Nat) : Word := Sparse.get (dbgReset a) s.dbg a
def dbgWr (s : State) (a : Nat) (v : Word) : State := { s with dbg := Sparse.set (dbgReset a) s.dbg a v }

/-! ### Engines, Groves, Applications -/

def eng (s : State) (e : Nat) : Engine := Sparse.get State.engReset s.engs e
def putEng (s : State) (e : Nat) (x : Engine) : State := { s with engs := Sparse.set State.engReset s.engs e x }
def grv (s : State) (g : Nat) : Grove := Sparse.get State.grvReset s.grvs g
def putGrv (s : State) (g : Nat) (x : Grove) : State := { s with grvs := Sparse.set State.grvReset s.grvs g x }
def app (s : State) (a : Nat) : AppRun := Sparse.get State.appReset s.apps a
def putApp (s : State) (a : Nat) (x : AppRun) : State := { s with apps := Sparse.set State.appReset s.apps a x }
def attp (s : State) (p : Nat) : AttPort := Sparse.get State.attReset s.att p
def putAttp (s : State) (p : Nat) (x : AttPort) : State := { s with att := Sparse.set State.attReset s.att p x }

/-- Modes of a Grove (R251): GRV_MODEg.MODE, WORLD, SPARE and the fence bits. -/
def grvModeF (s : State) (g : Nat) : Nat := rf s (Reg.grvMode + g) 1 0
def isLockstep (s : State) (g : Nat) : Bool := grvModeF s g = 0
def isDiverse (s : State) (g : Nat) : Bool := grvModeF s g = 1
def isSplit (s : State) (g : Nat) : Bool := grvModeF s g = 2
def grvVital (s : State) (g : Nat) : Bool := rb s (Reg.grvMode + g) 2
def grvSpare (s : State) (g : Nat) : Bool := rb s (Reg.grvMode + g) 3
def engFenced (s : State) (e : Nat) : Bool := rb s Reg.grvFence e
def grvFenced (s : State) (g : Nat) : Bool := engFenced s (2 * g) || engFenced s (2 * g + 1)

/-- A Grove is idle when no Glade runs on it (R251). -/
def grvIdle (s : State) (g : Nat) : Bool := (grv s g).glade.isNone

/-! ### Free values -/

/-- Take the next free wait (cycles). -/
def freeWait (s : State) : Nat × State := (Config.freeWait s.free, { s with free := s.free + 1 })

/-! ### Memory bytes (R16, R133) -/

/-- The byte at a D-space address of outer memory or a tarn; a byte nothing has written reads 0 (log 2). -/
def byteAt (s : State) (a : Nat) : Byte := Sparse.get 0#8 s.mem a
def putByte (s : State) (a : Nat) (b : Byte) : State := { s with mem := Sparse.set 0#8 s.mem a b }

/-- The word at an address. -/
def wordAt (s : State) (a : Nat) : Word := bytesWord (byteAt s a) (byteAt s (a + 1)) (byteAt s (a + 2)) (byteAt s (a + 3))

/-- Store bytes upward from an address. -/
def putBytes (s : State) (a : Nat) : List Byte → State
  | [] => s
  | b :: r => putBytes (putByte s a b) (a + 1) r

/-- Bytes whose contents the manual leaves open take free values. -/
def freeBytes (s : State) (a : Nat) : Nat → State
  | 0 => s
  | n + 1 => freeBytes { putByte s a ((Config.freeWord s.free).extractLsb' 0 8) with free := s.free + 1 } (a + 1) n

def putWord (s : State) (a : Nat) (w : Word) : State := putBytes s a (wordBytes w)

/-- Address of word `w` of tarn `t` (R133). -/
def tarnAddr (t w : Nat) : Nat := 0x80000000 + t * 0x20000 + 4 * w

/-- Raw contents of a tarn word: the data its codeword stands for. -/
def tarnRaw (s : State) (t w : Nat) : Word := wordAt s (tarnAddr t w)
def putTarnRaw (s : State) (t w : Nat) (v : Word) : State := putWord s (tarnAddr t w) v

/-- Raw contents of consecutive tarn words. -/
def tarnRawN (s : State) (t w n : Nat) : List Word := (List.range n).map fun i => tarnRaw s t (w + i)

/-- A 64-byte line of outer memory by line number. -/
def lineAt (s : State) (n : Nat) : Line :=
  (List.range 64).foldr (fun i (acc : Line) => (acc <<< 8) ||| (byteAt s (n * 64 + i)).setWidth 512) 0
def lineBytes (l : Line) : List Byte := (List.range 64).map fun i => l.extractLsb' (8 * i) 8
def putLine (s : State) (n : Nat) (l : Line) : State := putBytes s (n * 64) (lineBytes l)

/-- A byte of a line, and the line with a byte replaced. -/
def lineByte (l : Line) (i : Nat) : Byte := l.extractLsb' (8 * i) 8
def putLineByte (l : Line) (i : Nat) (b : Byte) : Line :=
  (l &&& ~~~ ((0xFF#512) <<< (8 * i))) ||| ((b.setWidth 512) <<< (8 * i))

/-! ### Device state (R25, R28) -/

/-- Codes of R25. -/
def Dev.code : Dev → Nat
  | .off => 0 | .reset => 1 | .boot => 2 | .config => 3 | .run => 4 | .tracking => 5 | .safeHold => 6
  | .maintenance => 7 | .halted => 8

/-! ### Events (R424) -/

def offHintstat : Nat := 0x10
def offHinten : Nat := 0x14
def offEvstat : Nat := 0x1C
def offPage (h : Nat) : Nat := 0x20 + 4 * h
def offWinstat : Nat := 0x40

/-- Queue an event for the host; an event that finds 32 held is dropped, sets OVF and counts in LOST (R424). A stopped Wellspring queues
none (R442). -/
def pushEvent (s : State) (kind arg data : Nat) : State :=
  if s.wspStopped then s
  else if s.evq.length ≥ 32 then
    let w := hostRd s offEvstat
    hostWr s offEvstat (putBit (putFld w 31 16 (satAdd 0xFFFF (fld w 31 16) 1)) 6 true)
  else { s with evq := s.evq ++ [BitVec.ofNat 32 (kind + arg % 256 * 0x100 + data % 0x8000 * 0x10000 + 0x80000000)] }

/-! ### Fault records (R411, R412) -/

/-- Word 0 of a fault record (R411). -/
def faultWord0 (r : FaultInfo) : Word :=
  BitVec.ofNat 32 (r.code.toNat + r.scope.toNat * 2 ^ 8 + b2n r.masked * 2 ^ 11 + b2n r.discard * 2 ^ 12
    + r.master.toNat * 2 ^ 16 + r.app.toNat * 2 ^ 22 + r.grove.toNat * 2 ^ 27)

/-- FLT stores a record and tells the Wellspring, which queues the FAULT event; with 64 held the record is lost, takes no
sequence number, and counts (R412, R424). -/
def record (s : State) (r : FaultInfo) : State :=
  if s.flt.length ≥ 64 then sb (bump s Reg.fltLost 15 0 1) Reg.fltStat 0 true
  else
    let seq := rd s Reg.fltHead
    let ws := [faultWord0 r, lo32 s.tb.now, hi32 s.tb.now, rd s Reg.schedCycl, r.addr, r.info, seq]
    let s := { s with flt := s.flt ++ [ws ++ [crc32c ws]] }
    let s := wf (wr s Reg.fltHead (seq + 1)) Reg.fltStat 14 8 s.flt.length
    pushEvent s 1 r.code.toNat (seq.toNat % 0x8000)

/-- A record with every optional field at its default: MASTER 33, APP, GROVE, ADDR and INFO 0 (R411). -/
def faultOf (code scope : Nat) : FaultInfo :=
  { code := BitVec.ofNat 8 code, scope := BitVec.ofNat 3 scope, masked := false, discard := false, master := 33#6,
    app := 0, grove := 0, addr := 0, info := 0 }

/-! ### Listen-only (R116) -/

/-- The accepted level of VMON (R415), 3 normal down to 0 LOSS. -/
def vmonLevel (s : State) : Nat := rf s Reg.pwrVstat 3 2

/-- ATT_LISTEN[p] (R116). -/
def attListen (s : State) (p : Nat) : Bool :=
  decide (s.dev ≠ .run) || rb s Reg.attLforce p || !rb s (Reg.attPcfg + p) 0 ||
  (!rb s (Reg.attPcfg + p) 1 && decide (vmonLevel s ≤ 1))

/-- A port that is listen-only holds no transmit record. -/
def attSettle (s : State) : State :=
  (List.range 16).foldl (fun st p => if attListen st p then putAttp st p { attp st p with tx := [] } else st) s

/-- SPILL_KEEP toggles (R33, R317). -/
def spillToggles (s : State) : Bool :=
  s.shr.alive && decide (vmonLevel s ≠ 0) &&
  (match s.dev with
   | .config | .run | .tracking | .safeHold | .maintenance => true
   | .off | .reset | .boot | .halted => false)

/-- States in which a manager acts (R305). -/
def managerState (s : State) : Bool :=
  match s.dev with
  | .config | .run | .tracking | .maintenance => true
  | .off | .reset | .boot | .safeHold | .halted => false

/-- This node starts to act as manager: its roster gains its own number (R308). -/
def startActing (s : State) (n : Nat) : State :=
  let s := { s with shr := { s.shr with acting := true } }
  sb (sb s (Reg.shrRoster0 + n / 32) (n % 32) true) Reg.shrStat 26 true

/-- Node 0 acts by its state (R305). -/
def managerSettle (s : State) : State :=
  if rf s Reg.shrNode 5 0 = 0 ∧ rb s Reg.shrNode 6 then
    if managerState s then (if s.shr.acting then s else startActing s 0) else { s with shr := { s.shr with acting := false } }
  else if rb s Reg.shrNode 6 then s
  else { s with shr := { s.shr with acting := false } }

/-- What follows at once from the device state, the supply level and the port registers: listen-only (R116), SPILL_KEEP
(R317) and the manager's part (R305). -/
def settle (s : State) : State :=
  managerSettle { attSettle s with pwr := { s.pwr with spillOn := spillToggles s } }

/-- Change the device state (R25, R28) and queue the STATE event (R424). -/
def setDev (s : State) (d : Dev) (cause : Nat) : State :=
  if s.dev = d then s else
  let prev := s.dev.code
  let s := { s with dev := d, prevDev := BitVec.ofNat 4 prev, cause := BitVec.ofNat 8 cause }
  pushEvent (settle s) 2 (d.code + prev * 16) cause

end Sys2Proof.Machine
end

