-- ==== Sys2Proof/Machine/Access.lean ====
section
/-! DEFINITION. Who may reach what: requests, target codes, access tables, tarn owners, denials (R19, R21, R22, R343,
R383 to R389), and what a fault discards (R405). -/

namespace Sys2Proof.Machine

/-- A request's master, world and level (R19). -/
structure Req where
  master : Nat
  vital  : Bool
  sup    : Bool
deriving DecidableEq, Repr

/-- Bits a request may require (R384). -/
def needR : Nat := 1
def needW : Nat := 2
def needX : Nat := 4
def needB : Nat := 8

/-- Does `g` hold every bit of `need`? -/
def hasBits (g need : Nat) : Bool := g &&& need = need

/-- The access-table entry of a target for a master (R384, R385). -/
def actDefault (m : Nat) : BitVec 16 := if m = 32 then 0xF000#16 else 0#16
def actEntry (s : State) (tcode m : Nat) : BitVec 16 :=
  if m = 33 then 0 else Sparse.get (actDefault m) s.act (tcode * 64 + m)
def putActEntry (s : State) (tcode m : Nat) (v : BitVec 16) : State :=
  if m = 33 then s else { s with act := Sparse.set (actDefault m) s.act (tcode * 64 + m) v }

/-- The master whose table entries decide a request: while a Spare substitutes, its engines use those of the fenced Grove
(R264). -/
def actMaster (s : State) (m : Nat) : Nat :=
  if m < 32 then
    match (List.range 16).find? fun g => rb s (Reg.grvSub + g) 5 && decide (rf s (Reg.grvSub + g) 3 0 = m / 2) with
    | some g => 2 * g + m % 2
    | none => m
  else m

/-- The grant nibble of a request's world and level (R384). -/
def grant (s : State) (tcode : Nat) (q : Req) : Nat :=
  ((actEntry s tcode (actMaster s q.master)).toNat >>> (8 * b2n q.vital + 4 * b2n q.sup)) % 16

/-- The table decides a request. The debug master is not checked against it: its fixed grants hold at the level that its caller
has checked (R483). -/
def granted (s : State) (tcode : Nat) (q : Req) (need : Nat) : Bool := decide (q.master = 46) || hasBits (grant s tcode q) need

/-- Does region `r` match a master-port page (R386)? -/
def regionHas (s : State) (r page : Nat) : Bool :=
  rb s (Reg.actRlim + 2 * r) 31 && decide (rf s (Reg.actRbase + 2 * r) 30 12 ≤ page) &&
  decide (page ≤ rf s (Reg.actRlim + 2 * r) 30 12)

/-- The outer-memory region of an address (R21, R386). -/
def regionOf (s : State) (a : Nat) : Option Nat :=
  if a < 0x80000000 then (List.range 16).find? fun r => regionHas s r (a / 4096) else none

/-- CACHE and VITAL of a region (R321). -/
def regCached (s : State) (r : Nat) : Bool := rb s (Reg.cmxRattr + r) 0
def regVital (s : State) (r : Nat) : Bool := rb s (Reg.cmxRattr + r) 1

/-- Where a D-space address lies (R133). -/
inductive DPlace where
  | outer | tarn (t w : Nat) | pond (off : Nat) | none
deriving DecidableEq, Repr

def placeOf (a : Nat) : DPlace :=
  if a < 0x80000000 then .outer
  else if a < 0x80800000 then .tarn ((a - 0x80000000) / 0x20000) ((a - 0x80000000) % 0x20000 / 4)
  else if 0x90000000 ≤ a ∧ a < 0x90004000 then .pond (a - 0x90000000)
  else .none

/-- The target code of a D-space or master-port address, 0xFF for no target (R383, R389). -/
def tcodeOf (s : State) (a : Nat) : Nat :=
  match placeOf a with
  | .outer => match regionOf s a with | some r => 0x40 + r | none => 0xFF
  | .tarn t _ => t
  | _ => 0xFF

/-- The Application whose Glade runs on an engine's Grove. -/
def engApp (s : State) (e : Nat) : Option Nat := if e < 32 then (grv s (e / 2)).glade.map (·.app) else none

/-- Does the owner of tarn `t` admit master `m` (R343)? -/
def ownerAdmits (s : State) (t m : Nat) : Bool :=
  let o := rf s (Reg.tarnOwn + t) 7 0
  if m = 32 ∨ m = 46 then true
  else if o = 3 then true
  else if o < 2 then false
  else if o = 2 then m = 34
  else if m = 34 then true
  else if o < 0x40 then engApp s m = some (o - 0x20)
  else
    let g := o - 0x40
    decide (m = 2 * g ∨ m = 2 * g + 1) ||
    (rb s (Reg.grvSub + g) 5 && decide (m < 32) && decide (m / 2 = rf s (Reg.grvSub + g) 3 0))

/-- Spaces of ACT_VINFO.SPACE (R386). -/
def spFetch : Nat := 0
def spData : Nat := 1
def spIo : Nat := 2
def spBit : Nat := 3
def spSlave : Nat := 4

def mkDenial (q : Req) (tcode need space : Nat) (owner : Bool) (a : Nat) : Denial :=
  { master := q.master, vital := q.vital, sup := q.sup, tcode := tcode, need := need, space := space, owner := owner,
    addr := BitVec.ofNat 32 a }

/-- A write to T60 outside Boot is denied to every master (R421). -/
def t60Closed (s : State) (t need : Nat) : Bool := decide (t = 60) && hasBits need needW && decide (s.dev ≠ .boot)

/-- Group of a tarn that can be retained: T0 to T59 in fours (R348). -/
def groupOf (t : Nat) : Option Nat := if t < 60 then some (t / 4) else none

/-- The tarn's group is unusable until Reset: requests to it are denied (R449, R510). -/
def tarnDead (s : State) (t : Nat) : Bool :=
  match groupOf t with | some k => s.pwr.dead.getLsbD k | none => false

/-- The tarn answers requests now: its group is neither in retention nor waking (R348). -/
def tarnUp (s : State) (t : Nat) : Bool :=
  match groupOf t with | some k => !(s.pwr.ret.getLsbD k || rb s Reg.tarnRetst (15 + k)) | none => true

/-- A request to a tarn that does not answer is a wake cause for its group, and waits (R348, R510). -/
def askWake (s : State) (t : Nat) : State :=
  match groupOf t with
  | some k => { s with pwr := { s.pwr with wakeReq := s.pwr.wakeReq ||| (1#15 <<< k) } }
  | none => s

/-- The decision on one access to outer memory or a tarn: denied with its log, or granted (R22, R343, R384). -/
def checkMem (s : State) (q : Req) (a need space : Nat) : Option Denial :=
  match placeOf a with
  | .outer =>
    match regionOf s a with
    | none => some (mkDenial q 0xFF need space false a)
    | some r => if granted s (0x40 + r) q need then none else some (mkDenial q (0x40 + r) need space false a)
  | .tarn t _ =>
    if !ownerAdmits s t q.master then some (mkDenial q t need space true a)
    else if t60Closed s t need || tarnDead s t then some (mkDenial q t need space false a)
    else if granted s t q need then none else some (mkDenial q t need space false a)
  | _ => some (mkDenial q 0xFF need space false a)

/-- The word ACT_VINFO shows for a denial (R386). -/
def denialInfo (d : Denial) : Word :=
  BitVec.ofNat 32 (d.master + b2n d.vital * 2 ^ 6 + b2n d.sup * 2 ^ 7 + d.tcode * 2 ^ 8 + d.need * 2 ^ 16
    + d.space * 2 ^ 20 + b2n d.owner * 2 ^ 23 + 2 ^ 31)

/-- A denial is counted, logged if the log is empty, and recorded (R389). -/
def logDenial (s : State) (d : Denial) : State :=
  let s := bump s Reg.actVcnt 15 0 1
  let s := if rb s Reg.actVinfo 31 then s else wr (wr s Reg.actVinfo (denialInfo d)) Reg.actVaddr d.addr
  record s { faultOf 0x09 0 with master := BitVec.ofNat 6 d.master, addr := d.addr, info := denialInfo d }

/-- Log a denial if there is one. -/
def logOpt (s : State) : Option Denial → State
  | none => s
  | some d => logDenial s d

/-! ### Discards (R405, R407) -/

/-- The Groves that run a Glade of an Application stop at their next stop point, without an overrun (R70, R405). -/
def stopGlades (s : State) (a : Nat) : State :=
  (List.range 16).foldl (fun st g =>
    match (grv st g).glade with
    | some r => if r.app = a then putGrv st g { grv st g with trip := some .force } else st
    | none => st) s

/-- The cycle of an Application is discarded: its outlet is not committed, its later stages are skipped, and its running Groves stop
(R405). -/
def discardApp (s : State) (a : Nat) : State :=
  let x := app s a
  if x.active then
    stopGlades (putApp s a { x with active := false, ended := .discarded, discards := x.discards + 1, doneAt := none }) a
  else s

/-- The cycle in progress is discarded, or the next one if none is in progress (R334, R504). -/
def discardNowOrNext (s : State) (a : Nat) : State :=
  if (app s a).active then discardApp s a else putApp s a { app s a with discardNext := true }

/-- Discard for an optional Application. -/
def discardOpt (s : State) : Option Nat → State
  | none => s
  | some a => discardNowOrNext s a

/-- The end of an engine's Glade: it idles, its reservation clears (R138) and its latched regions no longer hold (R204). -/
def idleEngine (s : State) (e : Nat) : State :=
  let x := eng s e
  putEng s e { x with run := .idle, rsv := putBit x.rsv 0 false, xr := [], dueTrap := none, inEntry := false, foldAt := none }

/-- Software jobs of vital channels that the engines in `es` started are abandoned (R380). -/
def abandonSoft (s : State) (es : List Nat) : State :=
  s.vjob.foldl (fun st p =>
    match p.2 with
    | some (.soft m) =>
      if es.contains m then
        sb (sb { st with vjob := Sparse.set none st.vjob p.1 none } (Reg.cvuVstat + 16 * p.1) 4 true)
          (Reg.cvuVstat + 16 * p.1) 0 false
      else st
    | _ => st) s

/-! ### WD_HOLD (R467, R481) -/

/-- Clear every DONE bit. -/
def doneClear (s : State) : State := wf s Reg.wdiStat 31 16 0

/-- Some debug halt is in force or awaited. -/
def anyHalt (s : State) : Bool :=
  decide (s.dev = .halted) || s.devHalt || (List.range 16).any fun g => (grv s g).halted || (grv s g).haltReq || (grv s g).stepping

/-- WD_HOLD follows the halts; as it falls, the resume marker goes out and DONE clears. -/
def holdSettle (s : State) : State :=
  if anyHalt s then sb s Reg.wdiStat 1 true
  else if rb s Reg.wdiStat 1 then { doneClear (sb s Reg.wdiStat 1 false) with wdSet := 0 }
  else s

/-- The Grove leaves its Glade: the Weir stops counting and both engines idle; its final counts stay (R72). One that was stepping
is halted again (R480). -/
def endGlade (s : State) (g : Nat) : State :=
  let s := putGrv s g { grv s g with
    glade := none, counting := false, trip := none, halted := (grv s g).halted || (grv s g).stepping, stepping := false }
  abandonSoft (idleEngine (idleEngine s (2 * g)) (2 * g + 1)) [2 * g, 2 * g + 1]

/-- A Grove stops at an error fatal to its Application: no handler, no fence, and the cycle is discarded (R215). -/
def fatalStop (s : State) (g : Nat) : State :=
  match (grv s g).glade with
  | none => endGlade s g
  | some r => endGlade (discardApp s r.app) g

/-- Ask FLT for Safe Hold with a cause; the first request stands (R27, R408). -/
def askSafeHold (s : State) (cause : Nat) : State :=
  match s.safeReq with
  | some _ => s
  | none => { s with safeReq := some cause }

/-- A fault of the Wellspring or the boundary sequencer: the device is to enter Safe Hold and FLT records WSP_FAULT
(R214, R218, R408). -/
def wspFault (s : State) : State :=
  askSafeHold (record { s with wspStopped := true } { faultOf 0x15 3 with master := 32#6, discard := true }) 0x08

end Sys2Proof.Machine
end

