-- ==== Sys2Proof/Machine/Tarn.lean ====
section
/-! DEFINITION. Tarn accesses: SECDED classes and correction writes (R340 to R342), stores, message-buffer words
(R111, R113), and the clearing of reservations (R138). -/

namespace Sys2Proof.Machine

/-- The stored class of a tarn word (R341). -/
def tarnCls (s : State) (t w : Nat) : TarnErr := Sparse.get .good s.tarnErr (t * 32768 + w)
def putTarnCls (s : State) (t w : Nat) (c : TarnErr) : State :=
  { s with tarnErr := Sparse.set .good s.tarnErr (t * 32768 + w) c }

/-- Queue a correction write; a fifth replaces the oldest (R341). -/
def queueCorr (s : State) (t w : Nat) : State :=
  let q := Sparse.get [] s.corrQ t
  let q := if w ∈ q then q else (if q.length ≥ 4 then q.drop 1 else q) ++ [w]
  { s with corrQ := Sparse.set [] s.corrQ t q }

/-- Drop a queued correction write of a word that has been rewritten (R341). -/
def dropCorr (s : State) (t w : Nat) : State :=
  { s with corrQ := Sparse.set [] s.corrQ t ((Sparse.get [] s.corrQ t).filter (· ≠ w)) }

/-- A corrected read: counted, and a correction write is queued (R341). -/
def noteCorrected (s : State) (t w : Nat) : State := queueCorr (bump s Reg.tarnCecnt 15 0 1) t w

/-- KIND of TARN_UELOG (R350). -/
def ueKind : TarnErr → Nat
  | .wrongAddr => 2
  | _ => 1

/-- An uncorrectable read is flagged, logged and counted, and FLT records TARN_UE (R342). `m` is the reader's master ID,
33 the scrubber; `a`, `g` the Application and Grove concerned, `disc` whether a cycle is discarded. -/
def logUe (s : State) (t w m : Nat) (c : TarnErr) (a g : Nat) (disc : Bool) : State :=
  let s := sb s Reg.tarnStat 2 true
  let s := wr s Reg.tarnUelog (BitVec.ofNat 32 (t + w * 2 ^ 6 + ueKind c * 2 ^ 21 + m * 2 ^ 23 + 2 ^ 31))
  let s := bump s Reg.tarnUecnt 15 0 1
  record s { faultOf 0x06 (b2n disc) with master := BitVec.ofNat 6 m, app := BitVec.ofNat 5 a,
                                          grove := BitVec.ofNat 4 g, discard := disc,
                                          addr := BitVec.ofNat 32 (tarnAddr t w) }

/-- Application, Grove and discard flag that a record of an error found by master `m` carries (R342, R404). -/
def recApp (s : State) (m : Nat) : Nat := (engApp s m).getD 0
def recGrv (m : Nat) : Nat := if m < 32 then m / 2 else 0
def recDisc (s : State) (m : Nat) : Bool := (engApp s m).isSome

/-- A word read of a tarn by master `m`: the data, corrected if need be, or none for an uncorrectable word, which has been
logged (R341, R342). The outcome that belongs to the reader is the caller's. -/
def readTarn (s : State) (t w m : Nat) : State × Option Word :=
  match tarnCls s t w with
  | .good => (s, some (tarnRaw s t w))
  | .single => (noteCorrected s t w, some (tarnRaw s t w))
  | c => (logUe s t w m c (recApp s m) (recGrv m) (recDisc s m), none)

/-- Store new contents with good check bits; any error and any queued correction of the word ends (R341). -/
def storeTarn (s : State) (t w : Nat) (v : Word) : State := dropCorr (putTarnCls (putTarnRaw s t w v) t w .good) t w

/-- The message-buffer word of an enabled port that a tarn word is, if any: its index within the buffer (R111, R118). -/
def bufIndex (s : State) (t w : Nat) : Option Nat :=
  (List.range 16).findSome? fun p =>
    let b := rd s (Reg.attBuf + p)
    if rb s (Reg.attPcfg + p) 0 && decide (fld b 5 0 = t ∧ fld b 20 6 ≤ w ∧ w < fld b 20 6 + 20 * (fld b 26 21 + 1)) then
      some ((w - fld b 20 6) % 20) else none

/-- What a write of `v` leaves in word 0 of a message buffer holding `old`: NEWD and OVW are cleared by ones, only if SEQ
agrees (R113). -/
def bufClear (old v : Word) : Word :=
  if fld v 15 8 = fld old 15 8 then
    putBit (putBit old 0 (bit old 0 && !bit v 0)) 1 (bit old 1 && !bit v 1)
  else old

/-- Clear the reservation of every engine but `m` that holds one in the 64-byte block of address `a` (R138). In Lockstep
the checker's reservation is the leader's (R256). -/
def clearRsv (s : State) (m a : Nat) : State :=
  s.engs.foldl (fun st p =>
    let x := p.2
    if bit x.rsv 0 && decide (x.rsv.toNat / 64 = a / 64) && decide (p.1 ≠ m) &&
       !(decide (p.1 = m + 1) && decide (m % 2 = 0) && decide (m < 32) && isLockstep s (m / 2)) then
      putEng st p.1 { x with rsv := putBit x.rsv 0 false }
    else st) s

/-- A write of a tarn word by a master other than the attach engine: bits of `mask` take `v`. A partial write is a
read-modify-write of the merged word (R340) and is not performed on an uncorrectable word (R341). Message-buffer words follow
R111 and R113. -/
def writeTarn (s : State) (t w m : Nat) (mask v : Word) : State × Option Unit :=
  match bufIndex s t w with
  | some 0 =>
    if mask = BitVec.allOnes 32 then
      (clearRsv (storeTarn s t w (bufClear (tarnRaw s t w) v)) m (tarnAddr t w), some ())
    else
      match readTarn s t w m with
      | (s, none) => (s, none)
      | (s, some old) =>
        (clearRsv (storeTarn s t w (bufClear old ((old &&& ~~~ mask) ||| (v &&& mask)))) m (tarnAddr t w), some ())
  | some _ => (s, some ())
  | none =>
    if mask = BitVec.allOnes 32 then (clearRsv (storeTarn s t w v) m (tarnAddr t w), some ())
    else
      match readTarn s t w m with
      | (s, none) => (s, none)
      | (s, some old) =>
        (clearRsv (storeTarn s t w ((old &&& ~~~ mask) ||| (v &&& mask))) m (tarnAddr t w), some ())

/-- A whole-word write whose outcome needs no check (a full word never reads). -/
def writeTarnW (s : State) (t w m : Nat) (v : Word) : State := (writeTarn s t w m (BitVec.allOnes 32) v).1

end Sys2Proof.Machine
end

