-- ==== Sys2Proof/Machine/Cache.lean ====
section
/-! DEFINITION. The Weir's counts (R68, R69), the L1 caches, victim caches and the Lake with their seeded replacement,
and outer-memory accesses through them (R321 to R334, R339). -/

namespace Sys2Proof.Machine

/-! ### Weir counts -/

/-- Add cycles and beats to the Weir of a requesting engine's Grove while it counts; a halted Grove's counts are frozen
(R73). The Wellspring and other masters have no Weir. -/
def charge (s : State) (e cyc beats : Nat) : State :=
  if e < 32 then
    let g := e / 2
    let x := grv s g
    if x.counting && !x.halted then
      putGrv s g (if e % 2 = 0 then { x with cycL := x.cycL + cyc, beatsL := x.beatsL + beats }
                  else { x with cycC := x.cycC + cyc, beatsC := x.beatsC + beats })
    else s
  else s

/-- Charge a wait that the manual leaves open (log 3). -/
def chargeWait (s : State) (e : Nat) : State :=
  let (n, s) := freeWait s
  charge s e n 0

/-- The Weir's counts (R69, R72): the leader's in Lockstep mode, otherwise the larger of the two engines'. -/
def weirCyc (s : State) (g : Nat) : Nat :=
  let x := grv s g
  if isLockstep s g then x.cycL else max x.cycL x.cycC
def weirBeats (s : State) (g : Nat) : Nat :=
  let x := grv s g
  if isLockstep s g then x.beatsL else max x.beatsL x.beatsC

/-- The budget a Grove's counts have passed, if any: cycle budget before beat budget (R70, R71). -/
def weirOver (s : State) (g : Nat) : Option TripCause :=
  match (grv s g).glade with
  | none => none
  | some r =>
    if weirCyc s g > r.cycBud then some .cycles
    else if weirBeats s g > r.beatBud then some .beats
    else none

/-- A Grove is tripped from the cycle in which a count passes its budget (R70), or on a recorded trip. -/
def tripped (s : State) (g : Nat) : Bool := (grv s g).trip.isSome || (weirOver s g).isSome

/-! ### Replacement (R331) -/

/-- One step of the LFSR of polynomial x^16 + x^14 + x^13 + x^11 + 1. -/
def lfsrStep (s : BitVec 16) : BitVec 16 :=
  let b := (s.getLsbD 15 ^^ s.getLsbD 13) ^^ (s.getLsbD 12 ^^ s.getLsbD 10)
  (s <<< 1) ||| (if b then 1 else 0)

/-- An LFSR load: 0x0000 is loaded as 0x0001 (R66). -/
def lfsrLoad (v : BitVec 16) : BitVec 16 := if v = 0 then 1 else v

/-- The victim among eligible ways (ascending), and the LFSR after the decision. -/
def pickWay (eligible : List Nat) (valid : Nat → Bool) (s : BitVec 16) : Nat × BitVec 16 :=
  match eligible.find? fun w => !valid w with
  | some w => (w, s)
  | none =>
    let s := lfsrStep s
    (eligible.getD (s.toNat % 16 % eligible.length) 0, s)

/-! ### CMX interplay (R339) -/

/-- Which caches a CMX command names: bit 4 the Lake, 5 L1 D, 6 L1 I (R335). -/
def cmxNames (c : CmxOp) (target : Nat) (g : Nat) : Bool :=
  bit c.cmd target && (decide (target = 4) || bit c.cmd (8 + g))

/-- The walk of the running operation has passed this line of this cache. -/
def cmxPassed (s : State) (target g line : Nat) : Option CmxOp :=
  match s.cmx with
  | none => none
  | some c =>
    if cmxNames c target g && (bit c.cmd 7 || decide (c.first ≤ line ∧ line ≤ c.last)) && decide (line < c.next) then some c
    else none

/-- A fill of a line the walk has passed is not allocated, for invalidate and clean-and-invalidate. -/
def mayAlloc (s : State) (target g line : Nat) : Bool :=
  match cmxPassed s target g line with
  | some c => !(decide (c.op = 1 ∨ c.op = 3))
  | none => true

/-- A store that would dirty a line a clean has passed writes through instead. -/
def mustWriteThrough (s : State) (target g line : Nat) : Bool :=
  match cmxPassed s target g line with
  | some c => decide (c.op = 2)
  | none => false

/-! ### NCH-M writes (R503, R504) -/

/-- The lowest write ID not outstanding. -/
def freeWriteId (s : State) : Option Nat :=
  ((List.range 64).map (· + 0x80)).find? fun i => !(s.nchm.any fun t => t.id = i)

/-- The lowest read ID not outstanding. -/
def freeReadId (s : State) : Option Nat := (List.range 128).find? fun i => !(s.nchm.any fun t => t.id = i)

/-- A write issued on NCH-M: it is outstanding until its acknowledge. With all 64 IDs in use the requester stalls, which is
time only: the write is then held to have gone out under a freed ID. -/
def nchWriteAt (s : State) (m addr len : Nat) (a : Option Nat) : State :=
  match freeWriteId s with
  | some i => { s with nchm := s.nchm ++ [⟨i, addr / 64, m, .write a addr len, false, none⟩] }
  | none => s

/-- A whole line written on NCH-M. -/
def nchWrite (s : State) (m line : Nat) (a : Option Nat) : State := nchWriteAt s m (line * 64) 64 a

/-- Bytes stored to outer memory on NCH-M by master `m` for Application `a`. -/
def outerStore (s : State) (m : Nat) (a : Option Nat) (addr : Nat) (bs : List Byte) : State :=
  nchWriteAt (putBytes s addr bs) m addr bs.length a

/-! ### Dirty lines lost (R333, R334) -/

/-- A dirty line is lost: recorded, and the Application it records loses its cycle. `f` is the engine whose access found
it. -/
def dirtyLost (s : State) (ln : CLine) (f : Option Nat) : State :=
  let r := { faultOf 0x05 1 with app := BitVec.ofNat 5 (ln.app.getD 0), addr := BitVec.ofNat 32 (ln.tag * 64),
                                 discard := ln.app.isSome || f.isSome }
  let r := match f with
    | some e => { r with master := BitVec.ofNat 6 e, grove := BitVec.ofNat 4 (recGrv e) }
    | none => r
  discardOpt (record s r) ln.app

/-- The engine, if any, whose access this is. -/
def finder (m : Nat) : Option Nat := if m < 32 then some m else none

/-! ### The Lake (R329 to R332) -/

/-- The Lake LFSR that a fill by master `m` uses: LFSR g for an engine of Gg, LFSR 16 for any other (R332). -/
def lakeLfsr (s : State) (m : Nat) : BitVec 16 := if m < 32 then (grv s (m / 2)).lfsrLake else s.lfsr16
def putLakeLfsr (s : State) (m : Nat) (v : BitVec 16) : State :=
  if m < 32 then putGrv s (m / 2) { grv s (m / 2) with lfsrLake := v } else { s with lfsr16 := v }

def lakeSlot (s : State) (set way : Nat) : Option CLine := Sparse.get none s.lake (set * 16 + way)
def putLake (s : State) (set way : Nat) (l : Option CLine) : State :=
  { s with lake := Sparse.set none s.lake (set * 16 + way) l }

/-- The way of the Lake that holds a line. -/
def lakeWay (s : State) (line : Nat) : Option (Nat × CLine) :=
  (List.range 16).findSome? fun w =>
    match lakeSlot s (line % 4096) w with
    | some l => if l.tag = line then some (w, l) else none
    | none => none

/-- Locked lines of a set. -/
def lockedIn (s : State) (set : Nat) : Nat :=
  ((List.range 16).filter fun w => match lakeSlot s set w with | some l => l.locked | none => false).length

/-- A line leaves the Lake: a dirty one is written back on NCH-M, one with bad parity is invalidated or lost (R333). -/
def lakeDrop (s : State) (m set way : Nat) : State :=
  match lakeSlot s set way with
  | none => s
  | some l =>
    let s := putLake s set way none
    let s := if l.locked then wf s Reg.cmxLkcnt 15 0 (rf s Reg.cmxLkcnt 15 0 - 1) else s
    if l.bad then (if l.dirty then dirtyLost s l (finder m) else bump s Reg.cmxPerr 31 16 1)
    else if l.dirty then nchWrite (putLine s l.tag l.data) m l.tag l.app
    else s

/-- Install a line in the Lake under R331; a set whose ways are all locked takes no line. -/
def lakeInstall (s : State) (m : Nat) (l : CLine) : State :=
  let set := l.tag % 4096
  let elig := (List.range 16).filter fun w => match lakeSlot s set w with | some x => !x.locked | none => true
  let (w, r) := pickWay elig (fun w => (lakeSlot s set w).isSome) (lakeLfsr s m)
  let s := putLakeLfsr s m r
  putLake (lakeDrop s m set w) set w (some l)

/-- How an outer-memory read can fail: an ERR on NCH-M, or a dirty line lost on the way (already recorded). -/
inductive LineErr where
  | nchErr | lost
deriving DecidableEq, Repr

/-- A line read from the outer memory itself. -/
def nchLine (s : State) (line : Nat) : Option Line := if line ∈ s.outerErr then none else some (lineAt s line)

/-- A line read through the Lake by master `m` (R329, R333), charging engine `m` for the miss (R160): the data, or how it
failed. -/
def lakeRead (s : State) (m line : Nat) : State × Except LineErr Line :=
  let fill (s : State) : State × Except LineErr Line :=
    let s := chargeWait s m
    match nchLine s line with
    | none => (s, .error .nchErr)
    | some d =>
      (if mayAlloc s 4 0 line then lakeInstall s m ⟨line, d, false, none, false, false⟩ else s, .ok d)
  match lakeWay s line with
  | none => fill s
  | some (w, l) =>
    if l.bad then
      if l.dirty then (lakeDrop s m (line % 4096) w, .error .lost) else fill (lakeDrop s m (line % 4096) w)
    else (s, .ok l.data)

/-- Bytes merged into a line. -/
def mergeBytes (d : Line) (off : Nat) : List Byte → Line
  | [] => d
  | b :: r => mergeBytes (putLineByte d off b) (off + 1) r

/-- Update a Lake copy of stored bytes, where there is one, without making it dirty (write-through, R322). -/
def lakeUpdate (s : State) (m addr : Nat) (bs : List Byte) : State :=
  match lakeWay s (addr / 64) with
  | none => s
  | some (w, l) =>
    if l.bad then lakeDrop s m (addr / 64 % 4096) w
    else putLake s (addr / 64 % 4096) w (some { l with data := mergeBytes l.data (addr % 64) bs })

/-- A dirty L1 line written back to the Lake (R325): write-back and write-allocate, or through to NCH-M where the region is
not a cached Auxiliary one now, or where a clean has passed the line. -/
def lakeWriteBack (s : State) (m : Nat) (l : CLine) : State :=
  let wb := match regionOf s (l.tag * 64) with | some r => regCached s r && !regVital s r | none => false
  if wb && !mustWriteThrough s 4 0 l.tag && mayAlloc s 4 0 l.tag then
    match lakeWay s l.tag with
    | some (w, x) => putLake s (l.tag % 4096) w (some { x with data := l.data, dirty := true, app := l.app, bad := false })
    | none => lakeInstall s m { l with dirty := true, bad := false, locked := false }
  else nchWrite (lakeUpdate (putLine s l.tag l.data) m (l.tag * 64) (lineBytes l.data)) m l.tag l.app

/-! ### L1 caches (R324, R325) -/

/-- Ways converted to Pond: I-cache and D-cache (R327). -/
def iWays (s : State) (g : Nat) : Nat := rf s (Reg.cmxPond + g) 1 0
def dWays (s : State) (g : Nat) : Nat := rf s (Reg.cmxPond + g) 3 2

def l1Slot (m : Sparse (Option CLine)) (set way : Nat) : Option CLine := Sparse.get none m (way * 128 + set)
def putL1 (m : Sparse (Option CLine)) (set way : Nat) (l : Option CLine) : Sparse (Option CLine) :=
  Sparse.set none m (way * 128 + set) l

/-- The way of an L1 that holds a line. -/
def l1Way (m : Sparse (Option CLine)) (ways line : Nat) : Option (Nat × CLine) :=
  (List.range ways).findSome? fun w =>
    match l1Slot m (line % 128) w with
    | some l => if l.tag = line then some (w, l) else none
    | none => none

/-- A line enters the victim cache, first in first out; the line pushed out is written back if dirty (R325), which counts
4 beats (R69), and one with bad parity is dropped or lost (R333). -/
def victimPush (s : State) (e : Nat) (l : CLine) : State :=
  let g := e / 2
  let v := (grv s g).victim ++ [l]
  match v with
  | o :: r =>
    if v.length > 8 then
      let s := putGrv s g { grv s g with victim := r }
      if o.bad then (if o.dirty then dirtyLost s o (finder e) else bump s Reg.cmxPerr 15 0 1)
      else if o.dirty then lakeWriteBack (charge s e 0 4) e o else s
    else putGrv s g { grv s g with victim := v }
  | [] => s

/-- Put a line into the D-cache by replacement; the line it evicts enters the victim cache. -/
def l1dInstall (s : State) (e : Nat) (l : CLine) : State :=
  let g := e / 2
  let x := grv s g
  let set := l.tag % 128
  let (w, r) := pickWay (List.range (4 - dWays s g)) (fun w => (l1Slot x.l1d set w).isSome) x.lfsrD
  let old := l1Slot x.l1d set w
  let s := putGrv s g { x with l1d := putL1 x.l1d set w (some l), lfsrD := r }
  match old with
  | some o => victimPush s e o
  | none => s

/-- Replace a line already held in the D-cache. -/
def l1dPut (s : State) (g : Nat) (way : Nat) (l : CLine) : State :=
  putGrv s g { grv s g with l1d := putL1 (grv s g).l1d (l.tag % 128) way (some l) }

/-- The D-cache line an engine's access finds, after the victim-cache swap of R325 and the parity rules of R333:
the way and line on a hit, nothing on a miss, or a dirty line lost. -/
def l1dLookup (s : State) (e line : Nat) : State × Except LineErr (Option (Nat × CLine)) :=
  let g := e / 2
  let x := grv s g
  match l1Way x.l1d (4 - dWays s g) line with
  | some (w, l) =>
    if l.bad then
      let s := putGrv s g { x with l1d := putL1 x.l1d (line % 128) w none }
      if l.dirty then (dirtyLost s l (finder e), .error .lost) else (bump s Reg.cmxPerr 15 0 1, .ok none)
    else (s, .ok (some (w, l)))
  | none =>
    match x.victim.find? (·.tag = line) with
    | some l =>
      let s := putGrv s g { x with victim := x.victim.filter (·.tag ≠ line) }
      if l.bad then (if l.dirty then (dirtyLost s l (finder e), .error .lost) else (bump s Reg.cmxPerr 15 0 1, .ok none))
      else
        let s := l1dInstall (charge s e 2 0) e l
        (s, .ok (l1Way (grv s g).l1d (4 - dWays s g) line))
    | none => (s, .ok none)

/-- Fill a D-cache line for an engine: from the Lake, 14 cycles and 4 beats (R69, R160). -/
def l1dFill (s : State) (e line : Nat) : State × Except LineErr (Option (Nat × CLine) × Line) :=
  let (s, r) := lakeRead (charge s e 14 4) e line
  match r with
  | .error x => (s, .error x)
  | .ok d =>
    if mayAlloc s 5 (e / 2) line then
      let s := l1dInstall s e ⟨line, d, false, none, false, false⟩
      (s, .ok (l1Way (grv s (e / 2)).l1d (4 - dWays s (e / 2)) line, d))
    else (s, .ok (none, d))

/-- Bytes of outer memory read by a Grove engine in region `r` (all within one line). -/
def outerRead (s : State) (e r addr n : Nat) : State × Except LineErr (List Byte) :=
  let line := addr / 64
  let cut (d : Line) : List Byte := (List.range n).map fun i => lineByte d (addr % 64 + i)
  if e < 32 && regCached s r then
    match l1dLookup s e line with
    | (s, .error x) => (s, .error x)
    | (s, .ok (some (_, l))) => (s, .ok (cut l.data))
    | (s, .ok none) =>
      match l1dFill s e line with
      | (s, .error x) => (s, .error x)
      | (s, .ok (_, d)) => (s, .ok (cut d))
  else if regCached s r then
    match lakeRead (charge s e 14 0) e line with
    | (s, .error x) => (s, .error x)
    | (s, .ok d) => (s, .ok (cut d))
  else
    match nchLine s line with
    | none => (chargeWait (charge s e 14 1) e, .error .nchErr)
    | some d => (chargeWait (charge s e 14 1) e, .ok (cut d))

/-- Bytes of outer memory written by an engine in region `r` (all within one line), under the policies of R322. -/
def outerWrite (s : State) (e r addr : Nat) (bs : List Byte) : State × Except LineErr Unit :=
  let line := addr / 64
  let g := e / 2
  let a := engApp s e
  if !regCached s r then (outerStore (charge s e 0 1) e a addr bs, .ok ())
  else if e ≥ 32 then (outerStore (lakeUpdate s e addr bs) e a addr bs, .ok ())
  else
    match l1dLookup s e line with
    | (s, .error x) => (s, .error x)
    | (s, .ok hit) =>
      if regVital s r || mustWriteThrough s 5 g line then
        let s := match hit with
          | some (w, l) => l1dPut s g w { l with data := mergeBytes l.data (addr % 64) bs }
          | none => s
        (outerStore (lakeUpdate (charge s e 0 1) e addr bs) e a addr bs, .ok ())
      else
        match hit with
        | some (w, l) => (l1dPut s g w { l with data := mergeBytes l.data (addr % 64) bs, dirty := true, app := a }, .ok ())
        | none =>
          match l1dFill s e line with
          | (s, .error x) => (s, .error x)
          | (s, .ok (some (w, l), _)) =>
            (l1dPut s g w { l with data := mergeBytes l.data (addr % 64) bs, dirty := true, app := a }, .ok ())
          | (s, .ok (none, _)) => (outerStore (lakeUpdate (charge s e 0 1) e addr bs) e a addr bs, .ok ())

/-- The I-cache side of a fetch of bytes in one line by a Grove engine (R322, R324): fills on a miss. -/
def l1iFetch (s : State) (e line : Nat) : State × Except LineErr Line :=
  let g := e / 2
  let x := grv s g
  let fill (s : State) : State × Except LineErr Line :=
    match lakeRead (charge s e 14 4) e line with
    | (s, .error err) => (s, .error err)
    | (s, .ok d) =>
      if mayAlloc s 6 g line then
        let x := grv s g
        let set := line % 128
        let (w, r) := pickWay (List.range (4 - iWays s g)) (fun w => (l1Slot x.l1i set w).isSome) x.lfsrI
        let s := match l1Slot x.l1i set w with
          | some o => if o.bad then bump s Reg.cmxPerr 15 0 1 else s
          | none => s
        (putGrv s g { grv s g with l1i := putL1 x.l1i set w (some ⟨line, d, false, none, false, false⟩), lfsrI := r }, .ok d)
      else (s, .ok d)
  match l1Way x.l1i (4 - iWays s g) line with
  | some (w, l) =>
    if l.bad then fill (bump (putGrv s g { x with l1i := putL1 x.l1i (line % 128) w none }) Reg.cmxPerr 15 0 1)
    else (s, .ok l.data)
  | none => fill s

/-- Clean and invalidate a Grove's whole L1 and victim cache (R326): every dirty line goes back to the Lake. -/
def l1Clean (s : State) (g m : Nat) : State :=
  let x := grv s g
  let ls := x.victim ++ x.l1d.filterMap (·.2)
  let s := putGrv s g { x with l1d := [], l1i := [], victim := [] }
  ls.foldl (fun st l =>
    if l.bad then (if l.dirty then dirtyLost st l none else bump st Reg.cmxPerr 15 0 1)
    else if l.dirty then lakeWriteBack st m l else st) s

end Sys2Proof.Machine
end

