-- ==== Sys2Proof/Machine/EngMon.lean ====
section
/-! DEFINITION. How one instruction runs: a state transformer that may stop with a fault, a fatal error, a halt or a
wait (R147, R215, R476); engine registers, debug comparators (R485) and the levels of the debug port (R472, R473). -/

namespace Sys2Proof.Machine

/-- Why an instruction did not complete. A fault carries its vector (R190), the denial behind it, and the debug registers
as the comparators left them; a fatal error and a wait carry the state they leave. -/
inductive Stop where
  /-- A fault of R190: nothing of the instruction is kept. -/
  | fault (vec : Nat) (d : Option Denial) (dbg : Sparse Word)
  /-- An error fatal to the running Application, already recorded (R215). -/
  | fatal (s : State)
  /-- A comparator halts the Grove before the instruction (R485). -/
  | halt (dbg : Sparse Word)
  /-- The access waits: a tarn group must wake first (R348). -/
  | wait (s : State)

/-- One instruction's work. -/
abbrev EM (α : Type) := StateT State (Except Stop) α

/-- Raise a fault. -/
def raise {α : Type} (vec : Nat) (d : Option Denial := none) : EM α := fun s => .error (.fault vec d s.dbg)

/-- Stop at an error fatal to the running Application. -/
def fatal {α : Type} : EM α := fun s => .error (.fatal s)

/-- Vectors of R190. -/
def vFetch : Nat := 0
def vIllegal : Nat := 1
def vPriv : Nat := 2
def vRetPriv : Nat := 3
def vStack : Nat := 4
def vAlign : Nat := 5
def vData : Nat := 6
def vOvf : Nat := 7
def vDiv : Nat := 8
def vBcd : Nat := 9
def vGate : Nat := 10
def vDebug : Nat := 11
def vIrq : Nat := 12

/-- The engine's registers, read and changed. -/
def getE (e : Nat) : EM Engine := fun s => .ok (eng s e, s)
def modE (e : Nat) (f : Engine → Engine) : EM Unit := fun s => .ok ((), putEng s e (f (eng s e)))
def modS (f : State → State) : EM Unit := fun s => .ok ((), f s)

/-- STAT fields (R120). -/
def stC : Nat := 0
def stV : Nat := 1
def stZ : Nat := 2
def stN : Nat := 3
def stDC : Nat := 4
def stDZ : Nat := 5
def stBF : Nat := 6
def stVS : Nat := 7
def stIE : Nat := 8
def stS : Nat := 9
def stW : Nat := 10
def stRPA : Nat := 11

/-- World and level presented by an engine (R19): the Wellspring is Vital, Supervisor. -/
def engVital (s : State) (e : Nat) : Bool := decide (e ≥ 32) || bit (eng s e).stat stW
def engSup (s : State) (e : Nat) : Bool := decide (e ≥ 32) || bit (eng s e).stat stS
def engReq (s : State) (e : Nat) : Req := { master := if e ≥ 32 then 32 else e, vital := engVital s e, sup := engSup s e }

/-! ### Debug level and comparators (R472, R473, R476, R485) -/

/-- DBGLVL_BOOT and DBGLVL_SVC (R513); code 0b11 is 0b10 (R472). -/
def lvlCap (n : Nat) : Nat := if n ≥ 2 then 2 else n
def fuseWord (s : State) (i : Nat) : Word := Sparse.get 0#32 s.fuse i
def dbgLvlBoot (s : State) : Nat := lvlCap (fld (fuseWord s 0x10B) 1 0)
def dbgLvlSvc (s : State) : Nat := lvlCap (fld (fuseWord s 0x10B) 3 2)

/-- The debug level in force (R473). -/
def dbgLevel (s : State) : Nat :=
  if s.dev = .reset ∨ s.dev = .boot ∨ (s.dev = .safeHold ∧ s.cause = 0x03) then max (dbgLvlBoot s) s.dbgSt.granted
  else s.dbgSt.granted

/-- May the debugger halt Grove `g` (R476)? -/
def haltAllowed (s : State) (g : Nat) : Bool :=
  decide (dbgLevel s = 2) && !grvFenced s g &&
  (if grvVital s g then decide (s.dev = .maintenance) else decide (s.dev ≠ .halted))

/-- The comparators of an engine that are armed for one of `kinds` and match an address, as their ACT bits (R485). In
Lockstep the leader's comparators decide. -/
def cmpHits (s : State) (e : Nat) (kinds : List Nat) (a : Nat) : List Bool :=
  if e ≥ 32 then [] else
  (List.range 8).filterMap fun c =>
    let w := rd s (Reg.dbgvCmpc + 16 * e + 2 * c)
    let ign := fld w 8 4
    if bit w 0 && kinds.contains (fld w 2 1) && decide (a >>> ign = (rd s (Reg.dbgvCmpa + 16 * e + 2 * c)).toNat >>> ign)
    then some (bit w 3) else none

/-- Apply comparator matches before the instruction has any effect: Debug Event, halt, or HREF where R476 forbids it. -/
def applyHits (e : Nat) (hits : List Bool) : EM Unit := fun s =>
  if hits.contains true then .error (.fault vDebug none s.dbg)
  else if hits.contains false then
    if haltAllowed s (e / 2) then .error (.halt s.dbg)
    else .ok ((), dbgWr s 0 (putBit (dbgRd s 0) 8 true))
  else .ok ((), s)

/-- The outcome of an outer-memory access that failed: for a Grove engine fatal (R342, R504), an NCH-M error making the
APP_FATAL record; for the Wellspring, Data Access. -/
def outerFail {α : Type} (e a : Nat) (x : LineErr) : EM α := fun s =>
  if e ≥ 32 then .error (.fault vData none s.dbg)
  else
    match x with
    | .lost => .error (.fatal s)
    | .nchErr => .error (.fatal (record s { faultOf 0x04 1 with
        master := BitVec.ofNat 6 e, app := BitVec.ofNat 5 (recApp s e), grove := BitVec.ofNat 4 (e / 2), discard := true,
        addr := BitVec.ofNat 32 a }))

/-- The outcome of an uncorrectable tarn read, already recorded (R342). -/
def tarnFail {α : Type} (e t : Nat) : EM α := fun s =>
  if e ≥ 32 then
    if t = 60 then .error (.fatal (wspFault s)) else .error (.fault vData none s.dbg)
  else .error (.fatal s)

/-- Lift an operation on the state that may fail. -/
def liftOuter {α : Type} (e a : Nat) (f : State → State × Except LineErr α) : EM α := fun s =>
  match f s with
  | (s, .ok v) => .ok (v, s)
  | (s, .error x) => outerFail e a x s

/-- Wait for a tarn that does not answer yet: its group is asked to wake (R348). -/
def needTarn (t : Nat) : EM Unit := fun s => if tarnUp s t then .ok ((), s) else .error (.wait (askWake s t))

/-! ### Ponds (R133, R328, R333) -/

/-- The physical byte offset of a Pond address for an engine, if it exists: each way is 8 KiB; in Diverse and Split modes the
leader has the lower half and the checker the upper half at the same base (R133). -/
def pondOff (s : State) (e ways off : Nat) : Option Nat :=
  if e ≥ 32 then none else
  let size := ways * 0x2000
  if isLockstep s (e / 2) then (if off < size then some off else none)
  else if off < size / 2 then some (if e % 2 = 0 then off else size / 2 + off) else none

/-- A Pond word's parity is bad: key word offset, 0x4000 more for the D-Pond. -/
def pondIsBad (s : State) (g key : Nat) : Bool := (grv s g).pondBad.contains (key / 4 * 4)

/-- A Pond parity error is fatal to the running Application (R333). -/
def pondFatal {α : Type} (e a : Nat) : EM α := fun s =>
  .error (.fatal (record s { faultOf 0x04 1 with
    master := BitVec.ofNat 6 e, app := BitVec.ofNat 5 (recApp s e), grove := BitVec.ofNat 4 (e / 2), discard := true,
    addr := BitVec.ofNat 32 a }))

end Sys2Proof.Machine
end

