-- ==== Sys2Proof/Machine/Icu.lean ====
section
/-! DEFINITION. The interrupt controller: who serves a source, lines, wakes and doorbells (R351 to R370). -/

namespace Sys2Proof.Machine

def srcWord (s : State) (n : Nat) : Word := rd s (Reg.icuSrc + n)
def srcPrio (s : State) (n : Nat) : Nat := fld (srcWord s n) 7 0
def srcTarget (s : State) (n : Nat) : Nat := fld (srcWord s n) 13 8
def srcWake (s : State) (n : Nat) : Bool := bit (srcWord s n) 14
def srcVital (s : State) (n : Nat) : Bool := bit (srcWord s n) 15
def srcPend (s : State) (n : Nat) : Bool := rb s (Reg.icuPend + n / 32) (n % 32)
def srcEn (s : State) (n : Nat) : Bool := rb s (Reg.icuEn + n / 32) (n % 32)

/-- Is Grove `g` replaced by a substitute, and by which (R263, R264)? -/
def substituteOf (s : State) (g : Nat) : Option Nat :=
  if rb s (Reg.grvSub + g) 5 then some (rf s (Reg.grvSub + g) 3 0) else none

/-- The engine that a source is served to (R359); 32 is the Wellspring. -/
def served (s : State) (n : Nat) : Option Nat :=
  let t := srcTarget s n
  if t = 32 then some 32
  else if t > 32 then none
  else
    let g := t / 2
    if srcVital s n ≠ grvVital s g then none
    else
      let h := (substituteOf s g).getD g
      let e := if isLockstep s h then 2 * h else 2 * h + t % 2
      if engFenced s e then none else some e

/-- Sources that are pending and enabled for an engine. -/
def waitingFor (s : State) (e : Nat) : List Nat :=
  (List.range 256).filter fun n => srcPend s n && srcEn s n && decide (served s n = some e)

/-- The line and level of an engine (R361): the level and source presented, if any. Hold-offs of groups that run exclude
their sources. -/
def bestSource (s : State) : List Nat → Option (Nat × Nat)
  | [] => none
  | n :: r =>
    match bestSource s r with
    | none => some (srcPrio s n, n)
    | some (p, k) => if srcPrio s n ≥ p then some (srcPrio s n, n) else some (p, k)
def icuLine (s : State) (e : Nat) : Option (Nat × Nat) :=
  let cand := (waitingFor s e).filter fun n => srcPrio s n ≠ 0 && !s.holdRun.getLsbD (n / 8)
  match bestSource s cand with
  | none => none
  | some (p, n) =>
    let sub := rf s Reg.icuPrigrp 2 0
    if p >>> sub > fld (eng s e).stat 23 16 >>> sub then some (p, n) else none

/-- A wake source of an engine is pending and enabled (R368). -/
def wakeFor (s : State) (e : Nat) : Bool := (waitingFor s e).any fun n => srcWake s n

/-- Engines that can be served. -/
def servedEngines : List Nat := List.range 33

/-- PD_GROVEg is not powered or not out of isolation (R511). -/
def gated (s : State) (g : Nat) : Bool := !rb s Reg.pwrGstat g

/-- An engine leaves WAIT (R166); the checker of a Lockstep Grove with it (R256). -/
def leaveWait (s : State) (e : Nat) : State :=
  let s := putEng s e { eng s e with run := .running }
  if e < 32 && e % 2 = 0 && isLockstep s (e / 2) then putEng s (e + 1) { eng s (e + 1) with run := .running } else s

/-- Consequences of a change at the ICU for sleeping targets (R368): a line or a wake ends a WAIT; a wake that was not
there before is recorded for a gated target and asks PWR for power. `old` is the state before the change. A halted Grove
accepts nothing (R478). -/
def icuSettleAt (old s : State) (e : Nat) : State :=
  if e < 32 && gated s (e / 2) then
    if wakeFor s e && !(wakeFor old e && gated old (e / 2)) then
      { sb s Reg.icuWakep e true with pwr := { s.pwr with upReq := s.pwr.upReq ||| (1#16 <<< (e / 2)) } }
    else s
  else if (eng s e).run = .waiting && !(decide (e < 32) && (grv s (e / 2)).halted) && (wakeFor s e || (icuLine s e).isSome) then
    leaveWait s e
  else s
def icuSettle (old s : State) : State := servedEngines.foldl (icuSettleAt old) s

/-- Ring a doorbell from a block inside the complex, which presents the Vital world (R351, R352). -/
def ringSource (s : State) (n : Nat) : State := icuSettle s (sb s (Reg.icuPend + n / 32) (n % 32) true)

/-- A doorbell write of a master's request, granted already (R351 to R354). -/
def doorbell (s : State) (vital : Bool) (v : Word) : State :=
  if v.toNat ≥ 256 then bump s Reg.icuBaddb 15 0 1
  else if !vital && srcVital s v.toNat then bump s Reg.icuBaddb 31 16 1
  else ringSource s v.toNat

/-- The bits of a pending, enable or own-pending word that a world may read or change (R357). -/
def icuWorldMask (s : State) (vital : Bool) (k : Nat) : Word :=
  if vital then BitVec.allOnes 32
  else BitVec.ofNat 32 (ofBits ((List.range 32).map fun i => !srcVital s (32 * k + i)))

/-- ICU_MINEk as an engine reads it (R357): the leader's value for both engines of a Lockstep Grove. -/
def icuMine (s : State) (e k : Nat) : Word :=
  let t := if e ≥ 32 then 32 else if isLockstep s (e / 2) then e / 2 * 2 else e
  BitVec.ofNat 32 (ofBits ((List.range 32).map fun i =>
    let n := 32 * k + i
    srcPend s n && srcEn s n && decide (served s n = some t)))

/-- An entry starts the hold-off of the source's group (R362, R364). -/
def startHold (s : State) (n : Nat) : State :=
  let j := n / 8
  if rf s (Reg.icuHold + j) 19 0 = 0 then s
  else { sb s (Reg.icuHold + j) 31 true with holdRun := s.holdRun ||| (1#32 <<< j) }

/-- The hold-off of group `j` ends. -/
def endHold (s : State) (j : Nat) : State :=
  if s.holdRun.getLsbD j then
    icuSettle s { sb s (Reg.icuHold + j) 31 false with holdRun := s.holdRun &&& ~~~ (1#32 <<< j) }
  else s

/-- An entry whose vector fetch finds no source both pending and enabled is empty and counted (R365). -/
def countEmpty (s : State) (e : Nat) : State :=
  if (waitingFor s e).isEmpty then bump s (Reg.icuEmpty + e) 15 0 1 else s

end Sys2Proof.Machine
end

