-- ==== Sys2Proof/Machine/DMem.lean ====
section
/-! DEFINITION. D-space accesses of engines: checks (R22, R92, R206, R328, R343), alignment (R134), and the moves
themselves with their costs (R69, R160). -/

namespace Sys2Proof.Machine

/-- A latched valid region of either world covers an address (R206). -/
def inXRegion (x : Engine) (a : Nat) : Bool := x.xr.any fun r => decide (r.base ≤ a / 64 ∧ a / 64 ≤ r.limit)

/-- The words of T62 that an engine may touch: the committed half for reading, the other half for writing, of the running
Application's retain region (R91, R92). -/
def retainAllows (s : State) (e w need : Nat) : Bool :=
  match engApp s e with
  | none => false
  | some a =>
    let r := rd s (Reg.imgRet + a)
    let off := fld r 14 0
    let len := fld r 31 16
    let cur := fld (tarnRaw s 62 off) 0 0
    let lo (h : Nat) := off + 4 + h * len
    (!hasBits need needR || decide (lo cur ≤ w ∧ w < lo cur + len)) &&
    (!hasBits need needW || decide (lo (1 - cur) ≤ w ∧ w < lo (1 - cur) + len))

/-- The decision on one aligned access of an engine to D-space at the world and level of `q`. -/
def engCheckAs (s : State) (e : Nat) (q : Req) (a need : Nat) : Option Denial :=
  let closed := hasBits need needW && decide (e < 32) && inXRegion (eng s e) a
  match placeOf a with
  | .pond off =>
    match pondOff s e (dWays s (e / 2)) off with
    | none => some (mkDenial q 0xFF need spData false a)
    | some _ => if closed then some (mkDenial q 0xFF need spData false a) else none
  | .none =>
    if e ≥ 32 ∧ need = needR ∧ 0xA0000000 ≤ a ∧ a < 0xA0020000 then none
    else some (mkDenial q 0xFF need spData false a)
  | .outer =>
    match checkMem s q a need spData with
    | some d => some d
    | none => if closed then some (mkDenial q (tcodeOf s a) need spData false a) else none
  | .tarn t w =>
    match checkMem s q a need spData with
    | some d => some d
    | none =>
      if closed || (decide (t = 62) && decide (e < 32) && !retainAllows s e w need)
      then some (mkDenial q t need spData false a) else none

def engCheck (s : State) (e a need : Nat) : Option Denial := engCheckAs s e (engReq s e) a need

/-- The first denial among aligned pieces, the lower address first. -/
def checkPieces (s : State) (e need : Nat) : List (Nat × Nat) → Option Denial
  | [] => none
  | (a, _) :: r =>
    match engCheck s e a need with
    | some d => some d
    | none => checkPieces s e need r

/-- An access of `n` bytes (1, 2 or 4) as aligned pieces: itself, or two pieces, the lower address first (R134). Addresses
are modulo 2^32. -/
def piecesOf (a n : Nat) : List (Nat × Nat) :=
  let k := a % n
  if k = 0 then [(a, n)] else [(a, n - k), ((a + (n - k)) % 2 ^ 32, k)]

/-- Check an access of `n` bytes at `a`: comparators first, then alignment, then every piece (R134, R193, R485). -/
def checkAccess (e a n need : Nat) (kinds : List Nat) : EM Unit := do
  applyHits e (cmpHits (← get) e kinds a)
  let x ← getE e
  if a % n ≠ 0 && bit x.trapen 3 then raise vAlign
  let s ← get
  match checkPieces s e need (piecesOf a n) with
  | some d => raise vData (some d)
  | none => pure ()

/-- As `checkAccess` for a word, with Alignment whatever TRAPEN.AL (LDL, STC, LOCK; R134). -/
def checkStrict (e a need : Nat) (kinds : List Nat) : EM Unit := do
  applyHits e (cmpHits (← get) e kinds a)
  if a % 4 ≠ 0 then raise vAlign
  let s ← get
  match engCheck s e a need with
  | some d => raise vData (some d)
  | none => pure ()

/-- Read one aligned piece (granted already). -/
def readPiece (e a n : Nat) : EM (List Byte) := do
  let s ← get
  match placeOf a with
  | .outer =>
    match regionOf s a with
    | some r => liftOuter e a (fun s => outerRead s e r a n)
    | none => raise vData
  | .tarn t w => do
    needTarn t
    modS fun s => chargeWait (charge s e 3 1) e
    let s ← get
    match readTarn s t w (engReq s e).master with
    | (s, some v) => set s; pure (((wordBytes v).drop (a % 4)).take n)
    | (s, none) => set s; tarnFail e t
  | .pond off =>
    match pondOff s e (dWays s (e / 2)) off with
    | some o =>
      if pondIsBad s (e / 2) (o + 0x4000) then pondFatal e a
      else pure ((List.range n).map fun i => Sparse.get 0#8 (grv s (e / 2)).dpond (o + i))
    | none => raise vData
  | .none => pure ((List.range n).map fun i => Config.wspRom (a - 0xA0000000 + i))

/-- Store bytes into the D-Pond; a store of fewer than 4 bytes into a word with bad parity is not performed (R333). -/
def pondStore (s : State) (g o : Nat) : List Byte → State
  | [] => s
  | b :: r =>
    let x := grv s g
    pondStore (putGrv s g { x with dpond := Sparse.set 0#8 x.dpond o b }) g (o + 1) r

/-- A mask and a value for bytes `bs` at byte `k` of a word. -/
def byteMask : Nat → List Byte → Word × Word
  | _, [] => (0, 0)
  | k, b :: r =>
    let (m, v) := byteMask (k + 1) r
    (m ||| (0xFF#32 <<< (8 * k)), v ||| (b.setWidth 32 <<< (8 * k)))

/-- Write one aligned piece (granted already). -/
def writePiece (e a : Nat) (bs : List Byte) : EM Unit := do
  let s ← get
  match placeOf a with
  | .outer =>
    match regionOf s a with
    | some r => do
      liftOuter e a (fun s => outerWrite s e r a bs)
      modS fun s => clearRsv s (engReq s e).master a
    | none => raise vData
  | .tarn t w => do
    needTarn t
    modS fun s => chargeWait (charge s e 1 1) e
    let s ← get
    let (m, v) := byteMask (a % 4) bs
    match writeTarn s t w (engReq s e).master m v with
    | (s, some _) => set s
    | (s, none) => set s; tarnFail e t
  | .pond off =>
    match pondOff s e (dWays s (e / 2)) off with
    | some o =>
      let g := e / 2
      if pondIsBad s g (o + 0x4000) && decide (bs.length < 4) then pondFatal e a
      else
        modS fun s => pondStore (putGrv s g { grv s g with pondBad := (grv s g).pondBad.filter (· ≠ (o + 0x4000) / 4 * 4) }) g o bs
        modS fun s => clearRsv s e a
    | none => raise vData
  | .none => raise vData

/-- Little-endian value of at most four bytes. -/
def bytesVal (bs : List Byte) : Word := bytesWord (bs.getD 0 0) (bs.getD 1 0) (bs.getD 2 0) (bs.getD 3 0)

/-- Read `n` bytes at `a` without checks. -/
def readRaw (e a n : Nat) : EM Word := do
  match piecesOf a n with
  | [(a0, n0)] => do pure (bytesVal (← readPiece e a0 n0))
  | ps => do
    modS fun s => charge s e 1 0
    let bs ← ps.foldlM (fun acc p => do pure (acc ++ (← readPiece e p.1 p.2))) []
    pure (bytesVal bs)

/-- Write the low `n` bytes of `v` at `a` without checks. -/
def writeRaw (e a n : Nat) (v : Word) : EM Unit := do
  match piecesOf a n with
  | [(a0, n0)] => writePiece e a0 ((wordBytes v).take n0)
  | ps => do
    modS fun s => charge s e 1 0
    let _ ← ps.foldlM (fun k p => do
      writePiece e p.1 (((wordBytes v).drop k).take p.2)
      pure (k + p.2)) 0

/-- A checked load and a checked store of `n` bytes (R159). -/
def load (e : Nat) (a : Word) (n : Nat) : EM Word := do
  checkAccess e a.toNat n needR [1, 3]
  readRaw e a.toNat n
def store (e : Nat) (a : Word) (n : Nat) (v : Word) : EM Unit := do
  checkAccess e a.toNat n needW [2, 3]
  writeRaw e a.toNat n v

/-- A double is one access to two words, checked as a whole before either moves (R134, R159). -/
def checkDouble (e : Nat) (a : Word) (need : Nat) (kinds : List Nat) : EM Unit := do
  checkAccess e a.toNat 4 need kinds
  let s ← get
  match checkPieces s e need (piecesOf (a + 4).toNat 4) with
  | some d => raise vData (some d)
  | none => pure ()

def loadD (e : Nat) (a : Word) : EM (Word × Word) := do
  checkDouble e a needR [1, 3]
  let lo ← readRaw e a.toNat 4
  let hi ← readRaw e (a + 4).toNat 4
  pure (lo, hi)
def storeD (e : Nat) (a lo hi : Word) : EM Unit := do
  checkDouble e a needW [2, 3]
  writeRaw e a.toNat 4 lo
  writeRaw e (a + 4).toNat 4 hi

end Sys2Proof.Machine
end

