-- ==== Sys2Proof/Machine/Operands.lean ====
section
/-! DEFINITION. The operand stack with its cache (R125 to R130), the logic stack (R136), the return stack (R131) and the
control registers (R119 to R123). Addresses of stacks are 32-bit words, and their sums wrap (log 11). -/

namespace Sys2Proof.Machine

/-! ### Operand stack -/

/-- Cells in the cache. -/
def cacheDepth : Nat := 32

/-- Where the cells of a spill or fill go, for its cost (R128). -/
inductive StackDest where
  | pond | cached | vital | tarn | uncached
deriving DecidableEq, Repr

def stackDest (s : State) (a : Nat) : StackDest :=
  match placeOf a with
  | .tarn _ _ => .tarn
  | .outer =>
    match regionOf s a with
    | some r => if !regCached s r then .uncached else if regVital s r then .vital else .cached
    | none => .cached
  | _ => .pond

/-- Weir counts of an engine: cycles and beats. -/
def weirOf (s : State) (e : Nat) : Nat × Nat :=
  let x := grv s (e / 2)
  if e ≥ 32 then (0, 0) else if e % 2 = 0 then (x.cycL, x.beatsL) else (x.cycC, x.beatsC)
def setWeir (s : State) (e : Nat) (n : Nat × Nat) : State :=
  if e ≥ 32 then s else
  let x := grv s (e / 2)
  if x.counting && !x.halted then
    putGrv s (e / 2) (if e % 2 = 0 then { x with cycL := n.1, beatsL := n.2 } else { x with cycC := n.1, beatsC := n.2 })
  else s

/-- Charge a spill or fill of `m` cells in place of what its single accesses cost (R128). `before` is the count before it. -/
def stackCost (e : Nat) (d : StackDest) (write : Bool) (m : Nat) (before : Nat × Nat) (s : State) : State :=
  match d with
  | .pond => charge (setWeir s e before) e 4 0
  | .cached => charge s e 4 0
  | .vital => if write then charge (setWeir s e before) e 4 2 else charge s e 4 0
  | .tarn => chargeWait (charge (setWeir s e before) e 8 m) e
  | .uncached =>
    if write then chargeWait (charge (setWeir s e before) e 4 2) e
    else
      let k := (m + 3) / 4
      (List.range k).foldl (fun s _ => chargeWait (charge s e 14 1) e) (charge (setWeir s e before) e 4 0)

/-- Addresses of `k` cells upward from `a`. -/
def cellAddrs (a : Word) (k : Nat) : List Nat := (List.range k).map fun i => (a + BitVec.ofNat 32 (4 * i)).toNat

/-- A spill or fill that is denied raises Stack Fault (R128). -/
def checkCells (e need : Nat) (as : List Nat) : EM Unit := do
  let s ← get
  match checkPieces s e need (as.map (·, 4)) with
  | some d => raise vStack (some d)
  | none => pure ()

/-- Spill the `k` oldest cells: checks first, then the writes, the oldest at the highest address (R126). -/
def spillGroup (e k : Nat) : EM Unit := do
  let x ← getE e
  let keep := x.cells.length - k
  let old := x.cells.drop keep
  let base := x.dsp - BitVec.ofNat 32 (4 * k)
  let s ← get
  let before := weirOf s e
  let _ ← old.foldlM (fun a w => do
    writeRaw e a.toNat 4 w
    pure (a + 4#32)) base
  modS (stackCost e (stackDest s base.toNat) true k before)
  modE e fun x => { x with cells := x.cells.take keep, dsp := base }

/-- Check a spill of `k` cells below DSP as a whole (R126, R128). -/
def checkSpill (e k : Nat) : EM Unit := do
  let x ← getE e
  let base := x.dsp - BitVec.ofNat 32 (4 * k)
  if base.toNat < x.dsl.toNat then raise vStack
  checkCells e needW (cellAddrs base k)

/-- Fill the cache until it holds `n` cells (R127). -/
def fillTo (e n : Nat) : EM Unit := do
  let x ← getE e
  if x.cells.length < n then
    let m := min 8 (x.ddepth.toNat - x.cells.length)
    checkCells e needR (cellAddrs x.dsp m)
    let s ← get
    let before := weirOf s e
    let ws ← (cellAddrs x.dsp m).foldlM (fun acc a => do pure (acc ++ [← readRaw e a 4])) []
    modS (stackCost e (stackDest s x.dsp.toNat) false m before)
    modE e fun x => { x with cells := x.cells ++ ws, dsp := x.dsp + BitVec.ofNat 32 (4 * m) }
  else pure ()

/-- Make room for pushes: spill the 8 oldest cells while the cache would hold more than 32 (R126). -/
def makeRoom (e : Nat) (keepOut n : Nat) : EM Unit := do
  let x ← getE e
  if x.cells.length - keepOut + n > cacheDepth then do
    checkSpill e 8
    spillGroup e 8
  else pure ()

/-- Take the `n` top cells, top first, for an instruction that will push `p` cells (R126, R127). -/
def popN (e n p : Nat) : EM (List Word) := do
  let x ← getE e
  if x.ddepth.toNat < n then raise vStack
  fillTo e n
  makeRoom e n p
  let x ← getE e
  set (putEng (← get) e { x with cells := x.cells.drop n, ddepth := x.ddepth - BitVec.ofNat 32 n })
  pure (x.cells.take n)

/-- Push cells, the first of the list ending on top. Room was made by `popN`. -/
def pushN (e : Nat) (ws : List Word) : EM Unit :=
  modE e fun x => { x with cells := ws ++ x.cells, ddepth := x.ddepth + BitVec.ofNat 32 ws.length }

/-- Instructions over one, two or three popped words. -/
def pop1 (e p : Nat) : EM Word := do pure (nth (← popN e 1 p) 0)
/-- Two cells `( a b -- )`: `a` beneath, `b` on top. -/
def pop2 (e p : Nat) : EM (Word × Word) := do
  let ws ← popN e 2 p
  pure (nth ws 1, nth ws 0)

/-- Groups of a full spill: eights, oldest first, and the rest (R129, log 12). -/
def spillGroups (fuel n : Nat) : List Nat :=
  match fuel with
  | 0 => []
  | f + 1 => if n = 0 then [] else if n ≤ 8 then [n] else 8 :: spillGroups f (n - 8)

/-- The check of a full spill of every cell in the cache, and the spill itself (R129). -/
def checkFullSpill (e : Nat) : EM Unit := do
  let x ← getE e
  if x.cells.length = 0 then pure () else checkSpill e x.cells.length
def fullSpill (e : Nat) : EM Unit := do
  let x ← getE e
  (spillGroups 8 x.cells.length).foldlM (fun _ k => spillGroup e k) ()

/-! ### Logic stack (R136) -/

/-- LSK as software reads it: bits at or above LSKD read 0. -/
def lskVal (x : Engine) : Word :=
  if x.lskd.toNat ≥ 32 then x.lsk else x.lsk &&& (BitVec.ofNat 32 (2 ^ x.lskd.toNat - 1))

/-- At least `n` entries are there, and `p` more than `n` would fit. -/
def lskNeed (e n p : Nat) : EM Unit := do
  let x ← getE e
  if x.lskd.toNat < n then raise vStack
  if x.lskd.toNat - n + p > 32 then raise vStack

/-- Entry `i` from the top. -/
def lskBit (x : Engine) (i : Nat) : Bool := bit (lskVal x) i

/-- Pop `n` entries; push one; replace the top. -/
def lskPop (n : Nat) (x : Engine) : Engine := { x with lsk := x.lsk >>> n, lskd := x.lskd - BitVec.ofNat 32 n }
def lskPush (b : Bool) (x : Engine) : Engine :=
  { x with lsk := putBit (x.lsk <<< 1) 0 b, lskd := x.lskd + 1 }
def lskTop (b : Bool) (x : Engine) : Engine := { x with lsk := putBit x.lsk 0 b }

/-! ### Return stack (R131, R139) -/

/-- Register numbers of the return stack pointer and limit, vector base and lifeboat of a world and level (R119). -/
def rspReg (vital sup : Bool) : Nat := (if vital then 0x10 else 0x14) + (if sup then 2 else 0)
def rslReg (vital sup : Bool) : Nat := rspReg vital sup + 1
def vbarReg (vital : Bool) : Nat := if vital then 0x18 else 0x19
def boatReg (vital : Bool) : Nat := if vital then 0x1A else 0x1B

def ersGet (x : Engine) (r : Nat) : Word := Sparse.get 0#32 x.ers r
def ersPut (x : Engine) (r : Nat) (v : Word) : Engine := { x with ers := Sparse.set 0#32 x.ers r v }

/-- Low bits of registers 0x10 to 0x1B that read 0 and ignore writes (R119, R131). -/
def ersMask (r : Nat) : Word :=
  if r = 0x18 ∨ r = 0x19 then 0xFFFFF000#32 else if r = 0x1A ∨ r = 0x1B then 0xFFFFFFF0#32 else 0xFFFFFFFC#32

/-- World and level in STAT. -/
def xVital (x : Engine) : Bool := bit x.stat stW
def xSup (x : Engine) : Bool := bit x.stat stS

/-- The current return stack pointer (R139). -/
def rspOf (x : Engine) : Word := ersGet x (rspReg (xVital x) (xSup x))
def rslOf (x : Engine) : Word := ersGet x (rslReg (xVital x) (xSup x))

/-- Push a return address: Stack Fault below the limit, Data Access when denied (R131, R164). -/
def pushRet (e : Nat) (ret : Word) : EM Unit := do
  let x ← getE e
  let sp := rspOf x - 4#32
  if sp.toNat < (rslOf x).toNat then raise vStack
  checkAccess e sp.toNat 4 needW [2, 3]
  writeRaw e sp.toNat 4 ret
  modE e fun x => ersPut x (rspReg (xVital x) (xSup x)) sp

/-- Pop a return address (R131). -/
def popRet (e : Nat) : EM Word := do
  let x ← getE e
  let sp := rspOf x
  checkAccess e sp.toNat 4 needR [1, 3]
  let r ← readRaw e sp.toNat 4
  modE e fun x => ersPut x (rspReg (xVital x) (xSup x)) (sp + 4#32)
  pure r

/-! ### Control registers (R119 to R123) -/

/-- ENGID (R123): the leader's value for both engines of a Lockstep Grove; 32 for the Wellspring's. -/
def engId (s : State) (e : Nat) : Word :=
  if e ≥ 32 then 32#32
  else
    let k := if isLockstep s (e / 2) then e / 2 * 2 else e
    BitVec.ofNat 32 (k + (k % 2) * 2 ^ 6 + (k / 2) * 2 ^ 7)

/-- Numbers that R119 lists. -/
def crListed (n : Nat) : Bool := decide (n ≤ 0x0E) || (decide (0x10 ≤ n) && decide (n ≤ 0x1B))

/-- Is register 0x10 to 0x1B of the Vital world? -/
def crVital (n : Nat) : Bool := decide (n ≤ 0x13) || decide (n = 0x18) || decide (n = 0x1A)

/-- Privilege of RDC and of WRC for a listed register (R119). -/
def crReadable (x : Engine) (n : Nat) : Bool := decide (n < 0x10) || (xSup x && decide (crVital n = xVital x))
def crWritable (x : Engine) (n : Nat) : Bool :=
  if n < 0x10 then
    (if n = 0x0E then false
     else if n = 3 ∨ n = 4 ∨ n = 5 ∨ n = 0x0C ∨ n = 0x0D then xSup x else true)
  else xSup x && decide (crVital n = xVital x)

/-- The value RDC pushes; PC is the address of the instruction after it. -/
def crRead (s : State) (e n : Nat) : Word :=
  let x := eng s e
  match n with
  | 0x00 => x.pc | 0x01 => x.stat | 0x02 => x.trapen | 0x03 => x.dsp | 0x04 => x.dsl | 0x05 => x.ddepth
  | 0x06 => x.rcnt | 0x07 => x.srcp | 0x08 => x.dstp | 0x09 => lskVal x | 0x0A => x.lskd | 0x0B => x.rsv
  | 0x0C => rspOf x | 0x0D => rslOf x | 0x0E => engId s e
  | n => ersGet x n

/-- STAT after a WRC (R121): bits [7:0] at User level, IE and IPL too at Supervisor level. -/
def statWrite (old v : Word) : Word :=
  let m : Word := if bit old stS then 0x00FF01FF#32 else 0x000000FF#32
  (old &&& ~~~ m) ||| (v &&& m)

/-- The register file after a WRC of a writable register. -/
def crWrite (x : Engine) (n : Nat) (v : Word) : Engine :=
  match n with
  | 0x01 => { x with stat := statWrite x.stat v }
  | 0x02 => { x with trapen := v &&& 0xF#32 }
  | 0x03 => { x with dsp := v &&& 0xFFFFFFFC#32 }
  | 0x04 => { x with dsl := v &&& 0xFFFFFFFC#32 }
  | 0x05 => { x with ddepth := v &&& 0x00FFFFFF#32 }
  | 0x06 => { x with rcnt := v }
  | 0x07 => { x with srcp := v }
  | 0x08 => { x with dstp := v }
  | 0x09 => { x with lsk := v }
  | 0x0A => { x with lskd := if v.toNat > 32 then 32#32 else v }
  | 0x0B => { x with rsv := putBit x.rsv 0 false }
  | 0x0C => ersPut x (rspReg (xVital x) (xSup x)) (v &&& 0xFFFFFFFC#32)
  | 0x0D => ersPut x (rslReg (xVital x) (xSup x)) (v &&& 0xFFFFFFFC#32)
  | n => ersPut x n (v &&& ersMask n)

end Sys2Proof.Machine
end

