-- ==== Sys2Proof/Machine/Exception.lean ====
section
/-! DEFINITION. Taking an exception as one shared operation (R190 to R200), World Faults (R213, R214), and the return
from an exception (R201). -/

namespace Sys2Proof.Machine

/-- What is entered: a vector of R190, a supervisor call (R191), or an interrupt with its level (R195). -/
inductive Entry where
  | vec (v : Nat)
  | svc (n : Nat)
  | irq (level : Nat)
deriving DecidableEq, Repr

/-- VEC and SVCN of a lifeboat save (R199). -/
def Entry.boatVec : Entry → Nat
  | .vec v => v | .svc _ => 0xF | .irq _ => vIrq
def Entry.boatSvc : Entry → Nat
  | .svc n => n | _ => 0

/-- Where an entry goes (R190, R191). -/
def Entry.target (vbar : Word) : Entry → Word
  | .vec v => vbar + BitVec.ofNat 32 (16 * v)
  | .svc n => vbar + 0x800#32 + BitVec.ofNat 32 (8 * n)
  | .irq _ => vbar + BitVec.ofNat 32 (16 * vIrq)

/-- STAT.S := 1, IE := 0, RPA := 0, and IPL on an interrupt (R195). -/
def entryStat (st : Word) : Entry → Word
  | .irq l => putFld (putBit (putBit (putBit st stS true) stIE false) stRPA false) 23 16 l
  | _ => putBit (putBit (putBit st stS true) stIE false) stRPA false

/-- A request of an engine at its own world and Supervisor level (R195). -/
def supReq (s : State) (e : Nat) : Req := { engReq s e with sup := true }

/-- Check words for an access at Supervisor level: the first denial. -/
def checkSup (s : State) (e need : Nat) : List Nat → Option Denial
  | [] => none
  | a :: r =>
    match engCheckAs s e (supReq s e) a need with
    | some d => some d
    | none => checkSup s e need r

/-- The registers after an entry has stored its frame or lifeboat (R195). -/
def entered (x : Engine) (k : Entry) (dst : Entry) : Engine :=
  { x with
    stat := entryStat x.stat k
    rsv := putBit x.rsv 0 false
    pc := dst.target (ersGet x (vbarReg (xVital x)))
    dueTrap := none, inEntry := true, foldAt := none }

/-- A World Fault (R213, R214): no handler runs, the engine stops and is to be fenced, and FLT records it. In a Lockstep or
Diverse Grove the Grove is concerned, in a Split Grove the engine alone. -/
def worldFault (s : State) (e : Nat) : State :=
  if e ≥ 32 then wspFault s
  else
    let g := e / 2
    let a := engApp s e
    let s := record s { faultOf 0x02 2 with
      master := BitVec.ofNat 6 e, app := BitVec.ofNat 5 (a.getD 0), grove := BitVec.ofNat 4 g, discard := a.isSome }
    let s := match a with | some a => discardApp s a | none => s
    if isSplit s g then
      putEng { s with fenceReq := s.fenceReq ||| (1#32 <<< e) } e { eng (idleEngine s e) e with run := .stopped }
    else
      let s := endGlade { s with fenceReq := s.fenceReq ||| (3#32 <<< (2 * g)) } g
      let s := putEng s (2 * g) { eng s (2 * g) with run := .stopped }
      putEng s (2 * g + 1) { eng s (2 * g + 1) with run := .stopped }

/-- Save an exception into the lifeboat, if it is valid (R198, R199): in one tarn, read and write granted, word 3 readable
with BUSY 0. The outcome tells whether it was. -/
def lifeboat (e : Nat) (k : Entry) (pcS statS sp : Word) (reason : Nat) : EM Bool := do
  let x ← getE e
  let s ← get
  let b := (ersGet x (boatReg (xVital x))).toNat
  match placeOf b with
  | .tarn t w => do
    match checkSup s e (needR + needW) [b, b + 4, b + 8, b + 12] with
    | some d => do
      modS fun s => logDenial s d
      pure false
    | none => do
      needTarn t
      modS fun s => chargeWait (charge s e 3 1) e
      let s ← get
      match readTarn s t (w + 3) (engReq s e).master with
      | (s, none) => do
        set s
        pure false
      | (s, some w3) => do
        set s
        if bit w3 31 then pure false
        else do
          writeRaw e b 4 pcS
          writeRaw e (b + 4) 4 statS
          writeRaw e (b + 8) 4 sp
          writeRaw e (b + 12) 4
            (BitVec.ofNat 32 (k.boatVec + reason * 2 ^ 4 + k.boatSvc * 2 ^ 6 + 2 ^ 31))
          pure true
  | _ => pure false

/-- Take an exception (R195): the frame is pushed on the Supervisor stack of the engine's world if it fits and is granted;
otherwise the lifeboat takes it and the Stack Fault vector is entered; otherwise it is a World Fault. An exception before
the first instruction of a handler retires is a World Fault (R213). `cyc` is the cost without its accesses (R197). -/
def takeException (e : Nat) (k : Entry) (pcS statS : Word) (cyc : Nat) : EM Unit := do
  let x ← getE e
  if x.inEntry then modS fun s => worldFault s e
  else do
    let w := xVital x
    let sp := ersGet x (rspReg w true)
    let below := decide ((sp - 8#32).toNat < (ersGet x (rslReg w true)).toNat)
    let s ← get
    let denied := if below then none else checkSup s e needW [(sp - 8#32).toNat, (sp - 4#32).toNat]
    modS fun s => charge s e cyc 0
    if !below && denied.isNone then do
      modE e fun x => ersPut x (rspReg w true) (sp - 8#32)
      writeRaw e (sp - 4#32).toNat 4 statS
      writeRaw e (sp - 8#32).toNat 4 pcS
      modE e fun x => entered x k k
    else do
      modS fun s => logOpt s denied
      let ok ← lifeboat e k pcS statS sp (if below then 1 else 2)
      if ok then modE e fun x => entered x k (.vec vStack)
      else modS fun s => worldFault s e

/-- The state left by an instruction's work that stopped: fatal errors, waits and halts (R147, R215, R348, R476). -/
def haltBefore (s : State) (e : Nat) (dbg : Sparse Word) : State :=
  if e ≥ 32 then { s with dbg := dbg }
  else holdSettle (putGrv { s with dbg := dbg } (e / 2) { grv s (e / 2) with haltReq := true })
def fatalAt (s : State) (e : Nat) : State := if e ≥ 32 then s else fatalStop s (e / 2)

/-- Run an exception entry on a state. A fault inside an entry cannot arise, since every access was checked; it would be a
World Fault. -/
def runEntry (s : State) (e : Nat) (k : Entry) (pcS statS : Word) (cyc : Nat) : State :=
  match (takeException e k pcS statS cyc).run s with
  | .ok (_, s) => s
  | .error (.fatal s) => fatalAt s e
  | .error (.wait s1) => { s with pwr := s1.pwr }
  | .error (.fault _ _ _) => worldFault s e
  | .error (.halt _) => s

/-- RETX (R201): reads and checks before any change. -/
def doRetx (e : Nat) : EM Unit := do
  let x ← getE e
  let sp := rspOf x
  checkAccess e sp.toNat 4 needR [1, 3]
  checkAccess e (sp + 4#32).toNat 4 needR [1, 3]
  let pcR ← readRaw e sp.toNat 4
  let stR ← readRaw e (sp + 4#32).toNat 4
  if bit stR stW ≠ bit x.stat stW || (bit stR stS && !bit x.stat stS) then raise vRetPriv
  let stR := if bit x.stat stS then stR
             else putFld (putBit stR stIE (bit x.stat stIE)) 23 16 (fld x.stat 23 16)
  modE e fun x =>
    let x := ersPut x (rspReg (xVital x) (xSup x)) (sp + 8#32)
    { x with stat := stR &&& 0x00FF0FFF#32, rsv := putBit x.rsv 0 false, pc := pcR }

end Sys2Proof.Machine
end

