-- ==== Sys2Proof/Machine/Flags.lean ====
section
/-! DEFINITION. Arithmetic results with their flags: R148, R153 to R158 and R169, each as a pure function of its operands
and the flags it reads. -/

namespace Sys2Proof.Machine

/-- A result with the flags it writes; `none` leaves a flag unchanged (R148). -/
structure Flagged where
  c  : Option Bool := none
  v  : Option Bool := none
  z  : Option Bool := none
  n  : Option Bool := none
  dc : Option Bool := none
  dz : Bool := false
  bf : Bool := false
deriving DecidableEq, Repr

/-- Write an optional flag. -/
def putFlag (st : Word) (i : Nat) : Option Bool → Word
  | none => st
  | some b => putBit st i b

/-- STAT after an instruction's flags (R120, R148): VS, DZ and BF are sticky. -/
def putFlags (st : Word) (f : Flagged) : Word :=
  let st := putFlag (putFlag (putFlag (putFlag (putFlag st stC f.c) stV f.v) stZ f.z) stN f.n) stDC f.dc
  let st := if f.v = some true then putBit st stVS true else st
  let st := if f.dz then putBit st stDZ true else st
  if f.bf then putBit st stBF true else st

/-- Sign bit, and Z and N of a word or double (R148, R169). -/
def sgn {n : Nat} (r : BitVec n) : Bool := r.msb
def zOf {n : Nat} (r : BitVec n) : Bool := decide (r = 0)

/-- Addition over a width with carry in (R148, R169). -/
def addF {n : Nat} (a b : BitVec n) (cin : Bool) : BitVec n × Flagged :=
  let full := a.toNat + b.toNat + b2n cin
  let r := BitVec.ofNat n full
  (r, { c := some (decide (full ≥ 2 ^ n)), v := some (decide (sgn a = sgn b) && decide (sgn r ≠ sgn a)), z := some (zOf r),
        n := some (sgn r) })

/-- Subtraction over a width with borrow in (R148, R169). -/
def subF {n : Nat} (a b : BitVec n) (bin : Bool) : BitVec n × Flagged :=
  let r := a - b - BitVec.ofNat n (b2n bin)
  (r, { c := some (decide (a.toNat < b.toNat + b2n bin)), v := some (decide (sgn a ≠ sgn b) && decide (sgn r ≠ sgn a)),
        z := some (zOf r), n := some (sgn r) })

/-- The same result with C not written (INC, DEC). -/
def keepC {α : Type} (p : α × Flagged) : α × Flagged := (p.1, { p.2 with c := none })

/-- ABS (R151, R152): C is written 0. -/
def absF (a : Word) : Word × Flagged :=
  if a.msb then
    let (r, f) := subF 0#32 a false
    (r, { f with c := some false })
  else (a, { c := some false, v := some false, z := some (zOf a), n := some (sgn a) })

/-- Bitwise operations and TST: V 0, Z and N of the result (R151). -/
def logicF (r : Word) : Flagged := { v := some false, z := some (zOf r), n := some (sgn r) }

/-- Shifts over a width (R153, R169): `n` unsigned; C unchanged for a count of 0. -/
def shiftFlags {w : Nat} (r : BitVec w) (c : Option Bool) : Flagged :=
  { c := c, v := some false, z := some (zOf r), n := some (sgn r) }
def shlF {w : Nat} (a : BitVec w) (n : Nat) : BitVec w × Flagged :=
  if n = 0 then (a, shiftFlags a none)
  else if n ≤ w then
    let r := a <<< n
    (r, shiftFlags r (some (a.getLsbD (w - n))))
  else (0, shiftFlags (0 : BitVec w) (some false))
def shrF {w : Nat} (a : BitVec w) (n : Nat) : BitVec w × Flagged :=
  if n = 0 then (a, shiftFlags a none)
  else if n ≤ w then
    let r := a >>> n
    (r, shiftFlags r (some (a.getLsbD (n - 1))))
  else (0, shiftFlags (0 : BitVec w) (some false))
def sarF {w : Nat} (a : BitVec w) (n : Nat) : BitVec w × Flagged :=
  if n = 0 then (a, shiftFlags a none)
  else if n < w then
    let r := a.sshiftRight n
    (r, shiftFlags r (some (a.getLsbD (n - 1))))
  else
    let r := if a.msb then BitVec.allOnes w else 0
    (r, shiftFlags r (some a.msb))

/-- Rotates (R153). -/
def rolF (a : Word) (n : Nat) : Word × Flagged :=
  if n = 0 then (a, shiftFlags a none)
  else
    let r := a.rotateLeft (n % 32)
    (r, shiftFlags r (some (bit r 0)))
def rorF (a : Word) (n : Nat) : Word × Flagged :=
  if n = 0 then (a, shiftFlags a none)
  else
    let r := a.rotateRight (n % 32)
    (r, shiftFlags r (some (bit r 31)))

/-- Multiplication (R154). -/
def mulF (a b : Word) : Word × Flagged :=
  let p := a.toInt * b.toInt
  let r := BitVec.ofInt 32 p
  (r, { c := some false, v := some (decide (p < -(2 ^ 31) ∨ p > 2 ^ 31 - 1)), z := some (zOf r), n := some (sgn r) })
def muluF (a b : Word) : Word × Flagged :=
  let p := a.toNat * b.toNat
  let r := BitVec.ofNat 32 p
  (r, { c := some (decide (p ≥ 2 ^ 32)), v := some false, z := some (zOf r), n := some (sgn r) })
def muldF (a b : Word) : Dbl × Flagged :=
  let r := BitVec.ofInt 64 (a.toInt * b.toInt)
  (r, { c := some false, v := some false, z := some (zOf r), n := some (sgn r) })
def muludF (a b : Word) : Dbl × Flagged :=
  let r := BitVec.ofNat 64 (a.toNat * b.toNat)
  (r, { c := some false, v := some false, z := some (zOf r), n := some (sgn r) })

/-- Division (R155): quotient and remainder; truncation toward zero. -/
def divF (a b : Word) : (Word × Word) × Flagged :=
  let fl (q : Word) (v dz : Bool) : Flagged :=
    { c := some false, v := some v, z := some (zOf q), n := some (sgn q), dz := dz }
  if b = 0 then
    let q : Word := if a.msb then 0x80000000#32 else 0x7FFFFFFF#32
    ((q, a), fl q false true)
  else if a = 0x80000000#32 ∧ b = 0xFFFFFFFF#32 then ((0x80000000#32, 0), fl 0x80000000#32 true false)
  else
    let q := BitVec.ofInt 32 (Int.tdiv a.toInt b.toInt)
    ((q, a - q * b), fl q false false)
def divuF (a b : Word) : (Word × Word) × Flagged :=
  let fl (q : Word) (dz : Bool) : Flagged :=
    { c := some false, v := some false, z := some (zOf q), n := some (sgn q), dz := dz }
  if b = 0 then ((0xFFFFFFFF#32, a), fl 0xFFFFFFFF#32 true)
  else
    let q := BitVec.ofNat 32 (a.toNat / b.toNat)
    ((q, BitVec.ofNat 32 (a.toNat % b.toNat)), fl q false)

/-! ### BCD (R156 to R158): digits least significant first -/

def digits {w : Nat} (k : Nat) (a : BitVec w) : List Nat := (List.range k).map fun i => (a.toNat >>> (4 * i)) % 16
def ofDigits (base : Nat) : List Nat → Nat
  | [] => 0
  | d :: r => d + base * ofDigits base r

/-- Digit-by-digit addition and subtraction with carry; the digits and the last carry. -/
def bcdAdd : List Nat → List Nat → Nat → List Nat × Nat
  | a :: as, b :: bs, c =>
    let t := a + b + c
    let (r, c') := bcdAdd as bs (if t ≥ 10 then 1 else 0)
    ((if t ≥ 10 then t - 10 else t) :: r, c')
  | _, _, c => ([], c)
def bcdSub : List Nat → List Nat → Nat → List Nat × Nat
  | a :: as, b :: bs, c =>
    let neg := decide (a < b + c)
    let (r, c') := bcdSub as bs (if neg then 1 else 0)
    ((if neg then a + 10 - (b + c) else a - (b + c)) :: r, c')
  | _, _, c => ([], c)

/-- A digit above 9. -/
def badDigit (ds : List Nat) : Bool := ds.any fun d => decide (d > 9)

/-- BADD, BSUB and their double forms over `k` digits. -/
def bcdF {w : Nat} (sub : Bool) (k : Nat) (a b : BitVec w) : BitVec w × Flagged :=
  let da := digits k a
  let db := digits k b
  if badDigit da || badDigit db then (BitVec.allOnes w, { dc := some false, z := some false, bf := true })
  else
    let (r, c) := if sub then bcdSub da db 0 else bcdAdd da db 0
    let s := BitVec.ofNat w (ofDigits 16 r)
    (s, { dc := some (decide (c = 1)), z := some (zOf s) })

/-- BCD2B, BCD2BD. -/
def bcdToBin {w : Nat} (k : Nat) (a : BitVec w) : BitVec w × Flagged :=
  let da := digits k a
  if badDigit da then (BitVec.allOnes w, { z := some false, bf := true })
  else
    let r := BitVec.ofNat w (ofDigits 10 da)
    (r, { z := some (zOf r) })

/-- The `k` decimal digits of a number. -/
def decDigits (k n : Nat) : List Nat := (List.range k).map fun i => n / 10 ^ i % 10

/-- B2BCD, B2BCDD: a number too large gives all nines and V. -/
def binToBcd {w : Nat} (k : Nat) (n : BitVec w) : BitVec w × Flagged :=
  let ovr := decide (n.toNat ≥ 10 ^ k)
  let r := if ovr then BitVec.ofNat w (ofDigits 16 (List.replicate k 9)) else BitVec.ofNat w (ofDigits 16 (decDigits k n.toNat))
  (r, { v := some ovr, z := some (zOf r) })

/-- DADJ, DADJD: digits 0 to 15 normalised (R158). -/
def adjF {w : Nat} (k : Nat) (x : BitVec w) : BitVec w × Flagged :=
  let (r, c) := bcdAdd (digits k x) (List.replicate k 0) 0
  let y := BitVec.ofNat w (ofDigits 16 r)
  (y, { dc := some (decide (c = 1)), z := some (zOf y) })

end Sys2Proof.Machine
end

