-- ==== Sys2Proof/Machine/EngCore.lean ====
section
/-! DEFINITION. How an engine issues, runs and retires one instruction: when it may, its fetch (R132, R205, R207), folding
(R140 to R142), microcode errors (R219), retirement, traps and faults (R147, R192 to R194), and the Lockstep checker
(R256). -/

namespace Sys2Proof.Machine

/-- The outcome of a command. -/
abbrev Out := Host.Outcome State Fault Refusal

/-- What an instruction brings to issue: length, cycles with operands in the cache (R149), microcode entry (R216), and
its part in folding (R140). -/
structure Insn where
  len    : Nat
  cyc    : Nat
  entry  : Option Nat := none
  first  : Bool := false
  second : Bool := false
  /-- STAT.RPA is set by the instruction itself. -/
  keepRpa : Bool := false
deriving DecidableEq, Repr

/-- May the engine issue an instruction now? In Lockstep mode the leader stands for the pair (R256). -/
def canIssue (s : State) (e : Nat) : Bool :=
  let x := eng s e
  decide (x.run = .running) && decide (s.dev ≠ .halted) && decide (s.dev ≠ .off) && decide (s.dev ≠ .reset) &&
  (if e ≥ 32 then decide (e = 32) && !s.wspStopped
   else
    let g := e / 2
    (grv s g).glade.isSome && !tripped s g && !(grv s g).halted && !(grv s g).haltReq && !engFenced s e &&
    !(isLockstep s g && decide (e % 2 = 1)))

/-! ### Fetch -/

/-- The decision on fetching one byte (R205): a latched region of the engine's world and the X grant. The Wellspring fetches
from its ROM and T60 (R207, R421). -/
def fetchDenied (s : State) (e a : Nat) : Option Denial :=
  let q := engReq s e
  let x := eng s e
  if e ≥ 32 then
    if 0xA0000000 ≤ a ∧ a < 0xA0020000 then none
    else match placeOf a with
      | .tarn 60 _ => checkMem s q a needX spFetch
      | _ => some (mkDenial q 0xFF needX spFetch false a)
  else
    let inX := x.xr.any fun r => decide (r.vital = q.vital) && decide (r.base ≤ a / 64 ∧ a / 64 ≤ r.limit) && (!r.supOnly || q.sup)
    match placeOf a with
    | .outer =>
      match checkMem s q a needX spFetch with
      | some d => some d
      | none => if inX then none else some (mkDenial q (tcodeOf s a) needX spFetch false a)
    | .pond off =>
      match pondOff s e (iWays s (e / 2)) off with
      | none => some (mkDenial q 0xFF needX spFetch false a)
      | some _ => if inX then none else some (mkDenial q 0xFF needX spFetch false a)
    | _ => some (mkDenial q 0xFF needX spFetch false a)

/-- Byte addresses of an instruction, modulo 2^32. -/
def insnAddrs (pc : Word) (len : Nat) : List Nat := (List.range len).map fun i => (pc + BitVec.ofNat 32 i).toNat

/-- Fetch what one byte address needs: the line of a cached region, the 16-byte block of an uncached one (R160, R322), the
Pond word (R333). `prev` is the address fetched just before. -/
def fetchOne (e : Nat) (prev : Option Nat) (a : Nat) : EM Unit := do
  let s ← get
  if e ≥ 32 then pure ()
  else match placeOf a with
    | .outer =>
      match regionOf s a with
      | some r =>
        if regCached s r then
          if prev.map (· / 64) = some (a / 64) then pure ()
          else do
            let _ ← liftOuter e a fun s => l1iFetch s e (a / 64)
            modE e fun x => { x with fetchBlk := none }
        else
          if (eng s e).fetchBlk = some (a / 16) then pure ()
          else do
            modS fun s => chargeWait (charge s e 14 1) e
            modE e fun x => { x with fetchBlk := some (a / 16) }
            let s ← get
            match nchLine s (a / 64) with
            | none => outerFail e a .nchErr
            | some _ => pure ()
      | none => raise vFetch
    | .pond off =>
      match pondOff s e (iWays s (e / 2)) off with
      | some o => if pondIsBad s (e / 2) o then pondFatal e a else pure ()
      | none => raise vFetch
    | _ => raise vFetch

/-- Fetch a whole instruction: every byte is checked before any is fetched. -/
def fetchInsn (e : Nat) (pc : Word) (len : Nat) : EM Unit := do
  let s ← get
  match (insnAddrs pc len).findSome? (fetchDenied s e) with
  | some d => raise vFetch (some d)
  | none => do
    let _ ← (insnAddrs pc len).foldlM (fun prev a => do
      fetchOne e prev a
      pure (some a)) none

/-! ### Microcode (R216, R219, R222) -/

/-- The microaddress fetched for a ROM address: a patch match redirects it once LOCK is set (R222, R226). -/
def ucAddr (s : State) (a : Nat) : Nat :=
  if rb s Reg.idUpctl 0 then
    match (List.range 16).find? fun j => rb s (Reg.idUmatch + j) 31 && decide (rf s (Reg.idUmatch + j) 12 0 = a) with
    | some j => 0x2000 + rf s (Reg.idUmatch + j) 23 16
    | none => a
  else a

/-- The store error class of an engine's copy at a microaddress. -/
def ucError (s : State) (copy a : Nat) : Option Bool := Sparse.get none s.ucErr (copy * 16384 + a)

/-- Enter the microcode of an opcode: a corrected error counts, an uncorrectable one stops the sequencer (R219). -/
def ucEnter (e : Nat) (entry : Option Nat) : EM Unit := do
  match entry with
  | none => pure ()
  | some op => do
    let s ← get
    let a := ucAddr s (4 * op)
    match ucError s e a with
    | none => pure ()
    | some false => modS fun s => bump s Reg.idUerr 15 0 1
    | some true =>
      let rec' := { faultOf 0x07 (if e ≥ 32 then 3 else 1) with
        master := BitVec.ofNat 6 e, app := BitVec.ofNat 5 (recApp s e), grove := BitVec.ofNat 4 (recGrv e), discard := true,
        addr := BitVec.ofNat 32 a }
      let s := record s rec'
      set (if e ≥ 32 then wspFault s else s)
      fatal

/-! ### Issue -/

/-- Start one instruction: comparators on its address, fetch, microcode entry, cycles with folding (R140). PC then holds the
next address. -/
def startInsn (e : Nat) (i : Insn) : EM Unit := do
  let s0 ← get
  let x ← getE e
  let pc := x.pc
  let hits := cmpHits s0 e [0] pc.toNat
  applyHits e hits
  fetchInsn e pc i.len
  ucEnter e i.entry
  let folded := i.second && decide (x.foldAt = some pc) && hits.isEmpty
  modS fun s => charge s e (if folded then 0 else i.cyc) 0
  let next := pc + BitVec.ofNat 32 i.len
  let canFold := i.first && hits.isEmpty && !(decide (e < 32) && (grv s0 (e / 2)).stepping) &&
    decide (pc.toNat / 16 = next.toNat / 16)
  modE e fun x => { x with pc := next, foldAt := if canFold then some next else none }

/-- End an instruction: STAT.RPA clears, but where the instruction itself sets it. -/
def endInsn (e : Nat) (i : Insn) : EM Unit :=
  if i.keepRpa then pure () else modE e fun x => { x with stat := putBit x.stat stRPA false }

/-- Issue one instruction: its start, its work, its end. -/
def issue (e : Nat) (i : Insn) (body : EM Unit) : EM Unit := do
  startInsn e i
  body
  endInsn e i

/-- The checker of a Lockstep Grove follows the leader (R256). -/
def mirror (s : State) (e : Nat) : State :=
  if e < 32 && e % 2 = 0 && isLockstep s (e / 2) then putEng s (e + 1) { eng s e with term := (eng s (e + 1)).term }
  else s

/-- After one step of a single-stepped Grove it halts again (R480). -/
def stepDone (s : State) (e : Nat) : State :=
  if e < 32 && (grv s (e / 2)).stepping then
    putGrv s (e / 2) { grv s (e / 2) with stepping := false, halted := true }
  else s

/-- A due entry as `Engine.dueTrap` holds it: a vector, or 0x100 and more for a supervisor call of that number less 0x100;
with the cycles the entry adds (R165, R197: those of SVC are its own). -/
def dueEntry (v : Nat) : Entry × Nat := if v ≥ 0x100 then (.svc (v - 0x100), 0) else (.vec v, 8)

/-- The trap of the instruction that has just retired, at its boundary (R194): a halt leaves it due, a Weir stop discards
it. -/
def takeTrap (s : State) (e : Nat) : State :=
  let x := eng s e
  match x.dueTrap with
  | none => s
  | some v =>
    if e < 32 && tripped s (e / 2) then putEng s e { x with dueTrap := none }
    else if e < 32 && ((grv s (e / 2)).haltReq || (grv s (e / 2)).halted) then s
    else runEntry s e (dueEntry v).1 x.pc x.stat (dueEntry v).2

/-- The boundary after an instruction has retired. -/
def afterRetire (s : State) (e : Nat) : State :=
  let s := putEng s e { eng s e with inEntry := false }
  mirror (takeTrap (stepDone s e) e) e

/-- A fault: nothing of the instruction is kept, its denial is logged, and the exception is entered with the saved PC at the
instruction (R147, R192). -/
def takeFault (s : State) (e v : Nat) (d : Option Denial) (dbg : Sparse Word) : State :=
  let x := eng s e
  let s := logOpt { s with dbg := dbg } d
  let s := putEng s e { x with foldAt := none }
  mirror (stepDone (runEntry s e (.vec v) x.pc x.stat 8) e) e

/-- The outcome of an instruction's work on the state before it. -/
def finish (s : State) (e : Nat) : Except Stop (Unit × State) → State
  | .ok (_, s1) => afterRetire s1 e
  | .error (.fault v d dbg) => takeFault s e v d dbg
  | .error (.fatal s1) => mirror (fatalAt s1 e) e
  | .error (.halt dbg) => haltBefore s e dbg
  | .error (.wait s1) => { s with pwr := s1.pwr }

/-- Run one instruction of an engine: nothing happens when the engine cannot issue it now (log 13). A trap still due is
taken in its place (R194). -/
def runInsn (e : Nat) (i : Insn) (body : EM Unit) (s : State) : State :=
  if canIssue s e then
    (if (eng s e).dueTrap.isNone then finish s e ((issue e i body).run s) else mirror (takeTrap s e) e)
  else s

/-- A trap due when the instruction has retired. -/
def trapIf (e : Nat) (b : Bool) (v : Nat) : EM Unit := if b then modE e fun x => { x with dueTrap := some v } else pure ()

/-- Write the flags of a result (R120, R148). -/
def writeF (e : Nat) (f : Flagged) : EM Unit := modE e fun x => { x with stat := putFlags x.stat f }

/-- The Overflow trap where an instruction lists it (R152), BCD Format (R156, R157), Divide before Overflow (R155). -/
def trapOv (e : Nat) (f : Flagged) : EM Unit := do
  let x ← getE e
  trapIf e (decide (f.v = some true) && bit x.trapen 0) vOvf
def trapBf (e : Nat) (f : Flagged) : EM Unit := do
  let x ← getE e
  trapIf e (f.bf && bit x.trapen 2) vBcd
def trapDiv (e : Nat) (f : Flagged) : EM Unit := do
  let x ← getE e
  if f.dz && bit x.trapen 1 then trapIf e true vDiv else trapOv e f

/-! ### Control transfers and trace (R163, R487) -/

/-- A taken control transfer emits a trace record: the FIFO holds 8, further records are dropped and counted. -/
def traceRec (s : State) (e : Nat) (at' dst : Word) : State :=
  let c := dbgRd s 0x030
  if bit c 4 && decide (e < 32) && decide (fld c 3 0 = e / 2) && !(isLockstep s (e / 2) && decide (e % 2 = 1)) then
    if s.dbgSt.trace.length ≥ 8 then
      let w := dbgRd s 0x034
      dbgWr s 0x034 (putFld w 15 0 (satAdd 0xFFFF (fld w 15 0) 1))
    else { s with dbgSt := { s.dbgSt with trace := s.dbgSt.trace ++ [(at', dst)] } }
  else s

/-- Transfer control to `to` from the instruction of `len` bytes that PC has just passed; nothing folds across it. -/
def jump (e len : Nat) (dst : Word) : EM Unit := do
  let x ← getE e
  modS fun s => traceRec s e (x.pc - BitVec.ofNat 32 len) dst
  modE e fun x => { x with pc := dst, foldAt := none }

/-- Extra cycles of a taken transfer. -/
def extra (e cyc : Nat) : EM Unit := modS fun s => charge s e cyc 0

end Sys2Proof.Machine
end

