-- ==== Sys2Proof/Machine/Bits.lean ====
section
/-! DEFINITION. B-space: windows, system status bits, the decision at a segment, and the read and the indivisible update of
bits by an engine (R89, R90, R170 to R173, R383, R384). -/

namespace Sys2Proof.Machine

/-- The part of an outlet side that an access reaches (R87): the whole side, or the leader's or checker's half of a Diverse
Application. -/
inductive OutPart where
  | whole | leader | checker
deriving DecidableEq, Repr

/-- A resolved bit: a segment of an Application (0 inlet, 1 outlet, 2 marker) with its tarn word and bit, or a system
status bit. -/
inductive BPlace where
  | seg (k t w i : Nat)
  | status (n : Nat)
deriving DecidableEq, Repr

/-- Bit offset within a window of `len` words at `base` words from `start`, if `b` lies in it. -/
def inWindow (b start base len : Nat) : Option Nat :=
  let lo := start + base * 32
  if lo ≤ b ∧ b < lo + len * 32 then some (b - lo) else none

/-- Tarn of the side that Application `a` holds, given the segment's tarn register and the side register (R88). -/
def heldSide (s : State) (tReg sideReg a : Nat) : Nat :=
  if rb s sideReg a then rf s (tReg + a) 11 6 else rf s (tReg + a) 5 0

/-- Resolve a bit address through the windows of Application `a` (R89, R90). -/
def bitPlace (s : State) (a : Nat) (part : OutPart) (b : Nat) : Option BPlace :=
  if b < 0x400000 then
    (inWindow b 0 (rf s (Reg.imgInt + a) 31 15) (rf s (Reg.imgInl + a) 31 16)).map fun o =>
      .seg 0 (heldSide s Reg.imgInt Reg.imgIside a) (rf s (Reg.imgInl + a) 14 0 + o / 32) (o % 32)
  else if b < 0x800000 then
    let len := rf s (Reg.imgOutl + a) 31 16
    let (len, skip) := match part with
      | .whole => (len, 0) | .leader => (len / 2, 0) | .checker => (len / 2, len / 2)
    (inWindow b 0x400000 (rf s (Reg.imgOutt + a) 31 15) len).map fun o =>
      .seg 1 (heldSide s Reg.imgOutt Reg.imgOside a) (rf s (Reg.imgOutl + a) 14 0 + skip + o / 32) (o % 32)
  else if b < 0xF00000 then
    (inWindow b 0x800000 (rf s (Reg.imgMrkt + a) 31 14) (rf s (Reg.imgMrkl + a) 31 16)).map fun o =>
      .seg 2 (rf s (Reg.imgMrkt + a) 5 0) (rf s (Reg.imgMrkl + a) 14 0 + o / 32) (o % 32)
  else some (.status (b - 0xF00000))

/-- Target code of a resolved bit (R383). -/
def bitTcode (a : Nat) : BPlace → Nat
  | .seg k _ _ _ => 0x61 + 3 * a + k
  | .status _ => 0xC1

/-- A system status bit of an Application, as sampled at its step 6 (R90). -/
def statusBit (s : State) (a n : Nat) : Bool :=
  if n = 1 then true else if 2 ≤ n ∧ n < 8 then (app s a).status.getLsbD n else false

/-- The part of the outlet that an engine's accesses reach. -/
def engPart (s : State) (e : Nat) : OutPart :=
  if e < 32 && isDiverse s (e / 2) then (if e % 2 = 0 then .leader else .checker) else .whole

/-- Does an engine hold this bit inverted (R173)? -/
def bitInverted (s : State) (e : Nat) : BPlace → Bool
  | .seg k _ _ _ => decide (e < 32) && isDiverse s (e / 2) && decide (e % 2 = 1) && decide (k ≠ 0)
  | .status _ => false

/-- The decision on a B-space access of an engine: at its segment only; writes to the status range are denied (R90, R170,
R383, R384). -/
def bitCheck (s : State) (e b need : Nat) : Except Denial (Nat × BPlace) :=
  let q := engReq s e
  match engApp s e with
  | none => .error (mkDenial q 0xFF need spBit false b)
  | some a =>
    match bitPlace s a (engPart s e) b with
    | none => .error (mkDenial q 0xFF need spBit false b)
    | some p =>
      let dead := match p with | .seg _ t _ _ => tarnDead s t | .status _ => hasBits need needB
      if dead || !granted s (bitTcode a p) q need then .error (mkDenial q (bitTcode a p) need spBit false b)
      else .ok (a, p)

/-- Bits [23:0] of an address name a bit (R132). -/
def bitAddr (a : Word) : Nat := a.toNat % 2 ^ 24

/-- Check a bit for an access, or raise Data Access. -/
def bitNeed (e b need : Nat) : EM (Nat × BPlace) := do
  let s ← get
  match bitCheck s e b need with
  | .error d => raise vData (some d)
  | .ok r => pure r

/-- Read a checked bit as the engine sees it (R172, R173). -/
def bitRead (e : Nat) (p : Nat × BPlace) : EM Bool := do
  match p.2 with
  | .status n => do
    modS fun s => charge s e 3 1
    let s ← get
    pure (statusBit s p.1 n)
  | .seg k t w i => do
    needTarn t
    modS fun s => chargeWait (charge s e 3 1) e
    let s ← get
    match readTarn s t w (engReq s e).master with
    | (s, some v) => do
      set s
      pure (bit v i ^^ bitInverted s e (.seg k t w i))
    | (s, none) => do
      set s
      tarnFail e t

/-- Update a checked bit in one indivisible read-modify-write of its word; the old value as the engine sees it (R171). -/
def bitUpdate (e : Nat) (p : Nat × BPlace) (f : Bool → Bool) : EM Bool := do
  match p.2 with
  | .status _ => raise vData
  | .seg k t w i => do
    needTarn t
    modS fun s => chargeWait (charge s e 3 1) e
    let s ← get
    match readTarn s t w (engReq s e).master with
    | (s, none) => do
      set s
      tarnFail e t
    | (s, some v) => do
      let inv := bitInverted s e (.seg k t w i)
      let old := bit v i ^^ inv
      let m := if (bufIndex s t w).isSome then BitVec.ofNat 32 (1 <<< i) else BitVec.allOnes 32
      match writeTarn s t w (engReq s e).master m (putBit v i (f old ^^ inv)) with
      | (s, some _) => do
        set s
        pure old
      | (s, none) => do
        set s
        tarnFail e t

/-- One checked bit read, write and read-modify-write. -/
def bRead (e : Nat) (a : Word) : EM Bool := do bitRead e (← bitNeed e (bitAddr a) needR)
def bWrite (e : Nat) (a : Word) (v : Bool) : EM Unit := do
  let _ ← bitUpdate e (← bitNeed e (bitAddr a) needB) fun _ => v
def bModify (e : Nat) (a : Word) (f : Bool → Bool) : EM Bool := do
  bitUpdate e (← bitNeed e (bitAddr a) (needR + needB)) f

/-- Are two places in one window? -/
def sameWindow : BPlace → BPlace → Bool
  | .seg k _ _ _, .seg j _ _ _ => decide (k = j)
  | .status _, .status _ => true
  | _, _ => false

/-- The 32 bits from an address, all in one window and granted, or Data Access (R174). -/
def bitSpan (e : Nat) (a : Word) (need : Nat) : EM (List (Nat × BPlace)) := do
  let p0 ← bitNeed e (bitAddr a) need
  let ps ← (List.range 32).foldlM (fun acc i => do
    let p ← bitNeed e (bitAddr a + i) need
    pure (acc ++ [p])) []
  if ps.all fun p => sameWindow p0.2 p.2 then pure ps
  else do
    let s ← get
    raise vData (some (mkDenial (engReq s e) 0xFF need spBit false (bitAddr a)))

/-- Group the bits of a span by tarn word: the bit index in the cell with its place. -/
def spanWords (ps : List (Nat × BPlace)) : List (Nat × Nat × List (Nat × Nat)) :=
  let step (acc : List (Nat × Nat × List (Nat × Nat))) (x : Nat × BPlace) : List (Nat × Nat × List (Nat × Nat)) :=
    match x.2 with
    | .seg _ t w i =>
      match acc with
      | (t', w', bs) :: r => if t' = t ∧ w' = w then (t, w, bs ++ [(x.1, i)]) :: r else (t, w, [(x.1, i)]) :: acc
      | [] => [(t, w, [(x.1, i)])]
    | .status _ => acc
  ((ps.zipIdx.map fun (p, j) => (j, p.2)).foldl step []).reverse

/-- BRDW: one read per tarn word (R172, R174). -/
def bitSpanRead (e : Nat) (ps : List (Nat × BPlace)) : EM Word := do
  match ps with
  | (a, .status _) :: _ => do
    modS fun s => charge s e 3 1
    let s ← get
    pure (BitVec.ofNat 32 (ofBits (ps.map fun p => match p.2 with | .status n => statusBit s a n | _ => false)))
  | p0 :: _ =>
    (spanWords ps).foldlM (fun acc (t, w, bs) => do
      needTarn t
      modS fun s => chargeWait (charge s e 3 1) e
      let s ← get
      match readTarn s t w (engReq s e).master with
      | (s, none) => do
        set s
        tarnFail e t
      | (s, some v) => do
        set s
        let inv := bitInverted s e p0.2
        pure (bs.foldl (fun acc (j, i) => putBit acc j (bit v i ^^ inv)) acc)) 0#32
  | [] => pure 0

/-- BWRW: one indivisible write per tarn word (R174). -/
def bitSpanWrite (e : Nat) (ps : List (Nat × BPlace)) (x : Word) : EM Unit := do
  match ps with
  | p0 :: _ =>
    (spanWords ps).foldlM (fun _ (t, w, bs) => do
      needTarn t
      modS fun s => chargeWait (charge s e 3 1) e
      let s ← get
      let inv := bitInverted s e p0.2
      let m := bs.foldl (fun acc (_, i) => putBit acc i true) 0#32
      let v := bs.foldl (fun acc (j, i) => putBit acc i (bit x j ^^ inv)) 0#32
      match writeTarn s t w (engReq s e).master m v with
      | (s, some _) => set s
      | (s, none) => do
        set s
        tarnFail e t) ()
  | [] => pure ()

end Sys2Proof.Machine
end

