-- ==== Sys2Proof/Machine/Cvu.lean ====
section
/-! DEFINITION. Check-value units: general units with their queue and feeder (R371 to R377, R382), vital channels (R378 to
R381), and reads by hardware masters. -/

namespace Sys2Proof.Machine

/-! ### Reads by hardware masters -/

/-- A hardware master's request (R19). -/
def hwReq (m : Nat) : Req := ⟨m, true, true⟩

/-- Words of a tarn read by master `m`, granted already; none at the first uncorrectable word, which has been logged. -/
def readWords (s : State) (t w m : Nat) : Nat → State × Option (List Word)
  | 0 => (s, some [])
  | n + 1 =>
    match readTarn s t w m with
    | (s, none) => (s, none)
    | (s, some v) =>
      match readWords s t (w + 1) m n with
      | (s, some r) => (s, some (v :: r))
      | (s, none) => (s, none)

/-- Words of a tarn read by a hardware master after its check, which logs a denial (R22, R518). -/
def hwRead (s : State) (m t w n : Nat) : State × Option (List Word) :=
  match checkMem s (hwReq m) (tarnAddr t w) needR spData with
  | some d => (logDenial s d, none)
  | none => readWords s t w m n

/-- Bytes read by the feeder at the level of `q`, at most up to the next 64-byte boundary: none for a denial, an
uncorrectable word or an error response (R376). -/
def feedRead (s : State) (q : Req) (a n : Nat) : State × Option (List Byte) :=
  match checkMem s q a needR spData with
  | some d => (logDenial s d, none)
  | none =>
    match placeOf a with
    | .tarn t w =>
      match readWords s t w q.master ((a % 4 + n + 3) / 4) with
      | (s, some ws) => (s, some (((wordsBytes ws).drop (a % 4)).take n))
      | (s, none) => (s, none)
    | .outer =>
      match regionOf s a with
      | none => (s, none)
      | some r =>
        let got := if regCached s r then lakeRead s q.master (a / 64)
          else (s, match nchLine s (a / 64) with | some d => .ok d | none => .error .nchErr)
        match got with
        | (s, .ok d) => (s, some ((List.range n).map fun i => lineByte d (a % 64 + i)))
        | (s, .error _) => (s, none)
    | _ => (s, none)

/-- A range lies within one tarn or one outer-memory region (R375, R380). -/
def oneTarget (s : State) (a n : Nat) : Bool :=
  match placeOf a with
  | .tarn t _ => decide (a + n ≤ tarnAddr t 0 + 0x20000)
  | .outer =>
    match regionOf s a with
    | some r => decide ((a + n - 1) / 4096 ≤ rf s (Reg.actRlim + 2 * r) 30 12)
    | none => false
  | _ => false

/-! ### Parameters (R371, R382) -/

/-- The seven words of a programmable set. -/
def setWords (s : State) (k : Nat) : List Word := (List.range 7).map fun i => rd s (Reg.cvuPcfg + 8 * k + i)

/-- A set's parameters from its words. -/
def setParam (ws : List Word) : CrcParam :=
  let d (i : Nat) : Nat := (dbl (nth ws i) (nth ws (i + 1))).toNat
  ⟨fld (nth ws 0) 5 0 + 1, d 1, d 3, bit (nth ws 0) 6, bit (nth ws 0) 7, d 5⟩

/-- Parameters of a polynomial code. -/
def polyParam (code : Nat) (ws : List Word) : CrcParam :=
  if code = 0 then crc32Param else if code = 1 then crc32cParam else if code = 2 then crc16Param
  else if code = 3 then crc64Param else setParam ws

/-! ### General units -/

def cvuU (s : State) (u : Nat) : CvuUnit := Sparse.get State.cvuReset s.cvu u
def putCvu (s : State) (u : Nat) (x : CvuUnit) : State := { s with cvu := Sparse.set State.cvuReset s.cvu u x }
def gReg (base u : Nat) : Nat := base + 16 * u
def gCode (s : State) (u : Nat) : Nat := rf s (gReg Reg.cvuGcfg u) 2 0
/-- Parameters in use: those latched at INIT, or of a programmable set as it stands (R377, R382). -/
def gParam (s : State) (u : Nat) : CrcParam :=
  let l := (cvuU s u).set
  polyParam (gCode s u) (if l.isEmpty then setWords s (gCode s u - 4) else l)
/-- The running value; bits above the width read 0 (R372). -/
def gRun (s : State) (u : Nat) : Nat := (dbl (rd s (gReg Reg.cvuGrunl u)) (rd s (gReg Reg.cvuGrunh u))).toNat % 2 ^ (gParam s u).width
def putGRun (s : State) (u n : Nat) : State :=
  let d := BitVec.ofNat 64 n
  wr (wr s (gReg Reg.cvuGrunl u) (lo32 d)) (gReg Reg.cvuGrunh u) (hi32 d)
/-- 1 while an entry runs or waits. -/
def gBusy (s : State) (u : Nat) : Bool := (cvuU s u).going || !(cvuU s u).queue.isEmpty

/-- INIT (R372): parameters and fold word are latched, STOPPED clears (R373). -/
def cvuInit (s : State) (u : Nat) : State :=
  let code := gCode s u
  let s := putCvu s u { cvuU s u with set := if code ≥ 4 then setWords s (code - 4) else [] }
  let p := gParam s u
  let r := p.init % 2 ^ p.width
  let r := if rb s (gReg Reg.cvuGcfg u) 3 then crcFeed p r (wordBytes (rd s (gReg Reg.cvuGfold u))) else r
  sb (putGRun s u r) (gReg Reg.cvuGstat u) 6 false

/-- Feed bytes. -/
def cvuFeed (s : State) (u : Nat) (bs : List Byte) : State := putGRun s u (crcFeed (gParam s u) (gRun s u) bs)

/-- FIN (R374). -/
def cvuFin (s : State) (u : Nat) : State :=
  let d := BitVec.ofNat 64 (crcFin (gParam s u) (gRun s u))
  let s := wr (wr s (gReg Reg.cvuGresl u) (lo32 d)) (gReg Reg.cvuGresh u) (hi32 d)
  let s := sb s (gReg Reg.cvuGstat u) 1 true
  let e := BitVec.ofNat 64 ((dbl (rd s (gReg Reg.cvuGexpl u)) (rd s (gReg Reg.cvuGexph u))).toNat % 2 ^ (gParam s u).width)
  let c := rd s (gReg Reg.cvuGcfg u)
  if bit c 4 && decide (d ≠ e) then
    let s := sb s (gReg Reg.cvuGstat u) 2 true
    if bit c 5 then ringSource s (fld c 13 6) else s
  else s

/-- The request of a unit's feeder (R19, R373). -/
def gReq (s : State) (u : Nat) : Req := ⟨47, (cvuU s u).wv, (cvuU s u).ws⟩

/-- Why a GO is refused (R375): 1 for the range, 2 for the grant. -/
def goRefused (s : State) (q : Req) (a n : Nat) : Option Nat :=
  if !oneTarget s a n then some 1 else if (checkMem s q a needR spData).isSome then some 2 else none

/-- GO at the head of the queue: completes at once, is refused and discards what is behind it, or starts a job. -/
def cvuGo (s : State) (u : Nat) : State × Bool :=
  let a := (rd s (gReg Reg.cvuGaddr u)).toNat
  let n := (rd s (gReg Reg.cvuGlen u)).toNat
  if n = 0 then (s, true)
  else
    match goRefused s (gReq s u) a n with
    | some c => (wf (sb s (gReg Reg.cvuGstat u) 3 true) (gReg Reg.cvuGstat u) 10 8 c, false)
    | none => (sb (putCvu s u { cvuU s u with going := true }) (gReg Reg.cvuGstat u) 6 false, true)

/-- Run entries in order; behind a running job they wait in the queue, and behind a refused GO they are discarded. -/
def cvuRun (s : State) (u : Nat) : List CvuCmd → State
  | [] => s
  | c :: r =>
    if (cvuU s u).going then putCvu s u { cvuU s u with queue := (cvuU s u).queue ++ (c :: r) }
    else
      match c with
      | .init => cvuRun (cvuInit s u) u r
      | .fin => cvuRun (cvuFin s u) u r
      | .feed n v => cvuRun (cvuFeed s u ((wordBytes v).take n)) u r
      | .go =>
        match cvuGo s u with
        | (s, true) => cvuRun s u r
        | (s, false) => s

/-- Entries written to a unit: none where the queue cannot take them and the write is held (R374). -/
def cvuPush (s : State) (u : Nat) (cs : List CvuCmd) : Option State :=
  let x := cvuU s u
  if x.going then
    if x.queue.length + cs.length ≤ 4 then some (putCvu s u { x with queue := x.queue ++ cs }) else none
  else some (cvuRun s u cs)

/-- STOP (R376): the queue is emptied at the chunk boundary. -/
def cvuStop (s : State) (u : Nat) : State :=
  if gBusy s u then sb (putCvu s u { cvuU s u with queue := [], going := false }) (gReg Reg.cvuGstat u) 6 true else s

/-- The master is an engine of a halted Grove. -/
def masterHalted (s : State) (m : Nat) : Bool := decide (m < 32) && (grv s (m / 2)).halted

/-- One chunk of a feeder job (R376). -/
def feederChunk (s : State) (u : Nat) : State :=
  let x := cvuU s u
  if !x.going || decide (s.dev = .halted) || masterHalted s x.wm then s
  else
    let a := (rd s (gReg Reg.cvuGaddr u)).toNat
    let len := (rd s (gReg Reg.cvuGlen u)).toNat
    let n := min len (64 - a % 64)
    match feedRead s (gReq s u) a n with
    | (s, none) =>
      let s := sb (sb (putCvu s u { cvuU s u with queue := [], going := false }) (gReg Reg.cvuGstat u) 6 true) (gReg Reg.cvuGstat u) 5 true
      record s { faultOf 0x08 1 with master := 47#6, addr := BitVec.ofNat 32 a }
    | (s, some bs) =>
      let s := cvuFeed s u bs
      let s := wr (wr s (gReg Reg.cvuGaddr u) (BitVec.ofNat 32 (a + n))) (gReg Reg.cvuGlen u) (BitVec.ofNat 32 (len - n))
      if len = n then
        let q := (cvuU s u).queue
        cvuRun (putCvu s u { cvuU s u with queue := [], going := false }) u q
      else s

/-! ### Vital channels -/

def vReg (base c : Nat) : Nat := base + 16 * c
def vJob (s : State) (c : Nat) : Option VJob := Sparse.get none s.vjob c
def putVJob (s : State) (c : Nat) (j : Option VJob) : State :=
  sb { s with vjob := Sparse.set none s.vjob c j } (vReg Reg.cvuVstat c) 0 j.isSome
/-- Parameters of channel `c`'s unit (R381). -/
def vParam (s : State) (c : Nat) : CrcParam :=
  polyParam (if c < 8 then rf s Reg.cvuVcfg 2 0 else rf s Reg.cvuVcfg 5 3) []

/-- A value over a fold word and bytes: the running value at the end and the result. -/
def vCheck (s : State) (c : Nat) (fold : Word) (bs : List Byte) : Nat × Dbl :=
  let p := vParam s c
  let r := crcFeed p (crcFeed p (p.init % 2 ^ p.width) (wordBytes fold)) bs
  (r, BitVec.ofNat 64 (crcFin p r))

def putVRun (s : State) (c n : Nat) : State :=
  let d := BitVec.ofNat 64 n
  wr (wr s (vReg Reg.cvuVrunl c) (lo32 d)) (vReg Reg.cvuVrunh c) (hi32 d)

/-- JOB and APP of a hardware job (R378). -/
def noteJob (s : State) (c job a : Nat) : State := wf (wf s (vReg Reg.cvuVstat c) 7 5 job) (vReg Reg.cvuVstat c) 12 8 a

/-- A hardware job over words read by master 34 (R379): none where a read failed, which FLT has recorded. -/
def hwJob (s : State) (c job a : Nat) (fold : Word) (t w n : Nat) : State × Option Dbl :=
  let s := noteJob s c job a
  match hwRead s 34 t w n with
  | (s, none) =>
    (record s { faultOf 0x08 1 with master := 34#6, app := BitVec.ofNat 5 a, discard := true,
                                    addr := BitVec.ofNat 32 (tarnAddr t w) }, none)
  | (s, some ws) =>
    let (r, v) := vCheck s c fold (wordsBytes ws)
    (putVRun s c r, some v)

/-- Why a software GO is refused (R380). -/
def vgoRefused (s : State) (q : Req) (c : Nat) (vitalGlade : Bool) : Option Nat :=
  let a := (rd s (vReg Reg.cvuVaddr c)).toNat
  let n := rf s (vReg Reg.cvuVlen c) 12 0
  if !oneTarget s a n then some 1
  else if (checkMem s (hwReq 47) a needR spData).isSome then some 2
  else if n = 0 ∨ n > 4096 then some 3
  else if !(vitalGlade || (decide (q.master = 32) && !rb s Reg.schedCtl 0)) then some 4
  else if (vJob s c).isSome then some 5
  else none

/-- A GO of a software job. -/
def vGo (s : State) (q : Req) (c : Nat) (vitalGlade : Bool) : State :=
  match vgoRefused s q c vitalGlade with
  | some k => wf (sb s (vReg Reg.cvuVstat c) 3 true) (vReg Reg.cvuVstat c) 15 13 k
  | none => wf (putVJob s c (some (.soft q.master))) (vReg Reg.cvuVstat c) 7 5 5

/-- A software job reads its range in chunks. -/
def vReadAll (s : State) (a : Nat) : Nat → Nat → State × Option (List Byte)
  | 0, _ => (s, some [])
  | f + 1, n =>
    if n = 0 then (s, some [])
    else
      let k := min n (64 - a % 64)
      match feedRead s (hwReq 47) a k with
      | (s, none) => (s, none)
      | (s, some bs) =>
        match vReadAll s (a + k) f (n - k) with
        | (s, some r) => (s, some (bs ++ r))
        | (s, none) => (s, none)

/-- A software job completes (R380). One whose read fails is recorded and abandoned (DESIGN CHOICE, log 17). -/
def vDone (s : State) (c : Nat) : State :=
  match vJob s c with
  | some (.soft m) =>
    if masterHalted s m then s
    else
      let a := (rd s (vReg Reg.cvuVaddr c)).toNat
      match vReadAll s a 66 (rf s (vReg Reg.cvuVlen c) 12 0) with
      | (s, none) =>
        record (sb (putVJob s c none) (vReg Reg.cvuVstat c) 4 true) { faultOf 0x08 1 with master := 47#6, addr := BitVec.ofNat 32 a }
      | (s, some bs) =>
        let (r, v) := vCheck s c (rd s (vReg Reg.cvuVfold c)) bs
        let s := putVRun (putVJob s c none) c r
        let s := wr (wr s (vReg Reg.cvuVresl c) (lo32 v)) (vReg Reg.cvuVresh c) (hi32 v)
        let s := sb s (vReg Reg.cvuVstat c) 1 true
        let src := rd s (vReg Reg.cvuVsrc c)
        if bit src 9 && decide (v ≠ BitVec.ofNat 64 ((dbl (rd s (vReg Reg.cvuVexpl c)) (rd s (vReg Reg.cvuVexph c))).toNat % 2 ^ (vParam s c).width)) then
          let s := sb s (vReg Reg.cvuVstat c) 2 true
          if bit src 8 then ringSource s (fld src 7 0) else s
        else s
  | _ => s

/-- FEEDER_CHUNK (R376). -/
def execFeederChunk (u : Grv) (s : State) : Host.Outcome State Fault Refusal := .next (feederChunk s u.val)
/-- SOFTWARE_JOB_DONE (R380). -/
def execSoftwareJobDone (c : Grv) (s : State) : Host.Outcome State Fault Refusal := .next (vDone s c.val)

end Sys2Proof.Machine
end

