-- ==== Sys2Proof/Machine/Sched.lean ====
section
/-! DEFINITION. The Glade scheduler: banks, Glade entries, validation (R49 to R60), Glade starts (R65, R66, R124, R204), Weir
trips and stops (R70, R71), SCHED_DONE (R67), commits and overruns (R75 to R78, R406). -/

namespace Sys2Proof.Machine

/-! ### Banks and tables -/

def schedOn (s : State) : Bool := rb s Reg.schedCtl 0
def wBank (s : State) : Bool := rb s Reg.schedCtl 1
def aBank (s : State) : Bool := rb s Reg.schedCtl 2
def swapPend (s : State) : Bool := rb s Reg.schedCtl 4

/-- The bank in force (R520). -/
def bankNow (s : State) : Option Bool := if schedOn s then some (aBank s) else none

/-- SCHED_APPn of a bank and its fields (R54). -/
def appW (s : State) (b : Bool) (n : Nat) : Word := rd s (bankKey b (Reg.schedApp + n))
def appEn (s : State) (b : Bool) (n : Nat) : Bool := bit (appW s b n) 0
def appVital (s : State) (b : Bool) (n : Nat) : Bool := bit (appW s b n) 1
def appPer (s : State) (b : Bool) (n : Nat) : Nat := 2 ^ fld (appW s b n) 4 2
def appNstg (s : State) (b : Bool) (n : Nat) : Nat := fld (appW s b n) 6 5
def appOvrSafe (s : State) (b : Bool) (n : Nat) : Nat := fld (appW s b n) 9 7
def appCvch (s : State) (b : Bool) (n : Nat) : Nat := fld (appW s b n) 13 10

/-- Defined in either bank, and enabled in the bank in force. -/
def appEither (s : State) (n : Nat) : Bool := appEn s false n || appEn s true n
def appOn (s : State) (n : Nat) : Bool := match bankNow s with | some b => appEn s b n | none => false

/-- A Glade entry (R57). -/
structure GEnt where
  m      : Nat
  valid  : Bool
  off    : Nat
  phase  : Nat
  len    : Nat
  stage  : Nat
  l1clr  : Bool
  cyc    : Nat
  beat   : Nat
  seed   : Word
  groves : Nat
  app    : Nat
deriving DecidableEq, Repr

/-- Word `i` of entry `m` of a bank. -/
def gWord (s : State) (b : Bool) (m i : Nat) : Word := rd s (bankKey b (Reg.schedGoff + 8 * m + i))
def gEnt (s : State) (b : Bool) (m : Nat) : GEnt :=
  let w0 := gWord s b m 0
  let w1 := gWord s b m 1
  let w5 := gWord s b m 5
  { m := m, valid := bit w0 31, off := fld w0 23 0, phase := fld w0 30 24, len := fld w1 23 0, stage := fld w1 25 24,
    l1clr := bit w1 26, cyc := fld (gWord s b m 2) 23 0, beat := fld (gWord s b m 3) 19 0, seed := gWord s b m 4,
    groves := fld w5 15 0, app := fld w5 20 16 }

/-- The valid entries of a bank in ascending order. -/
def gEnts (s : State) (b : Bool) : List GEnt := ((List.range 64).map (gEnt s b)).filter (·.valid)

/-- Groves that an entry names. -/
def groveList (mask : Nat) : List Nat := (List.range 16).filter fun g => mask.testBit g
def namesGrove (e : GEnt) (g : Nat) : Bool := e.groves.testBit g

/-- A valid entry of the bank in force names the Grove (R252, R261). -/
def groveInForce (s : State) (g : Nat) : Bool :=
  match bankNow s with | some b => (gEnts s b).any (namesGrove · g) | none => false

/-! ### Time of cycles (R48) -/

def mcycNs (s : State) : Nat := rf s Reg.schedMcyc 19 0 * 1000
def epoch (s : State) : Nat := (dbl (rd s Reg.schedEpochl) (rd s Reg.schedEpochh)).toNat
def cycNow (s : State) : Nat := (dbl (rd s Reg.schedCycl) (rd s Reg.schedCych)).toNat
/-- The cycle in which the present time lies, none before the epoch. -/
def cycAt (s : State) : Option Nat :=
  if s.tb.now.toNat < epoch s ∨ mcycNs s = 0 then none else some ((s.tb.now.toNat - epoch s) / mcycNs s)
/-- The lowest cycle number whose boundary is still to come. -/
def nextCyc (s : State) : Nat := match cycAt s with | none => 0 | some n => n + 1
def cycStart (s : State) (n : Nat) : Nat := epoch s + n * mcycNs s
/-- Start and end of an entry's window in the current cycle. -/
def winStart (s : State) (e : GEnt) : Nat := cycStart s (cycNow s) + e.off * 10
def winEnd (s : State) (e : GEnt) : Nat := cycStart s (cycNow s) + (e.off + e.len) * 10

/-! ### Code slot headers (R233, R234) -/

/-- Words read from outer memory by SCHED, which presents master 32 (DEDUCED, log 16): none for a denial or an error. -/
def readOuterN (s : State) (a : Nat) : Nat → State × Option (List Word)
  | 0 => (s, some [])
  | n + 1 =>
    match checkMem s ⟨32, true, true⟩ a needR spData with
    | some d => (logDenial s d, none)
    | none =>
      match regionOf s a with
      | none => (s, none)
      | some r =>
        match outerRead s 32 r a 4 with
        | (s, .error _) => (s, none)
        | (s, .ok bs) =>
          match readOuterN s (a + 4) n with
          | (s, some ws) => (s, some (bytesWord (bs.getD 0 0) (bs.getD 1 0) (bs.getD 2 0) (bs.getD 3 0) :: ws))
          | (s, none) => (s, none)

def slotReg (slotB : Bool) (n : Nat) : Nat := if slotB then Reg.schedSlotb + n else Reg.schedSlota + n
def slotBase (s : State) (n : Nat) (slotB : Bool) : Nat := rf s (slotReg slotB n) 31 6 * 64
def activeB (s : State) (n : Nat) : Bool := rb s Reg.schedAslot n
def slotMagic : Word := 0x544F4C53#32
def hdrProgid (h : List Word) : Word := nth h 1
def hdrNstg (h : List Word) : Nat := fld (nth h 2) 7 0
def hdrDiv (h : List Word) : Bool := bit (nth h 2) 8
def hdrCodeLen (h : List Word) : Nat := (nth h 3).toNat
def hdrCodeCrc (h : List Word) : Word := nth h 4
def hdrMask (h : List Word) : Nat := (nth h 5).toNat + (nth h 6).toNat * 2 ^ 32
/-- Word `i` of the entry record of a stage and image. -/
def hdrEntry (h : List Word) (stage image i : Nat) : Word := nth h (8 + 12 * stage + 6 * image + i)
def shadowOf (s : State) (n : Nat) : List Word := Sparse.get [] s.shadow n

/-- Load the entry shadows of Applications from their active slots: the first whose header cannot be read or has a wrong MAGIC
fails (check 0xA of R58). -/
def loadShadows (s : State) : List Nat → State × Option Nat
  | [] => (s, none)
  | n :: r =>
    match readOuterN s (slotBase s n (activeB s n)) 64 with
    | (s, none) => (s, some n)
    | (s, some h) =>
      if nth h 0 = slotMagic then loadShadows { s with shadow := Sparse.set [] s.shadow n h } r else (s, some n)

/-! ### Validation (R58) -/

/-- A failed check: code, entry index, Application. -/
structure CfgErr where
  code : Nat
  idx  : Nat
  app  : Nat
deriving DecidableEq, Repr

def cfgErr (code : Nat) (e : GEnt) : CfgErr := ⟨code, e.m, e.app⟩

/-- First entry that fails a check. -/
def firstBad (code : Nat) (es : List GEnt) (bad : GEnt → Bool) : Option CfgErr := (es.find? bad).map (cfgErr code)

/-- A Grove that a bank may not name for a world (check 0x7). -/
def groveUnfit (s : State) (vital : Bool) (g : Nat) : Bool :=
  grvSpare s g || grvFenced s g || decide (grvVital s g ≠ vital) || (vital && isSplit s g)

/-- Two entries that share a Grove and meet in time (check 0x8). -/
def entsClash (s : State) (b : Bool) (x y : GEnt) : Bool :=
  decide (x.m ≠ y.m) && decide (x.groves &&& y.groves ≠ 0) && decide (x.off < y.off + y.len ∧ y.off < x.off + x.len) &&
  decide (x.phase % min (appPer s b x.app) (appPer s b y.app) = y.phase % min (appPer s b x.app) (appPer s b y.app))

/-- Checks 0x1 to 0x8 in order. -/
def checkTables (s : State) (b : Bool) : Option CfgErr :=
  let es := gEnts s b
  let c1 := firstBad 1 es fun e => decide (e.off < rf s Reg.schedGap 15 0 ∨ e.off + e.len > rf s Reg.schedMcyc 19 0 * 100)
  let c2 := firstBad 2 es fun e => decide (e.phase ≥ appPer s b e.app)
  let c3 := firstBad 3 es fun e => !appEn s b e.app || decide (e.stage > appNstg s b e.app) ||
    es.any fun f => decide (f.m ≠ e.m ∧ f.app = e.app ∧ f.stage = e.stage)
  let c3b := ((List.range 32).find? fun n => appEn s b n &&
    (List.range (appNstg s b n + 1)).any fun t => !(es.any fun e => decide (e.app = n ∧ e.stage = t))).map fun n => CfgErr.mk 3 0 n
  let c4 := firstBad 4 es fun e => es.any fun f => decide (f.app = e.app ∧ f.m ≠ e.m ∧
    ((e.stage < f.stage ∧ ¬(e.phase < f.phase ∨ (e.phase = f.phase ∧ e.off < f.off))) ∨
     (f.stage < e.stage ∧ ¬(f.phase < e.phase ∨ (f.phase = e.phase ∧ f.off < e.off)))))
  let c5 := firstBad 5 es fun e => decide (e.groves = 0)
  let c6 := firstBad 6 es fun e => decide (e.cyc = 0)
  let c7 := firstBad 7 es fun e =>
    let gs := groveList e.groves
    gs.any (groveUnfit s (appVital s b e.app)) ||
    gs.any fun g => decide (grvModeF s g ≠ grvModeF s (gs.headD 0))
  let c8 := firstBad 8 es fun e => es.any (entsClash s b e)
  [c1, c2, c3, c3b, c4, c5, c6, c7, c8].findSome? id

/-- Check 0x9, for a swap only. -/
def checkSwap (s : State) : Option CfgErr :=
  let sw := (dbl (rd s Reg.schedSwapl) (rd s Reg.schedSwaph)).toNat
  let kmax := (List.range 32).foldl (fun k n =>
    let k := if appEn s false n then max k (appPer s false n) else k
    if appEn s true n then max k (appPer s true n) else k) 1
  if sw < cycNow s + 2 ∨ sw % kmax ≠ 0 then some ⟨9, 0, 0⟩ else none

/-- Applications whose shadows the validation of a bank loads (check 0xA). -/
def newlyEnabled (s : State) (b : Bool) : List Nat := (List.range 32).filter fun n => appEn s b n && !appOn s n

/-- Record the result of a validation in SCHED_STAT. -/
def putCfgErr (s : State) (e : Option CfgErr) : State :=
  let w := rd s Reg.schedStat
  match e with
  | none => wr s Reg.schedStat (putFld (putFld (putFld w 7 4 0) 13 8 0) 18 14 0)
  | some e => wr s Reg.schedStat (putFld (putFld (putFld w 7 4 e.code) 13 8 e.idx) 18 14 e.app)

/-- Validate a bank: shadows are loaded only if it passes. -/
def validate (s : State) (b swap : Bool) : State × Bool :=
  let pre := match checkTables s b with
    | some e => some e
    | none => if swap then checkSwap s else none
  match pre with
  | some e => (putCfgErr s (some e), false)
  | none =>
    match loadShadows s (newlyEnabled s b) with
    | (s1, none) => (putCfgErr s1 none, true)
    | (s1, some n) => (putCfgErr { s1 with shadow := s.shadow } (some ⟨0xA, 0, n⟩), false)

/-! ### Enabling, disabling, swapping (R49, R60, R520) -/

/-- Applications that a bank brings in start afresh (R83). -/
def startApps (s : State) (ns : List Nat) : State := ns.foldl (fun st n => putApp st n { State.appReset with discards := 0 }) s

/-- EN := 1 when the bank that WBANK names passes. -/
def schedEnable (s : State) : State :=
  let b := wBank s
  let ns := newlyEnabled s b
  match validate s b false with
  | (s, false) => s
  | (s, true) =>
    let s := startApps (sb (sb s Reg.schedCtl 0 true) Reg.schedCtl 2 b) ns
    { s with cutSince := false, bnd := { s.bnd with phase := .idle, next := BitVec.ofNat 64 (nextCyc s) } }

/-- Trip a running Glade without an overrun: its cycle is discarded and the Grove stops at its next stop point. -/
def forceStop (s : State) (g : Nat) : State :=
  match (grv s g).glade with
  | none => s
  | some r =>
    let s := discardApp s r.app
    putGrv s g { grv s g with trip := some .force }

/-- Every cycle in progress is discarded and every running Grove is tripped. -/
def stopAll (s : State) : State :=
  let s := (List.range 16).foldl forceStop s
  (List.range 32).foldl discardApp s

/-- The effects of EN := 0 (R520). -/
def schedDisable (s : State) : State :=
  let s := stopAll s
  let s := sb (sb s Reg.schedCtl 0 false) Reg.schedCtl 4 false
  { s with bnd := { s.bnd with phase := .idle } }

/-- SWAPREQ: validates the bank other than ABANK. -/
def swapRequest (s : State) : State :=
  match validate s (!aBank s) true with
  | (s, true) => sb s Reg.schedCtl 4 true
  | (s, false) => sb s Reg.schedStat 3 true

/-! ### Ends of a cycle -/

/-- Retain header at a commit (R91, R93): CUR inverted, CCOUNT + 1. -/
def commitRetain (s : State) (n : Nat) : State :=
  if rf s (Reg.imgRet + n) 31 16 = 0 then s
  else
    let w := rf s (Reg.imgRet + n) 14 0
    let h := tarnRaw s 62 w
    storeTarn s 62 w (BitVec.ofNat 32 (((fld h 31 16 + 1) % 65536) * 65536 + (1 - fld h 0 0)))

/-- The outlet of an Application's cycle is committed (R56, R76, R93, R406). -/
def commitApp (s : State) (n : Nat) : State :=
  let s := commitRetain s n
  let s := wf (sb s (Reg.schedOvrcnt + n) 22 false) (Reg.schedOvrcnt + n) 19 16 0
  let x := app s n
  putApp s n { x with active := false, ended := .committed, discards := 0, doneAt := none, cvOutReady := false }

/-- CAUSE of R78. -/
def TripCause.code : TripCause → Nat
  | .cycles => 1 | .beats => 2 | .window => 3 | .force => 0

/-- An overrun of an Application's cycle (R75, R76, R78). -/
def overrunApp (s : State) (n : Nat) (c : TripCause) : State :=
  let x := app s n
  if !x.active then s
  else
    let s := putApp s n { x with active := false, ended := .overrun, doneAt := none }
    let s := sb s Reg.schedOvr n true
    let s := bump s (Reg.schedOvrcnt + n) 15 0 1
    let s := bump s (Reg.schedOvrcnt + n) 19 16 1
    let s := wf s (Reg.schedOvrcnt + n) 21 20 c.code
    let ovr := match bankNow s with | some b => appOvrSafe s b n | none => 0
    let s := if rf s (Reg.schedOvrcnt + n) 19 16 > ovr then sb s (Reg.schedOvrcnt + n) 22 true else s
    if rb s Reg.schedCtl 16 then ringSource s (rf s Reg.schedCtl 15 8) else s

/-- A tripped Grove stops (R70, R75). -/
def groveStop (s : State) (g : Nat) : State :=
  let x := grv s g
  match x.glade with
  | none => s
  | some r =>
    let cause := match x.trip with
      | some TripCause.force => some TripCause.force
      | t => match weirOver s g with | some c => some c | none => t
    match cause with
    | none => s
    | some .force => endGlade s g
    | some c => endGlade (overrunApp s r.app c) g

/-- Does any Grove still run a Glade of Application `n`? -/
def appRunning (s : State) (n : Nat) : Bool := (List.range 16).any fun g => decide ((grv s g).glade.map (·.app) = some n)

/-- The entry of a stage of an Application in the bank in force. -/
def stageEntry (s : State) (n stage : Nat) : Option GEnt :=
  match bankNow s with
  | none => none
  | some b => (gEnts s b).find? fun e => decide (e.app = n ∧ e.stage = stage)

/-- A stage is done: the next stage waits, or the cycle awaits its commit (R56, R406). -/
def stageDone (s : State) (n stage : Nat) : State :=
  let x := app s n
  if !x.active || appRunning s n then s
  else
    let last := match bankNow s with | some b => decide (stage ≥ appNstg s b n) | none => true
    putApp s n { x with nextStage := stage + 1, doneAt := if last then some s.tb.now else none, compared := false }

/-- A SCHED_DONE write by engine `e` (R67, R71). -/
def schedDoneBy (s : State) (e : Nat) : State :=
  if e ≥ 32 then s
  else
    let g := e / 2
    let x := grv s g
    match x.glade with
    | none => s
    | some r =>
      if tripped s g then s
      else if s.tb.now.toNat ≥ r.winEnd then putGrv s g { x with trip := some .window }
      else
        let x := if e % 2 = 0 then { x with doneL := true } else { x with doneC := true }
        if (isLockstep s g && x.doneL) || (x.doneL && x.doneC) then
          stageDone (endGlade (putGrv s g { x with done := true }) g) r.app r.stage
        else idleEngine (putGrv s g x) e

/-! ### Glade start -/

/-- The Grove that runs an entry's Glade for Gg: its substitute while one is in force (R263). -/
def effGrove (s : State) (g : Nat) : Nat := (substituteOf s g).getD g

/-- The stages of an Application cannot run: an entry names a fenced Grove without a substitute (R266). -/
def noSpareFor (s : State) (n : Nat) : Bool :=
  match bankNow s with
  | none => false
  | some b => (gEnts s b).any fun e => decide (e.app = n) && (groveList e.groves).any fun g => grvFenced s (effGrove s g)

/-- Auxiliary Glades are suspended (R417). -/
def auxSuspended (s : State) : Bool := decide (vmonLevel s ≤ 1) || s.auxHeld

/-- Execute regions of a world, latched at a Glade start (R203, R204). An engine latches both worlds' tables (R206: a latched
region of either world; DEDUCED, log 42). -/
def latchXr (s : State) (vital : Bool) : List XRegion :=
  (List.range 8).filterMap fun i =>
    let n := (if vital then 0 else 8) + i
    if rb s (Reg.grvXrl + 2 * n) 0 then
      some ⟨vital, rb s (Reg.grvXrl + 2 * n) 1, rf s (Reg.grvXrb + 2 * n) 31 6, rf s (Reg.grvXrl + 2 * n) 31 6⟩
    else none

/-- An engine loaded from a stage entry record (R124, R209). -/
def loadEntry (x : Engine) (h : List Word) (stage image : Nat) (vital : Bool) (xr : List XRegion) : Engine :=
  let x := { State.engReset with term := x.term, ers := x.ers }
  let x := { x with
    pc := hdrEntry h stage image 0
    dsp := hdrEntry h stage image 1 &&& 0xFFFFFFFC#32
    dsl := hdrEntry h stage image 2 &&& 0xFFFFFFFC#32
    trapen := hdrEntry h stage image 5 &&& 0xF#32
    stat := putBit (putBit 0#32 stW vital) stIE true
    xr := xr, run := .running }
  ersPut (ersPut x (rspReg vital false) (hdrEntry h stage image 3 &&& ersMask (rspReg vital false)))
    (rslReg vital false) (hdrEntry h stage image 4 &&& ersMask (rslReg vital false))

/-- The image that the checker of a Grove runs (R234, R254). -/
def checkerImage (s : State) (g : Nat) (h : List Word) : Nat :=
  if isDiverse s g || (isSplit s g && hdrDiv h) then 1 else 0

/-- Start one Grove on an entry (R65, R66, R74). -/
def startGrove (s : State) (b : Bool) (e : GEnt) (g : Nat) : State :=
  let s := if e.l1clr then l1Clean s g (2 * g) else s
  let vital := appVital s b e.app
  let half := !vital && decide (vmonLevel s ≤ 2)
  let bud (n : Nat) : Nat := if half then max 1 (n / 2) else n
  let h := shadowOf s e.app
  let xr := latchXr s true ++ latchXr s false
  let x := grv s g
  let lo := e.seed.extractLsb' 0 16
  let hi := e.seed.extractLsb' 16 16
  let s := putGrv s g { x with
    glade := some ⟨e.m + (if b then 64 else 0), e.app, e.stage, winEnd s e, bud e.cyc, bud e.beat⟩
    cycL := 0, cycC := 0, beatsL := 0, beatsC := 0, counting := true, trip := none, doneL := false, doneC := false, done := false
    lfsrI := lfsrLoad lo, lfsrD := lfsrLoad hi, lfsrLake := lfsrLoad (lo ^^^ hi) }
  let s := putEng s (2 * g) (loadEntry (eng s (2 * g)) h e.stage 0 vital xr)
  putEng s (2 * g + 1) (loadEntry (eng s (2 * g + 1)) h e.stage (checkerImage s g h) vital xr)

/-- States in which SCHED starts Glades (R520). -/
def gladesRun (s : State) : Bool :=
  decide (s.dev = .config) || decide (s.dev = .run) || decide (s.dev = .tracking) || decide (s.dev = .maintenance)

/-- The Glade of entry `k` of the bank in force reaches its start time. -/
def gladeStart (s : State) (k : Nat) : State :=
  match bankNow s with
  | none => s
  | some b =>
    let e := gEnt s b k
    let x := app s e.app
    if !(e.valid && gladesRun s && decide (s.bnd.phase = .idle) && s.cutSince && x.active && decide (x.nextStage = e.stage) &&
         x.doneAt.isNone && decide (cycNow s % appPer s b e.app = e.phase) && decide (winStart s e ≤ s.tb.now.toNat))
    then s
    else if (!appVital s b e.app && auxSuspended s) || noSpareFor s e.app then discardApp s e.app
    else
      let gs := (groveList e.groves).map (effGrove s)
      if gs.any fun g => (grv s g).glade.isSome then s
      else
        let asleep := gs.filter (gated s)
        if asleep.isEmpty then gs.foldl (fun st g => startGrove st b e g) s
        else { s with pwr := { s.pwr with upReq := asleep.foldl (fun m g => m ||| (1#16 <<< g)) s.pwr.upReq } }

/-! ### Rows -/

/-- GLADE_START (R65). -/
def execGladeStart (k : Fin 64) (s : State) : Host.Outcome State Fault Refusal := .next (gladeStart s k.val)

/-- A Grove that counts and has an engine in WAIT: every CORE_CLK cycle of the wait counts against its budget (R68). -/
def weirWaits (s : State) (g : Nat) : Bool :=
  (grv s g).counting && !(grv s g).halted && ((eng s (2 * g)).run = .waiting || (eng s (2 * g + 1)).run = .waiting)

/-- WEIR_TRIP (R70): a count has passed its budget. The cycles of a wait are not commands, so a trip that is told while an engine
waits says that the wait has used up the cycle budget (DESIGN CHOICE, log 43). -/
def execWeirTrip (g : Grv) (s : State) : Host.Outcome State Fault Refusal :=
  let x := grv s g.val
  .next (match weirOver s g.val with
    | some c => if x.trip = some .force then s else putGrv s g.val { x with trip := some c }
    | none =>
      match x.glade with
      | some r =>
        if weirWaits s g.val && x.trip.isNone then
          putGrv s g.val { x with cycL := r.cycBud + 1, cycC := r.cycBud + 1, trip := some .cycles }
        else s
      | none => s)

/-- WINDOW_END (R70): the window of the running Glade has ended. -/
def execWindowEnd (g : Grv) (s : State) : Host.Outcome State Fault Refusal :=
  .next (match (grv s g.val).glade with
    | some r =>
      if (grv s g.val).trip.isNone && decide (s.tb.now.toNat ≥ r.winEnd) then
        putGrv s g.val { grv s g.val with trip := some ((weirOver s g.val).getD .window) }
      else s
    | none => s)

/-- GROVE_STOP (R70): a halted Grove stops only after its release (R480). -/
def execGroveStop (g : Grv) (s : State) : Host.Outcome State Fault Refusal :=
  .next (if tripped s g.val && !(grv s g.val).halted then groveStop s g.val else s)

end Sys2Proof.Machine
end

