-- ==== Sys2Proof/Machine/TarnCtl.lean ====
section
/-! DEFINITION. Tarn control: owners and their changes (R343 to R345), scrubbing and correction writes (R341, R347),
retention and wake (R348, R510), column-repair words (R349, R350). -/

namespace Sys2Proof.Machine

/-! ### Requests and clocks -/

/-- What a master presents (R19). General feeders carry what was recorded for their unit. -/
def reqOf (s : State) (m : Nat) : Req :=
  if m < 32 then engReq s m
  else if m = 32 ∨ m = 34 ∨ m = 36 ∨ m = 37 ∨ m = 47 then ⟨m, true, true⟩
  else if m = 46 then ⟨m, decide (dbgLevel s = 2) && decide (s.dev = .maintenance), true⟩
  else ⟨m, false, false⟩

/-- The blocks are out of Reset and no device-wide halt holds them (R478, R498). -/
def blocksRun (s : State) : Bool :=
  decide (s.dev ≠ .off) && decide (s.dev ≠ .reset) && decide (s.dev ≠ .halted)

/-- A response at NCH-S (R502): OK with data, or ERR with 0 on every beat. -/
def answerOk (s : State) (ws : List Word) : State := { s with outResp := 0, outData := ws }
def answerErr (s : State) (beats : Nat) : State := { s with outResp := 2, outData := List.replicate (4 * beats) 0#32 }

/-! ### Owners -/

/-- Owner codes of R343. -/
def ownFabric : Nat := 2
def ownApp (a : Nat) : Nat := 0x20 + a
def ownGrove (g : Nat) : Nat := 0x40 + g
def ownerValid (c : Nat) : Bool := decide (c ≤ 3 ∨ (0x20 ≤ c ∧ c ≤ 0x4F))

/-- The owner written last: one that waits for its effect, or the one in force. -/
def ownerShown (s : State) (t : Nat) : Word := (Sparse.get none s.ownPend t).getD (rd s (Reg.tarnOwn + t))

/-- Group bits. -/
def groupBit (k : Nat) : BitVec 15 := 1#15 <<< k
def setG (w : BitVec 15) (k : Nat) (b : Bool) : BitVec 15 := if b then w ||| groupBit k else w &&& ~~~ groupBit k

/-- A tarn takes a new owner: a code other than 0 wakes its group (R345, R348). -/
def setOwner (s : State) (t c : Nat) : State :=
  let s := { wf s (Reg.tarnOwn + t) 7 0 c with ownPend := Sparse.set none s.ownPend t none }
  if c = 0 then s else if tarnUp s t then s else askWake s t

/-- A write of TARN_OWNn takes effect as a request for the change (R345); a code other than 0 wakes the group at once. -/
def ownRequest (s : State) (t : Nat) (v : Word) : State :=
  let c := fld v 7 0
  let s := { s with ownPend := Sparse.set none s.ownPend t (some (BitVec.ofNat 32 c)) }
  if c = 0 ∨ tarnUp s t then s else askWake s t

/-- The pending owner takes effect (R345): every access of the model is whole, so the tarn is always free. -/
def ownerChange (s : State) (t : Nat) : State :=
  match Sparse.get none s.ownPend t with
  | some v => setOwner s t v.toNat
  | none => s

/-- A side tarn of an Application enabled in either bank (R344). -/
def sideTarn (s : State) (t : Nat) : Bool :=
  (List.range 32).any fun n =>
    (rb s (Reg.schedApp + n) 0 || rb s (bankKey true (Reg.schedApp + n)) 0) &&
    ((decide (rf s (Reg.imgInl + n) 31 16 ≠ 0) && (decide (rf s (Reg.imgInt + n) 5 0 = t) || decide (rf s (Reg.imgInt + n) 11 6 = t))) ||
     (decide (rf s (Reg.imgOutl + n) 31 16 ≠ 0) && (decide (rf s (Reg.imgOutt + n) 5 0 = t) || decide (rf s (Reg.imgOutt + n) 11 6 = t))))

/-- Acceptance of a write of a TARN register (R344, R347): refused with WREJ. -/
def tarnAccept (s : State) (q : Req) (a : Nat) (v : Word) : Option State :=
  let bad :=
    if a < Reg.tarnOwn + 64 then
      let t := a - Reg.tarnOwn
      !ownerValid (fld v 7 0) || decide (60 ≤ t) || sideTarn s t || (decide (q.master ≠ 32) && decide (0x40 ≤ fld v 7 0))
    else if a = Reg.tarnScrub then decide (fld v 10 1 < 16 ∨ 1000 < fld v 10 1)
    else false
  if bad then some (sb s Reg.tarnStat 0 true) else none

/-- Effect of an accepted write of TARN_OWNn; other TARN registers are plain. -/
def tarnEffect (s : State) (a : Nat) (v : Word) : Option State :=
  if Reg.tarnOwn ≤ a ∧ a < Reg.tarnOwn + 64 then some (ownRequest s (a - Reg.tarnOwn) v) else none

/-- The fuse word of tarn `t`, sub-array `k` (R349, R513). -/
def fuseRepair (t k : Nat) : Nat := 4 * t + k

/-- Computed reads: owners as written, the selected fuse word (R350). -/
def tarnRead (s : State) (a : Nat) : Option Word :=
  if Reg.tarnOwn ≤ a ∧ a < Reg.tarnOwn + 64 then some (ownerShown s (a - Reg.tarnOwn))
  else if a = Reg.tarnRpdat then some (fuseWord s (fuseRepair (rf s Reg.tarnRpsel 5 0) (rf s Reg.tarnRpsel 7 6)))
  else none

/-! ### Scrubbing -/

/-- One scrub read (R347): an uncorrectable word is recorded and left, master 33. -/
def scrubRead (s : State) (t : Nat) : State :=
  if !rb s Reg.tarnScrub 0 || !tarnUp s t || tarnDead s t || !blocksRun s then s
  else
    let w := Sparse.get 0 s.scrubPos t
    let s := match tarnCls s t w with
      | .good => s
      | .single => noteCorrected s t w
      | c => logUe s t w 33 c 0 0 false
    let n := if w = 32767 then 0 else w + 1
    let s := { s with scrubPos := Sparse.set 0 s.scrubPos t n }
    if n = 0 then wr s Reg.tarnScpass (rd s Reg.tarnScpass + 1) else s

/-- The oldest queued correction write is made, if the word still holds the erroneous codeword (R341). -/
def correctionWrite (s : State) (t : Nat) : State :=
  match Sparse.get [] s.corrQ t with
  | [] => s
  | w :: r =>
    if !tarnUp s t then s
    else
      let s := { s with corrQ := Sparse.set [] s.corrQ t r }
      if tarnCls s t w = .single then putTarnCls s t w .good else s

/-! ### Retention -/

def groupTarns (k : Nat) : List Nat := (List.range 4).map (4 * k + ·)
def retainedG (s : State) (k : Nat) : Bool := rb s Reg.tarnRetst k
def wakingG (s : State) (k : Nat) : Bool := rb s Reg.tarnRetst (15 + k)

/-- The retention condition of a group (R348): permitted, or VMON at SAG1 or lower, and no tarn owned. -/
def mayRetain (s : State) (k : Nat) : Bool :=
  (rb s Reg.tarnRet k || decide (vmonLevel s ≤ 2)) &&
  (groupTarns k).all fun t => decide (rf s (Reg.tarnOwn + t) 7 0 = 0) && decide (ownerShown s t = 0)

/-- RETENTION_ENTRY: PWR_RET rises (R510). -/
def retentionEntry (s : State) (k : Nat) : State :=
  let p := s.pwr
  if mayRetain s k && !p.ret.getLsbD k && !wakingG s k && !p.dead.getLsbD k && !p.wakeReq.getLsbD k && decide (s.dev ≠ .off) &&
     decide (s.dev ≠ .reset) then
    { sb s Reg.tarnRetst k (p.rok.getLsbD k) with pwr := { p with ret := setG p.ret k true } }
  else s

/-- A wake starts: PWR_RET falls (R510). -/
def retentionWake (s : State) (k : Nat) : State :=
  let p := s.pwr
  if p.ret.getLsbD k && (p.wakeReq.getLsbD k || !mayRetain s k) then
    let s := sb (sb s Reg.tarnRetst k false) Reg.tarnRetst (15 + k) true
    { s with pwr := { p with
      ret := setG p.ret k false
      retFall := Sparse.set none p.retFall k (some s.tb.now)
      rokFall := Sparse.set none p.rokFall k (if p.rok.getLsbD k then none else some s.tb.now) } }
  else s

/-- PWR_ROK rises: the group counts as retained, or a wake waits for its fall (R510). -/
def rokRise (s : State) (k : Nat) : State :=
  let p := s.pwr
  let s := { s with pwr := { p with rok := setG p.rok k true, rokFall := Sparse.set none p.rokFall k none } }
  if p.ret.getLsbD k then sb s Reg.tarnRetst k true else s

def rokFell (s : State) (k : Nat) : State :=
  let p := s.pwr
  { s with pwr := { p with rok := setG p.rok k false
                           rokFall := if p.rok.getLsbD k then Sparse.set none p.rokFall k (some s.tb.now) else p.rokFall } }

/-- Times of the last edges of a waking group. -/
def wakeTimes (s : State) (k : Nat) : Option (Nat × Nat) :=
  match Sparse.get none s.pwr.retFall k, Sparse.get none s.pwr.rokFall k with
  | some a, some b => some (a.toNat, b.toNat)
  | _, _ => none

/-- WAKE_COMPLETE (R510): at the later of 2 us after PWR_RET fell and 0.5 us after PWR_ROK fell. -/
def wakeComplete (s : State) (k : Nat) : State :=
  match wakeTimes s k with
  | some (a, b) =>
    if wakingG s k && decide (a + 2000 ≤ s.tb.now.toNat ∧ b + 500 ≤ s.tb.now.toNat) then
      let s := sb s Reg.tarnRetst (15 + k) false
      let s := { s with pwr := { s.pwr with wakeReq := setG s.pwr.wakeReq k false } }
      if b + 500 > a + 2000 then wf (sb s Reg.pwrStat 1 true) Reg.pwrStat 11 8 k else s
    else s
  | none => s

/-- PWR_ROK has not fallen 100 us after PWR_RET fell: the group is unusable until Reset (R510). -/
def wakeFail (s : State) (k : Nat) : State :=
  match Sparse.get none s.pwr.retFall k with
  | some a =>
    if wakingG s k && s.pwr.rok.getLsbD k && decide (a.toNat + 100000 ≤ s.tb.now.toNat) then
      let s := wf (sb (sb s Reg.tarnRetst (15 + k) false) Reg.pwrStat 2 true) Reg.pwrStat 11 8 k
      let s := { s with pwr := { s.pwr with dead := setG s.pwr.dead k true, wakeReq := setG s.pwr.wakeReq k false } }
      record s { faultOf 0x1A 0 with info := BitVec.ofNat 32 k }
    else s
  | none => s

/-! ### Rows -/

/-- SCRUB_READ (R347). -/
def execScrubRead (t : Tarn) (s : State) : Host.Outcome State Fault Refusal := .next (scrubRead s t.val)
/-- CORRECTION_WRITE (R341). -/
def execCorrectionWrite (t : Tarn) (s : State) : Host.Outcome State Fault Refusal := .next (correctionWrite s t.val)
/-- OWNER_CHANGE (R345). -/
def execOwnerChange (t : Tarn) (s : State) : Host.Outcome State Fault Refusal := .next (ownerChange s t.val)
/-- RETENTION_ENTRY (R348). -/
def execRetentionEntry (k : Fin 15) (s : State) : Host.Outcome State Fault Refusal := .next (retentionEntry s k.val)
/-- RETENTION_WAKE (R510). -/
def execRetentionWake (k : Fin 15) (s : State) : Host.Outcome State Fault Refusal := .next (retentionWake s k.val)
/-- PWR_ROK_RISE (R510). -/
def execPwrRokRise (k : Fin 15) (s : State) : Host.Outcome State Fault Refusal := .next (rokRise s k.val)
/-- PWR_ROK_FALL (R510). -/
def execPwrRokFall (k : Fin 15) (s : State) : Host.Outcome State Fault Refusal := .next (rokFell s k.val)
/-- WAKE_COMPLETE (R510). -/
def execWakeComplete (k : Fin 15) (s : State) : Host.Outcome State Fault Refusal := .next (wakeComplete s k.val)
/-- RETENTION_WAKE_FAIL (R510). -/
def execRetentionWakeFail (k : Fin 15) (s : State) : Host.Outcome State Fault Refusal := .next (wakeFail s k.val)

end Sys2Proof.Machine
end

