-- ==== Sys2Proof/Machine/Image.lean ====
section
/-! DEFINITION. Images: segment checks (R79 to R82), sides and their hand-over (R83 to R88), route table validation
(R94 to R97), fill periods (R98, R100). -/

namespace Sys2Proof.Machine

/-! ### Segments -/

/-- LENW of the inlet, outlet, marker and retain regions of an Application (R79, R81). -/
def inLen (s : State) (n : Nat) : Nat := rf s (Reg.imgInl + n) 31 16
def outLen (s : State) (n : Nat) : Nat := rf s (Reg.imgOutl + n) 31 16
def mrkLen (s : State) (n : Nat) : Nat := rf s (Reg.imgMrkl + n) 31 16
def retLen (s : State) (n : Nat) : Nat := rf s (Reg.imgRet + n) 31 16
def mrkTarn (s : State) (n : Nat) : Nat := rf s (Reg.imgMrkt + n) 5 0
def safeOff (s : State) (n : Nat) : Nat := rf s (Reg.imgSafe + n) 14 0

/-- The Application runs on Diverse Groves in the bank in force (R87). -/
def appDiverse (s : State) (n : Nat) : Bool :=
  match bankNow s with
  | none => false
  | some b =>
    match (gEnts s b).find? fun e => decide (e.app = n) with
    | some e => isDiverse s ((groveList e.groves).headD 0)
    | none => false

/-- Words of an outlet side that the fabric sends (R87). -/
def sentLen (s : State) (n : Nat) : Nat := if appDiverse s n then outLen s n / 2 else outLen s n

/-- The two tarns of a segment register. -/
def pairOf (s : State) (a : Nat) : List Nat := [rf s a 5 0, rf s a 11 6]

/-- The side tarns of an Application that exist, and its marker tarn if it is in use (R79). -/
def sidesOf (s : State) (n : Nat) : List Nat :=
  (if inLen s n = 0 then [] else pairOf s (Reg.imgInt + n)) ++ (if outLen s n = 0 then [] else pairOf s (Reg.imgOutt + n))
def markersOf (s : State) (n : Nat) : List Nat := if outLen s n = 0 ∧ mrkLen s n = 0 then [] else [mrkTarn s n]

def appsAll : List Nat := List.range 32

/-- Does a list repeat an element? -/
def repeats : List Nat → Bool
  | [] => false
  | x :: r => r.contains x || repeats r

/-- Two word ranges meet. -/
def meet (o1 l1 o2 l2 : Nat) : Bool := decide (o1 < o2 + l2 ∧ o2 < o1 + l1)

/-- A safe image overlaps a marker region (check 0x4). -/
def safeMeets (s : State) (n k : Nat) : Bool :=
  decide (outLen s n ≠ 0) && decide (mrkTarn s n = mrkTarn s k) && meet (safeOff s n) (sentLen s n) (rf s (Reg.imgMrkl + k) 14 0) (mrkLen s k)

/-- The first check of R82 that the configuration after a write of Application `n` fails. -/
def segError (s : State) (n : Nat) : Option Nat :=
  let tarns := sidesOf s n ++ markersOf s n
  let sides := appsAll.flatMap (sidesOf s)
  let marks := appsAll.flatMap (markersOf s)
  let past (o l : Nat) : Bool := decide (o + l > 0x8000)
  let rOff := rf s (Reg.imgRet + n) 14 0
  let rSpan (k : Nat) : Nat := 4 + 2 * retLen s k
  if appEither s n then some 1
  else if tarns.any fun t => decide (t ≥ 60) then some 2
  else if repeats sides || marks.any sides.contains then some 3
  else if past (rf s (Reg.imgInl + n) 14 0) (inLen s n) || past (rf s (Reg.imgOutl + n) 14 0) (outLen s n) ||
      past (rf s (Reg.imgMrkl + n) 14 0) (mrkLen s n) || past rOff (rSpan n) ||
      (decide (outLen s n ≠ 0) && past (safeOff s n) (sentLen s n)) || appsAll.any fun k => safeMeets s n k || safeMeets s k n
  then some 4
  else if decide (rf s (Reg.imgInt + n) 31 15 + inLen s n > 0x20000) || decide (rf s (Reg.imgOutt + n) 31 15 + outLen s n > 0x20000) ||
      decide (rf s (Reg.imgMrkt + n) 31 14 + mrkLen s n > 0x38000)
  then some 5
  else if decide (retLen s n ≠ 0) && appsAll.any fun k =>
      decide (k ≠ n) && decide (retLen s k ≠ 0) && meet rOff (rSpan n) (rf s (Reg.imgRet + k) 14 0) (rSpan k)
  then some 6
  else none

/-- Is the address a segment register, and whose? -/
def segApp (a : Nat) : Option Nat := if Reg.imgInt ≤ a ∧ a < Reg.imgSafe + 32 then some ((a - Reg.imgInt) % 32) else none

/-- Writable bits of a register. -/
def rwMask (a : Nat) : Word := match rowOf a with | some r => BitVec.ofNat 32 r.rw | none => 0

/-- The stored word after a write of `v` to its RW fields. -/
def rwMerge (s : State) (a : Nat) (v : Word) : Word := (rd s a &&& ~~~ rwMask a) ||| (v &&& rwMask a)

/-- Acceptance of a write of a segment register (R82). -/
def imgAccept (s : State) (a : Nat) (v : Word) : Option State :=
  match segApp a with
  | none => none
  | some n =>
    match segError (wr s a (rwMerge s a v)) n with
    | none => none
    | some c => some (wf (wf (sb s Reg.imgStat 0 true) Reg.imgStat 7 4 c) Reg.imgStat 22 18 n)

/-! ### Routes -/

def Route.out (r : Route) : Bool := bit r.w0 0
def Route.kind (r : Route) : Nat := fld r.w0 2 1
def Route.app (r : Route) : Nat := fld r.w0 7 3
def Route.port (r : Route) : Nat := fld r.w1 3 0
def Route.buf (r : Route) : Nat := fld r.w1 9 4
def Route.item (r : Route) : Nat := fld r.w1 15 0
def Route.off (r : Route) : Nat := fld r.w2 16 0
def Route.len (r : Route) : Nat := fld r.w3 16 0

/-- Routes from the words of a table. -/
def toRoutes : List Word → List Route
  | a :: b :: c :: d :: r => ⟨a, b, c, d⟩ :: toRoutes r
  | _ => []

/-- A table's routes with their indices. -/
def indexed {α : Type} : Nat → List α → List (Nat × α)
  | _, [] => []
  | i, x :: r => (i, x) :: indexed (i + 1) r

/-- The item table last accepted (R310). -/
def itemsLast (s : State) : List (Word × Word) := match s.shr.waiting with | some w => w.2 | none => s.shr.items
/-- Bytes of an item in a table: 0 for one that is not in use. -/
def itemBytes (t : List (Word × Word)) (i : Nat) : Nat :=
  match t[i]? with
  | some e => if bit e.1 0 then 4 * fld e.1 26 18 else 0
  | none => 0

def routeBad9 (s : State) (r : Route) : Bool :=
  if r.kind = 1 then !rb s (Reg.attPcfg + r.port) 0 || (!r.out && decide (r.buf > rf s (Reg.attBuf + r.port) 26 21))
  else if r.kind = 2 then decide (r.item > 4095)
  else true

def routeBadA (s : State) (r : Route) : Bool :=
  let side := 4 * (if r.out then outLen s r.app else inLen s r.app)
  decide (r.len = 0) || decide (r.off % 4 ≠ 0) || decide (r.len % 4 ≠ 0) || decide (r.off + r.len > side) ||
  (if r.kind = 1 then (if r.out then decide (r.len < 8 ∨ r.len > 72) else decide (r.len > 80))
   else decide (r.len > itemBytes (itemsLast s) r.item))

/-- The first inlet route that overlaps an earlier one of its Application (check 0xB). -/
def routeBadB (rs : List (Nat × Route)) : Option Nat :=
  (rs.find? fun (i, r) => !r.out && rs.any fun (j, t) =>
    decide (j < i) && !t.out && decide (t.app = r.app) && meet r.off r.len t.off t.len).map (·.1)

/-- Checks 0x9 to 0xB: code and route index. -/
def routesError (s : State) (rs : List Route) : Option (Nat × Nat) :=
  let ix := indexed 0 rs
  match ix.find? fun p => routeBad9 s p.2 with
  | some p => some (9, p.1)
  | none =>
    match ix.find? fun p => routeBadA s p.2 with
    | some p => some (0xA, p.1)
    | none => (routeBadB ix).map fun i => (0xB, i)

/-- A refused table (R96, R97). -/
def rtRefuse (s : State) (c : Option (Nat × Nat)) : State :=
  let s := sb s Reg.imgStat 1 true
  match c with
  | some (c, i) => wf (wf s Reg.imgStat 7 4 c) Reg.imgStat 17 8 i
  | none => s

/-- ROUTE_TABLE_DECISION (R96): the table is read, checked, and waits for a boundary. A table that cannot be read is refused
with ERR and ERRIDX as they were (DESIGN CHOICE, log 18). -/
def routeDecide (s : State) : State × Bool :=
  match s.valRoutes with
  | none => (s, false)
  | some w =>
    let s := { s with valRoutes := none }
    let off := fld w 14 0
    let count := fld w 25 15
    if count > 1024 ∨ off + 4 * count > 0x8000 then (wf (sb s Reg.imgStat 1 true) Reg.imgStat 7 4 8, false)
    else
      match readWords s 61 off 34 (4 * count) with
      | (s, none) => (rtRefuse s none, false)
      | (s, some ws) =>
        let rs := toRoutes ws
        match routesError s rs with
        | some c => (rtRefuse s (some c), false)
        | none => ({ wr s Reg.imgRtbl w with waitRoutes := some (w, rs) }, true)
def routeDecision (s : State) : State := (routeDecide s).1

/-- Effect of IMG writes: a write of IMG_RTBL starts a validation, and the register takes the word only if the table passes (a
table that fails is refused with no effect, R96; DEDUCED, log 18); the others are plain. -/
def imgEffect (s : State) (a : Nat) (v : Word) : Option State :=
  if a = Reg.imgRtbl then some { s with valRoutes := some (rwMerge s a v) } else none

/-! ### Sides -/

/-- The tarn of the side that the fabric holds. -/
def fabricSide (s : State) (tReg sideReg a : Nat) : Nat :=
  if rb s sideReg a then rf s (tReg + a) 5 0 else rf s (tReg + a) 11 6

/-- Give both sides of a segment to their holders, Application on the side that `sideReg` names. -/
def giveSides (s : State) (tReg sideReg a : Nat) : State :=
  setOwner (setOwner s (heldSide s tReg sideReg a) (ownApp a)) (fabricSide s tReg sideReg a) ownFabric

/-- Outlet hand-over at step 2 (R83, R84): the sides change after a commit, whatever the fabric sends; at the first due
boundary the Application takes side A. `safe` is the choice of the safe image. -/
def handOutlet (s : State) (a : Nat) (safe : Bool) : State :=
  let x := app s a
  let s :=
    if outLen s a = 0 then s
    else if !x.started then giveSides (sb s Reg.imgOside a false) Reg.imgOutt Reg.imgOside a
    else if x.ended = .committed then
      giveSides (sb s Reg.imgOside a (!rb s Reg.imgOside a)) Reg.imgOutt Reg.imgOside a
    else s
  let s := if x.ended = .committed then putApp s a { app s a with hasOut := true } else s
  let s := sb s Reg.imgSafeout a safe
  let send := (indexed 0 s.routes).filter fun p => p.2.out && decide (p.2.app = a)
  let old := s.outQ.filter fun p => decide (p.2.1.app ≠ a)
  { s with outQ := old ++ (if (app s a).hasOut || safe then send.map fun p => (p.1, p.2, safe) else []) }

/-- Inlet hand-over at step 6 (R83, R85). -/
def handInlet (s : State) (a : Nat) : State :=
  if inLen s a = 0 then s
  else
    let side := (app s a).started && !rb s Reg.imgIside a
    giveSides (sb s Reg.imgIside a side) Reg.imgInt Reg.imgIside a

/-- Indices of the inlet routes of an Application in the table in force. -/
def inletRoutes (s : State) (a : Nat) : List Nat :=
  ((indexed 0 s.routes).filter fun p => !p.2.out && decide (p.2.app = a)).map (·.1)

/-- A fill period begins (R98). -/
def fillStart (s : State) (a : Nat) : State :=
  putApp s a { app s a with filling := true, unswept := inletRoutes s a, routeBad := false }

def routeAt (s : State) (i : Nat) : Option Route := s.routes[i]?
def routeAppIs (s : State) (a i : Nat) : Bool := match routeAt s i with | some r => decide (r.app = a) | none => true

/-- Inlet cutoff of an Application (R100, R518). -/
def cutoff (s : State) (a : Nat) : State :=
  let x := app s a
  if !x.filling then sb s Reg.imgStale a false
  else
    let late := !x.unswept.isEmpty
    let s := { putApp s a { x with filling := false, unswept := [] } with inQ := s.inQ.filter fun i => !routeAppIs s a i }
    let s := sb s Reg.imgStale a (late || x.routeBad)
    if late then record (sb s Reg.imgStat 2 true) { faultOf 0x0E 0 with app := BitVec.ofNat 5 a } else s

/-- Step 3: the waiting route table comes into force (R96, R98); Applications that are filling and not due sweep afresh. -/
def routesInForce (s : State) (due : List Nat) : State :=
  match s.waitRoutes with
  | none => s
  | some (w, rs) =>
    let s := { wr s Reg.imgRtact (w &&& 0x3FFFFFF#32) with routes := rs, waitRoutes := none, inQ := [] }
    appsAll.foldl (fun st a => if (app st a).filling && !due.contains a then fillStart st a else st) s

/-- The source of inlet routes has been updated (R98): routes that the sweep has reached are to be applied again. -/
def sourceUpdated (s : State) (isSrc : Route → Bool) : State :=
  let hit := (indexed 0 s.routes).filter fun p =>
    !p.2.out && isSrc p.2 && (app s p.2.app).filling && !(app s p.2.app).unswept.contains p.1 && !s.inQ.contains p.1
  { s with inQ := s.inQ ++ hit.map (·.1) }

/-- ROUTE_TABLE_DECISION (R96). -/
def execRouteTableDecision (s : State) : Host.Outcome State Fault Refusal := .next (routeDecision s)

end Sys2Proof.Machine
end

