-- ==== Sys2Proof/Machine/Attach.lean ====
section
/-! DEFINITION. Field attach: deposits (R102 to R105), FIFOs and filtering (R106 to R109, R519), message buffers (R111 to
R113), transmit queues and listen-only (R115, R116), registers (R118). -/

namespace Sys2Proof.Machine

/-- Payload bytes from DLC (R104). -/
def lenOfDlc (fdf : Bool) (dlc : Nat) : Nat :=
  if dlc ≤ 8 then dlc
  else if !fdf then 8
  else [12, 16, 20, 24, 32, 48, 64].getD (dlc - 9) 64

/-- Fields of a record (R103). -/
def recId (w0 : Word) : Nat := fld w0 28 0
def recIde (w0 : Word) : Bool := bit w0 29
def recLen (w0 w1 : Word) : Nat := if bit w1 5 then 0 else lenOfDlc (bit w0 30) (fld w1 3 0)

/-- Beats of a burst of words. -/
def beatsOf (ws : List Word) : Nat := max 1 ((ws.length + 3) / 4)

def attEn (s : State) (p : Nat) : Bool := rb s (Reg.attPcfg + p) 0
def attFlag (s : State) (p i : Nat) : State := sb s (Reg.attStat + p) i true
def attDropped (s : State) (p : Nat) : State := bump s (Reg.attDrop + p) 15 0 1

/-- The first check of R105 that a deposit fails: the flag it sets, if any. -/
def depositFails (s : State) (p off : Nat) (ws : List Word) : Option (Option Nat) :=
  let w0 := nth ws 0
  let w1 := nth ws 1
  let beats := beatsOf ws
  if !attEn s p then some none
  else if beats > 5 then some (some 1)
  else if off ≠ 0 ∨ beats ≠ (8 + recLen w0 w1 + 15) / 16 ∨ (!recIde w0 ∧ fld w0 28 11 ≠ 0) ∨ (bit w0 30 ∧ bit w1 5) then some (some 2)
  else if (attp s p).fifo.length ≥ 8 then some (some 0)
  else none

/-- The record as the FIFO holds it: words 0 and 1 with reserved bits 0, and 16 payload words, 0 past LEN. -/
def depositRecord (ws : List Word) : List Word :=
  let w0 := nth ws 0
  let w1 := nth ws 1
  let bs := (wordsBytes (ws.drop 2)).take (recLen w0 w1)
  let pay := bytesWords bs
  [w0, w1 &&& 0x3F#32] ++ pay ++ List.replicate (16 - pay.length) 0#32

/-- A write burst into the window of port `p` (R102, R105, R500). -/
def deposit (s : State) (p off : Nat) (ws : List Word) : State :=
  if s.dev = .off ∨ s.dev = .reset then s
  else if off % 16 ≠ 0 ∨ off + 16 * beatsOf ws > 0x1000 then answerErr s 0
  else if s.dev = .boot ∨ s.dev = .halted then answerOk s []
  else
    match depositFails s p off ws with
    | some f =>
      let s := attDropped s p
      answerErr (match f with | some i => attFlag s p i | none => s) 0
    | none => answerOk (putAttp s p { attp s p with fifo := (attp s p).fifo ++ [depositRecord ws] }) []

/-! ### The attach engine -/

/-- Does a filter entry match (R108)? -/
def filterMatch (w0 w1 f0 : Word) : Bool :=
  let ide := recIde f0
  let cut (n : Nat) : Nat := if ide then n else n % 2048
  let id := cut (recId f0)
  let id1 := cut (fld w0 28 0)
  let id2 := cut (fld w1 28 0)
  decide (bit w0 29 = ide) &&
  (match fld w0 31 30 with
   | 1 => decide (id1 ≤ id ∧ id ≤ id2)
   | 2 => decide (id = id1 ∨ id = id2)
   | _ => decide ((id ^^^ id1) &&& id2 = 0))

/-- What a filter list decides. -/
inductive Filtered where
  | noMatch | reject
  | accept (buf : Nat)
deriving DecidableEq, Repr

/-- Words read by the attach engine for port `p` (R519). -/
def attRead (s : State) (p t w n : Nat) : State × Option (List Word) :=
  let q := reqOf s (48 + p)
  match checkMem s q (tarnAddr t w) needR spData with
  | some d => (logDenial s d, none)
  | none => readWords s t w (48 + p) n

/-- Walk the list from an entry, `n` entries left (R108): words 0 and 1 of each entry compared, word 2 of the one that
matches (DEDUCED, log 19). A denied or uncorrectable entry ends the list (R342, R519). -/
def filterWalk (s : State) (p t w : Nat) (f0 : Word) : Nat → State × Filtered
  | 0 => (s, .noMatch)
  | n + 1 =>
    match attRead s p t w 2 with
    | (s, none) => (s, .noMatch)
    | (s, some e) =>
      if fld (nth e 0) 31 30 = 0 then (s, .noMatch)
      else if filterMatch (nth e 0) (nth e 1) f0 then
        match attRead s p t (w + 2) 1 with
        | (s, none) => (s, .noMatch)
        | (s, some a) => (s, if bit (nth a 0) 8 then .accept (fld (nth a 0) 5 0) else .reject)
      else filterWalk s p t (w + 4) f0 n

def bufTarn (s : State) (p : Nat) : Nat := rf s (Reg.attBuf + p) 5 0
def bufWord (s : State) (p b : Nat) : Nat := rf s (Reg.attBuf + p) 20 6 + 20 * b

/-- Store a frame in buffer `b` (R111, R112): word 0 last, one hold. -/
def bufStore (s : State) (p b : Nat) (r : List Word) : State :=
  let t := bufTarn s p
  let w := bufWord s p b
  match checkMem s (reqOf s (48 + p)) (tarnAddr t w) needW spData with
  | some d => attFlag (logDenial s d) p 4
  | none =>
    let old := tarnRaw s t w
    let h := BitVec.ofNat 32 (1 + 2 * b2n (bit old 0 || bit old 1) + (fld old 15 8 + 1) % 256 * 256 + recLen (nth r 0) (nth r 1) * 65536)
    let ws := [h, nth r 0, nth r 1, lo32 s.tb.now] ++ r.drop 2
    let s := (indexed 0 ws).foldl (fun st x => clearRsv (storeTarn st t (w + x.1) x.2) (48 + p) (tarnAddr t (w + x.1))) s
    sourceUpdated s fun x => decide (x.kind = 1 ∧ x.port = p ∧ x.buf = b)

/-- The next port with a record, after the one served last (R106). -/
def attNext (s : State) : Option Nat :=
  ((List.range 16).map fun i => (s.attLast + 1 + i) % 16).find? fun p => !(attp s p).fifo.isEmpty

/-- One record of port `p` is filtered and stored or discarded (R108). -/
def attachRecord (s : State) (p : Nat) : State :=
  if attNext s ≠ some p ∨ !blocksRun s then s
  else
    match (attp s p).fifo with
    | [] => s
    | r :: rest =>
      let t := rf s (Reg.attFlt + p) 5 0
      if !tarnUp s t then askWake s t
      else if !tarnUp s (bufTarn s p) then askWake s (bufTarn s p)
      else
        let s := { putAttp s p { attp s p with fifo := rest } with attLast := p }
        match filterWalk s p t (rf s (Reg.attFlt + p) 20 6) (nth r 0) (rf s (Reg.attFlt + p) 30 21) with
        | (s, .noMatch) => attFlag s p 3
        | (s, .reject) => s
        | (s, .accept b) => if b > rf s (Reg.attBuf + p) 26 21 then attFlag s p 4 else bufStore s p b r

/-! ### Transmit (R115) -/

/-- Post a record to a transmit queue. -/
def attPost (s : State) (p : Nat) (r : List Word) : State :=
  if attListen s p then s
  else if (attp s p).tx.length ≥ 16 then attFlag s p 6
  else putAttp s p { attp s p with tx := (attp s p).tx ++ [r] }

/-- A read burst at +0x800: the record, 0 past its fifth beat. -/
def txRead (s : State) (p beats : Nat) : State :=
  if s.dev = .off ∨ s.dev = .reset then s
  else
    let n := 4 * beats
    match (attp s p).tx with
    | [] => answerOk s (List.replicate n 0#32)
    | r :: rest =>
      let ws := (r ++ List.replicate n 0#32)
      answerOk (putAttp s p { attp s p with tx := rest }) ((ws.take 20 ++ List.replicate n 0#32).take n)

/-! ### Registers (R118) -/

/-- Acceptance of ATT writes: WREJ of the port. -/
def attAccept (s : State) (a : Nat) (v : Word) : Option State :=
  let p := a % 16
  let tarnBad := decide (60 ≤ fld v 5 0) && decide (fld v 5 0 ≠ 61)
  let bad :=
    if Reg.attPcfg ≤ a ∧ a < Reg.attPcfg + 16 then attEn s p && decide (bit v 1 ≠ rb s a 1)
    else if Reg.attFlt ≤ a ∧ a < Reg.attFlt + 16 then
      tarnBad || decide (fld v 30 21 > 512) || decide (fld v 20 6 + 4 * fld v 30 21 > 0x8000)
    else if Reg.attBuf ≤ a ∧ a < Reg.attBuf + 16 then
      attEn s p || tarnBad || decide (fld v 20 6 + 20 * (fld v 26 21 + 1) > 0x8000)
    else false
  if bad then some (attFlag s p 5) else none

/-- Effect of writes of ATT_LFORCE and ATT_PCFGp: listen-only follows (R116). -/
def attEffect (s : State) (a : Nat) (v : Word) : Option State :=
  if a = Reg.attLforce ∨ (Reg.attPcfg ≤ a ∧ a < Reg.attPcfg + 16) then some (settle (wr s a (rwMerge s a v))) else none

/-- Computed reads: ATT_LISTENST, ATT_TXSTp. -/
def attReadReg (s : State) (a : Nat) : Option Word :=
  if a = Reg.attListenst then some (BitVec.ofNat 32 (ofBits ((List.range 16).map (attListen s))))
  else if Reg.attTxst ≤ a ∧ a < Reg.attTxst + 16 then some (BitVec.ofNat 32 (attp s (a - Reg.attTxst)).tx.length)
  else none

/-! ### Rows -/

/-- ATTACH_DEPOSIT (R105). -/
def execAttachDeposit (p : Grv) (off : Nat) (ws : List Word) (s : State) : Host.Outcome State Fault Refusal :=
  .next (deposit s p.val off ws)
/-- ATTACH_RECORD (R108). -/
def execAttachRecord (p : Grv) (s : State) : Host.Outcome State Fault Refusal := .next (attachRecord s p.val)
/-- TRANSMIT_RECORD_READ (R115). -/
def execTransmitRecordRead (p : Grv) (beats : Nat) (s : State) : Host.Outcome State Fault Refusal := .next (txRead s p.val beats)

/-- BUFFER_CLEAR (R113): a word write by master `m` to word 0 of a buffer of an enabled port. -/
def execBufferClear (m : Mst) (p : Grv) (b : Fin 64) (v : Word) (s : State) : Host.Outcome State Fault Refusal :=
  let t := bufTarn s p.val
  let w := bufWord s p.val b.val
  .next (if !attEn s p.val || decide (b.val > rf s (Reg.attBuf + p.val) 26 21) || decide (s.dev = .off) || decide (s.dev = .reset) then s
    else
      match checkMem s (reqOf s m.val) (tarnAddr t w) needW spData with
      | some d => logDenial s d
      | none => if tarnUp s t then writeTarnW s t w m.val v else askWake s t)

end Sys2Proof.Machine
end

