-- ==== Sys2Proof/Machine/Crypto.lean ====
section
/-! DEFINITION. The algorithms that the manual names by their standards (R227, R431, R455, R474): SHA-256, SHA-384, HMAC, AES-256-GCM
and the verification of ECDSA P-384 signatures (PRESUMED: FIPS 180-4, FIPS 197, FIPS 198-1, SP 800-38D, FIPS 186-4; log 27). -/

namespace Sys2Proof.Machine

/-! ### SHA-2 -/

/-- Round constants of SHA-256. -/
def sha256K : List (BitVec 32) :=
  [0x428A2F98, 0x71374491, 0xB5C0FBCF, 0xE9B5DBA5, 0x3956C25B, 0x59F111F1, 0x923F82A4, 0xAB1C5ED5] ++
  [0xD807AA98, 0x12835B01, 0x243185BE, 0x550C7DC3, 0x72BE5D74, 0x80DEB1FE, 0x9BDC06A7, 0xC19BF174] ++
  [0xE49B69C1, 0xEFBE4786, 0x0FC19DC6, 0x240CA1CC, 0x2DE92C6F, 0x4A7484AA, 0x5CB0A9DC, 0x76F988DA] ++
  [0x983E5152, 0xA831C66D, 0xB00327C8, 0xBF597FC7, 0xC6E00BF3, 0xD5A79147, 0x06CA6351, 0x14292967] ++
  [0x27B70A85, 0x2E1B2138, 0x4D2C6DFC, 0x53380D13, 0x650A7354, 0x766A0ABB, 0x81C2C92E, 0x92722C85] ++
  [0xA2BFE8A1, 0xA81A664B, 0xC24B8B70, 0xC76C51A3, 0xD192E819, 0xD6990624, 0xF40E3585, 0x106AA070] ++
  [0x19A4C116, 0x1E376C08, 0x2748774C, 0x34B0BCB5, 0x391C0CB3, 0x4ED8AA4A, 0x5B9CCA4F, 0x682E6FF3] ++
  [0x748F82EE, 0x78A5636F, 0x84C87814, 0x8CC70208, 0x90BEFFFA, 0xA4506CEB, 0xBEF9A3F7, 0xC67178F2]

/-- Round constants of SHA-384. -/
def sha512K0 : List (BitVec 64) :=
  [0x428A2F98D728AE22, 0x7137449123EF65CD, 0xB5C0FBCFEC4D3B2F, 0xE9B5DBA58189DBBC] ++
  [0x3956C25BF348B538, 0x59F111F1B605D019, 0x923F82A4AF194F9B, 0xAB1C5ED5DA6D8118] ++
  [0xD807AA98A3030242, 0x12835B0145706FBE, 0x243185BE4EE4B28C, 0x550C7DC3D5FFB4E2] ++
  [0x72BE5D74F27B896F, 0x80DEB1FE3B1696B1, 0x9BDC06A725C71235, 0xC19BF174CF692694]
def sha512K1 : List (BitVec 64) :=
  [0xE49B69C19EF14AD2, 0xEFBE4786384F25E3, 0x0FC19DC68B8CD5B5, 0x240CA1CC77AC9C65] ++
  [0x2DE92C6F592B0275, 0x4A7484AA6EA6E483, 0x5CB0A9DCBD41FBD4, 0x76F988DA831153B5] ++
  [0x983E5152EE66DFAB, 0xA831C66D2DB43210, 0xB00327C898FB213F, 0xBF597FC7BEEF0EE4] ++
  [0xC6E00BF33DA88FC2, 0xD5A79147930AA725, 0x06CA6351E003826F, 0x142929670A0E6E70]
def sha512K2 : List (BitVec 64) :=
  [0x27B70A8546D22FFC, 0x2E1B21385C26C926, 0x4D2C6DFC5AC42AED, 0x53380D139D95B3DF] ++
  [0x650A73548BAF63DE, 0x766A0ABB3C77B2A8, 0x81C2C92E47EDAEE6, 0x92722C851482353B] ++
  [0xA2BFE8A14CF10364, 0xA81A664BBC423001, 0xC24B8B70D0F89791, 0xC76C51A30654BE30] ++
  [0xD192E819D6EF5218, 0xD69906245565A910, 0xF40E35855771202A, 0x106AA07032BBD1B8]
def sha512K3 : List (BitVec 64) :=
  [0x19A4C116B8D2D0C8, 0x1E376C085141AB53, 0x2748774CDF8EEB99, 0x34B0BCB5E19B48A8] ++
  [0x391C0CB3C5C95A63, 0x4ED8AA4AE3418ACB, 0x5B9CCA4F7763E373, 0x682E6FF3D6B2B8A3] ++
  [0x748F82EE5DEFB2FC, 0x78A5636F43172F60, 0x84C87814A1F0AB72, 0x8CC702081A6439EC] ++
  [0x90BEFFFA23631E28, 0xA4506CEBDE82BDE9, 0xBEF9A3F7B2C67915, 0xC67178F2E372532B]
def sha512K4 : List (BitVec 64) :=
  [0xCA273ECEEA26619C, 0xD186B8C721C0C207, 0xEADA7DD6CDE0EB1E, 0xF57D4F7FEE6ED178] ++
  [0x06F067AA72176FBA, 0x0A637DC5A2C898A6, 0x113F9804BEF90DAE, 0x1B710B35131C471B] ++
  [0x28DB77F523047D84, 0x32CAAB7B40C72493, 0x3C9EBE0A15C9BEBC, 0x431D67C49C100D4C] ++
  [0x4CC5D4BECB3E42B6, 0x597F299CFC657E2A, 0x5FCB6FAB3AD6FAEC, 0x6C44198C4A475817]
def sha512K : List (BitVec 64) := sha512K0 ++ sha512K1 ++ sha512K2 ++ sha512K3 ++ sha512K4

/-- Initial value of SHA-256. -/
def sha256H : List (BitVec 32) :=
  [0x6A09E667, 0xBB67AE85, 0x3C6EF372, 0xA54FF53A, 0x510E527F, 0x9B05688C, 0x1F83D9AB, 0x5BE0CD19]

/-- Initial value of SHA-384. -/
def sha384H : List (BitVec 64) :=
  [0xCBBB9D5DC1059ED8, 0x629A292A367CD507, 0x9159015A3070DD17, 0x152FECD8F70E5939] ++
  [0x67332667FFC00B31, 0x8EB44A8768581511, 0xDB0C2E0D64F98FA7, 0x47B5481DBEFA4FA4]

/-- The functions that differ between the two word sizes: the four mixings by rotations and a shift. -/
structure Sha2 (w : Nat) where
  s0 : BitVec w → BitVec w
  s1 : BitVec w → BitVec w
  m0 : BitVec w → BitVec w
  m1 : BitVec w → BitVec w
  ks : List (BitVec w)

def sha256F : Sha2 32 :=
  { s0 := fun x => x.rotateRight 2 ^^^ x.rotateRight 13 ^^^ x.rotateRight 22
    s1 := fun x => x.rotateRight 6 ^^^ x.rotateRight 11 ^^^ x.rotateRight 25
    m0 := fun x => x.rotateRight 7 ^^^ x.rotateRight 18 ^^^ x >>> 3
    m1 := fun x => x.rotateRight 17 ^^^ x.rotateRight 19 ^^^ x >>> 10
    ks := sha256K }
def sha512F : Sha2 64 :=
  { s0 := fun x => x.rotateRight 28 ^^^ x.rotateRight 34 ^^^ x.rotateRight 39
    s1 := fun x => x.rotateRight 14 ^^^ x.rotateRight 18 ^^^ x.rotateRight 41
    m0 := fun x => x.rotateRight 1 ^^^ x.rotateRight 8 ^^^ x >>> 7
    m1 := fun x => x.rotateRight 19 ^^^ x.rotateRight 61 ^^^ x >>> 6
    ks := sha512K }

/-- The rounds: `sch` is a sliding window of the next 16 schedule words, `v` the eight working variables. -/
def shaRounds {w : Nat} (f : Sha2 w) : List (BitVec w) → List (BitVec w) → List (BitVec w) → List (BitVec w)
  | [], _, v => v
  | k :: ks, sch, v =>
    let x (i : Nat) : BitVec w := v.getD i 0
    let t := sch.headD 0
    let ch := (x 4 &&& x 5) ^^^ (~~~ x 4 &&& x 6)
    let maj := (x 0 &&& x 1) ^^^ (x 0 &&& x 2) ^^^ (x 1 &&& x 2)
    let t1 := x 7 + f.s1 (x 4) + ch + k + t
    let t2 := f.s0 (x 0) + maj
    let next := f.m1 (sch.getD 14 0) + sch.getD 9 0 + f.m0 (sch.getD 1 0) + t
    shaRounds f ks (sch.drop 1 ++ [next]) [t1 + t2, x 0, x 1, x 2, x 3 + t1, x 4, x 5, x 6]

def shaBlock {w : Nat} (f : Sha2 w) (h blk : List (BitVec w)) : List (BitVec w) :=
  List.zipWith (· + ·) h (shaRounds f f.ks blk h)

/-- Blocks in order. -/
def shaBlocks {w : Nat} (f : Sha2 w) : Nat → List (BitVec w) → List (BitVec w) → List (BitVec w)
  | 0, h, _ => h
  | n + 1, h, ws => shaBlocks f n (shaBlock f h (ws.take 16)) (ws.drop 16)

/-- A number from bytes, most significant first, and the bytes of a number. -/
def beNat (bs : List Byte) : Nat := bs.foldl (fun n b => n * 256 + b.toNat) 0
def beBytes (n k : Nat) : List Byte := (List.range k).map fun i => BitVec.ofNat 8 (n / 256 ^ (k - 1 - i))
/-- A number from bytes, least significant first. -/
def leNat (bs : List Byte) : Nat := bs.foldr (fun b n => n * 256 + b.toNat) 0

/-- Pack bytes into words of `k` bytes, most significant first. -/
def packBe (w k : Nat) : Nat → List Byte → List (BitVec w)
  | 0, _ => []
  | n + 1, bs => BitVec.ofNat w (beNat (bs.take k)) :: packBe w k n (bs.drop k)

/-- A message with its padding: a one bit, zeros, and the bit length in the last `2 * k` bytes of a block of `16 * k`. -/
def shaPad (k : Nat) (bs : List Byte) : List Byte :=
  let n := bs.length
  let z := (16 * k - (n + 1 + 2 * k) % (16 * k)) % (16 * k)
  bs ++ [0x80#8] ++ List.replicate z 0#8 ++ beBytes (8 * n) (2 * k)

def sha256 (bs : List Byte) : List Byte :=
  let m := shaPad 4 bs
  (shaBlocks sha256F (m.length / 64) sha256H (packBe 32 4 (m.length / 4) m)).flatMap fun x => beBytes x.toNat 4
def sha384 (bs : List Byte) : List Byte :=
  let m := shaPad 8 bs
  ((shaBlocks sha512F (m.length / 128) sha384H (packBe 64 8 (m.length / 8) m)).take 6).flatMap fun x => beBytes x.toNat 8

/-- HMAC-SHA-256 with a key of at most 64 bytes. -/
def hmac256 (key msg : List Byte) : List Byte :=
  let k := key ++ List.replicate (64 - key.length) 0#8
  sha256 (k.map (· ^^^ 0x5C#8) ++ sha256 (k.map (· ^^^ 0x36#8) ++ msg))

/-! ### AES-256-GCM -/

/-- The AES substitution box. -/
def aesSbox : List Byte :=
  [0x63, 0x7C, 0x77, 0x7B, 0xF2, 0x6B, 0x6F, 0xC5, 0x30, 0x01, 0x67, 0x2B, 0xFE, 0xD7, 0xAB, 0x76] ++
  [0xCA, 0x82, 0xC9, 0x7D, 0xFA, 0x59, 0x47, 0xF0, 0xAD, 0xD4, 0xA2, 0xAF, 0x9C, 0xA4, 0x72, 0xC0] ++
  [0xB7, 0xFD, 0x93, 0x26, 0x36, 0x3F, 0xF7, 0xCC, 0x34, 0xA5, 0xE5, 0xF1, 0x71, 0xD8, 0x31, 0x15] ++
  [0x04, 0xC7, 0x23, 0xC3, 0x18, 0x96, 0x05, 0x9A, 0x07, 0x12, 0x80, 0xE2, 0xEB, 0x27, 0xB2, 0x75] ++
  [0x09, 0x83, 0x2C, 0x1A, 0x1B, 0x6E, 0x5A, 0xA0, 0x52, 0x3B, 0xD6, 0xB3, 0x29, 0xE3, 0x2F, 0x84] ++
  [0x53, 0xD1, 0x00, 0xED, 0x20, 0xFC, 0xB1, 0x5B, 0x6A, 0xCB, 0xBE, 0x39, 0x4A, 0x4C, 0x58, 0xCF] ++
  [0xD0, 0xEF, 0xAA, 0xFB, 0x43, 0x4D, 0x33, 0x85, 0x45, 0xF9, 0x02, 0x7F, 0x50, 0x3C, 0x9F, 0xA8] ++
  [0x51, 0xA3, 0x40, 0x8F, 0x92, 0x9D, 0x38, 0xF5, 0xBC, 0xB6, 0xDA, 0x21, 0x10, 0xFF, 0xF3, 0xD2] ++
  [0xCD, 0x0C, 0x13, 0xEC, 0x5F, 0x97, 0x44, 0x17, 0xC4, 0xA7, 0x7E, 0x3D, 0x64, 0x5D, 0x19, 0x73] ++
  [0x60, 0x81, 0x4F, 0xDC, 0x22, 0x2A, 0x90, 0x88, 0x46, 0xEE, 0xB8, 0x14, 0xDE, 0x5E, 0x0B, 0xDB] ++
  [0xE0, 0x32, 0x3A, 0x0A, 0x49, 0x06, 0x24, 0x5C, 0xC2, 0xD3, 0xAC, 0x62, 0x91, 0x95, 0xE4, 0x79] ++
  [0xE7, 0xC8, 0x37, 0x6D, 0x8D, 0xD5, 0x4E, 0xA9, 0x6C, 0x56, 0xF4, 0xEA, 0x65, 0x7A, 0xAE, 0x08] ++
  [0xBA, 0x78, 0x25, 0x2E, 0x1C, 0xA6, 0xB4, 0xC6, 0xE8, 0xDD, 0x74, 0x1F, 0x4B, 0xBD, 0x8B, 0x8A] ++
  [0x70, 0x3E, 0xB5, 0x66, 0x48, 0x03, 0xF6, 0x0E, 0x61, 0x35, 0x57, 0xB9, 0x86, 0xC1, 0x1D, 0x9E] ++
  [0xE1, 0xF8, 0x98, 0x11, 0x69, 0xD9, 0x8E, 0x94, 0x9B, 0x1E, 0x87, 0xE9, 0xCE, 0x55, 0x28, 0xDF] ++
  [0x8C, 0xA1, 0x89, 0x0D, 0xBF, 0xE6, 0x42, 0x68, 0x41, 0x99, 0x2D, 0x0F, 0xB0, 0x54, 0xBB, 0x16]

def aesSub (b : Byte) : Byte := aesSbox.getD b.toNat 0
/-- Multiply by x in the field of AES. -/
def aesX (b : Byte) : Byte := (b <<< 1) ^^^ (if b.getLsbD 7 then 0x1B#8 else 0#8)
def xorBytes (a b : List Byte) : List Byte := List.zipWith (· ^^^ ·) a b

/-- Key expansion: the words so far (last first), the round constant, words still to make. -/
def aesExpand : Nat → Nat → Byte → List (List Byte) → List (List Byte)
  | 0, _, _, ks => ks
  | n + 1, i, rc, ks =>
    let t := ks.headD []
    let u :=
      if i % 8 = 0 then xorBytes ((t.drop 1 ++ t.take 1).map aesSub) [rc, 0#8, 0#8, 0#8]
      else if i % 8 = 4 then t.map aesSub else t
    aesExpand n (i + 1) (if i % 8 = 0 then aesX rc else rc) (xorBytes (ks.getD 7 []) u :: ks)
def chunk4 (bs : List Byte) (n : Nat) : List (List Byte) := (List.range n).map fun i => (bs.drop (4 * i)).take 4
/-- The 15 round keys. -/
def aesKeys (key : List Byte) : List (List Byte) :=
  let ws := (aesExpand 52 8 1#8 (chunk4 key 8).reverse).reverse
  (List.range 15).map fun r => ((ws.drop (4 * r)).take 4).flatten

def shiftRows (b : List Byte) : List Byte := (List.range 16).map fun i => b.getD ((i + 4 * (i % 4)) % 16) 0
def mixColumn (c : List Byte) : List Byte :=
  let x (i : Nat) : Byte := c.getD (i % 4) 0
  (List.range 4).map fun i => aesX (x i) ^^^ aesX (x (i + 1)) ^^^ x (i + 1) ^^^ x (i + 2) ^^^ x (i + 3)
def aesRounds : List (List Byte) → List Byte → List Byte
  | [], b => b
  | [k], b => xorBytes (shiftRows (b.map aesSub)) k
  | k :: ks, b => aesRounds ks (xorBytes ((chunk4 (shiftRows (b.map aesSub)) 4).flatMap mixColumn) k)
/-- One block. -/
def aesBlock (ks : List (List Byte)) (b : List Byte) : List Byte :=
  match ks with
  | [] => b
  | k :: r => aesRounds r (xorBytes b k)

/-- Product in the field of GCM: bit 127 of the number is the first bit of a block. -/
def gfMul (x y : Nat) : Nat :=
  ((List.range 128).foldl (fun (zv : Nat × Nat) i =>
    let z := if x.testBit (127 - i) then zv.1 ^^^ zv.2 else zv.1
    (z, if zv.2 % 2 = 1 then (zv.2 / 2) ^^^ (0xE1 * 2 ^ 120) else zv.2 / 2)) (0, y)).1
/-- GHASH over bytes already padded to blocks. -/
def ghash (h : Nat) : Nat → List Byte → Nat → Nat
  | 0, _, y => y
  | n + 1, bs, y => ghash h n (bs.drop 16) (gfMul (y ^^^ beNat (bs.take 16)) h)
def pad16 (bs : List Byte) : List Byte := bs ++ List.replicate ((16 - bs.length % 16) % 16) 0#8
/-- Counter mode from counter value `c`. -/
def gcmCtr (ks : List (List Byte)) (iv : List Byte) : Nat → Nat → List Byte → List Byte
  | 0, _, _ => []
  | n + 1, c, bs => xorBytes (bs.take 16) (aesBlock ks (iv ++ beBytes c 4)) ++ gcmCtr ks iv n (c + 1) (bs.drop 16)
/-- Decrypt with a 12-byte initialisation vector: none where the tag does not check. -/
def gcmOpen (key iv aad tag ct : List Byte) : Option (List Byte) :=
  let ks := aesKeys key
  let h := beNat (aesBlock ks (List.replicate 16 0#8))
  let m := pad16 aad ++ pad16 ct ++ beBytes (8 * aad.length) 8 ++ beBytes (8 * ct.length) 8
  let t := xorBytes (beBytes (ghash h (m.length / 16) m 0) 16) (aesBlock ks (iv ++ beBytes 1 4))
  if t = tag then some (gcmCtr ks iv (ct.length / 16 + 1) 2 ct) else none

/-! ### ECDSA P-384 -/

/-- Field prime, group order, coefficient b and base point of P-384. -/
def p384P : Nat := 0xFFFFFFFFFFFFFFFFFFFFFFFFFFFFFFFFFFFFFFFFFFFFFFFFFFFFFFFFFFFFFFFEFFFFFFFF0000000000000000FFFFFFFF
def p384N : Nat := 0xFFFFFFFFFFFFFFFFFFFFFFFFFFFFFFFFFFFFFFFFFFFFFFFFC7634D81F4372DDF581A0DB248B0A77AECEC196ACCC52973
def p384B : Nat := 0xB3312FA7E23EE7E4988E056BE3F82D19181D9C6EFE8141120314088F5013875AC656398D8A2ED19D2A85C8EDD3EC2AEF
def p384G : Nat × Nat :=
  (0xAA87CA22BE8B05378EB1C71EF320AD746E1D3B628BA79B9859F741E082542A385502F25DBF55296C3A545E3872760AB7,
   0x3617DE4A96262C6F5D9E98BF9292DC29F8F41DBD289A147CE9DA3113B5F0B8C00A60B1CE1D7E819D7A431D7C90EA0E5F)

/-- Power modulo `m`, over the low `k` bits of the exponent. -/
def powMod (m : Nat) : Nat → Nat → Nat → Nat
  | 0, _, _ => 1 % m
  | k + 1, b, e =>
    let r := powMod m k (b * b % m) (e / 2)
    if e % 2 = 1 then b * r % m else r
/-- Inverse modulo a prime of 384 bits. -/
def invMod (m a : Nat) : Nat := powMod m 384 (a % m) (m - 2)
/-- Difference modulo the field prime, of operands below it. -/
def subP (a b : Nat) : Nat := (a + p384P - b) % p384P

/-- A point (x / z^2, y / z^3) modulo the field prime; none is the point at infinity. Quotients are taken only at the end. -/
abbrev EcPoint : Type := Option (Nat × Nat × Nat)
/-- Twice a point that has y ≠ 0, as every point of a curve of odd order has. -/
def ecDouble : EcPoint → EcPoint
  | none => none
  | some (x, y, z) =>
    let d := z * z % p384P
    let g := y * y % p384P
    let b := x * g % p384P
    let a := 3 * (subP x d * (x + d)) % p384P
    let x3 := subP (a * a % p384P) (8 * b % p384P)
    some (x3, subP (a * subP (4 * b % p384P) x3 % p384P) (8 * (g * g) % p384P), 2 * (y * z) % p384P)
/-- Sum of two points. -/
def ecAdd (p q : EcPoint) : EcPoint :=
  match p, q with
  | none, q => q
  | p, none => p
  | some (x1, y1, z1), some (x2, y2, z2) =>
    let a := z1 * z1 % p384P
    let b := z2 * z2 % p384P
    let u1 := x1 * b % p384P
    let u2 := x2 * a % p384P
    let s1 := y1 * b % p384P * z2 % p384P
    let s2 := y2 * a % p384P * z1 % p384P
    if u1 = u2 then (if s1 = s2 then ecDouble p else none)
    else
      let h := subP u2 u1
      let r := subP s2 s1
      let h2 := h * h % p384P
      let h3 := h2 * h % p384P
      let v := u1 * h2 % p384P
      let x3 := subP (subP (r * r % p384P) h3) (2 * v % p384P)
      some (x3, subP (r * subP v x3 % p384P) (s1 * h3 % p384P), z1 * z2 % p384P * h % p384P)
/-- Multiple of a point by the low `k` bits of `n`. -/
def ecMul : Nat → Nat → EcPoint → EcPoint
  | 0, _, _ => none
  | k + 1, n, q =>
    let r := ecMul k (n / 2) (ecDouble q)
    if n % 2 = 1 then ecAdd q r else r
/-- The x of a point. -/
def ecX (x z : Nat) : Nat := x * invMod p384P (z * z % p384P) % p384P

/-- Does signature (r, s) over a digest verify under public key (x, y)? -/
def ecdsaOk (x y r s : Nat) (digest : List Byte) : Bool :=
  let onCurve := decide (x < p384P ∧ y < p384P) && decide (y * y % p384P = subP ((x * x % p384P * x + p384B) % p384P) (3 * x % p384P))
  if !onCurve || decide (r = 0 ∨ s = 0 ∨ r ≥ p384N ∨ s ≥ p384N) then false
  else
    let w := invMod p384N s
    let u1 := beNat digest * w % p384N
    let u2 := r * w % p384N
    match ecAdd (ecMul 384 u1 (some (p384G.1, p384G.2, 1))) (ecMul 384 u2 (some (x, y, 1))) with
    | none => false
    | some (x, _, z) => decide (ecX x z % p384N = r)

end Sys2Proof.Machine
end

