-- ==== Sys2Proof/Machine/Jrn.lean ====
section
/-! DEFINITION. The change journal: entries in T63 (R394), the used count (R396), exempt entries (R397), release (R395) and
recovery (R398). -/

namespace Sys2Proof.Machine

/-- The used count (R396). -/
def jrnUsedN (s : State) : Nat := (rd s Reg.jrnHead - rd s Reg.jrnTail).toNat
/-- The journal is open from step 6 of the boot order (R393). -/
def jrnOpen (s : State) : Bool := rb s Reg.jrnStat 4
/-- T63 word offset of the entry with sequence number `q` (R394). -/
def jrnSlot (q : Word) : Nat := 8 * (q.toNat % 4096)

/-- What an entry says beside its time and sequence number (R394). -/
structure JrnInfo where
  origin : Nat
  vital  : Bool
  sup    : Bool
  kind   : Nat
  exempt : Bool
  addr   : Nat
  tcode  : Nat
  old    : Word
  new    : Word
deriving DecidableEq, Repr

/-- The eight words of an entry (R394). -/
def entryWords (q : Word) (t : Dbl) (i : JrnInfo) : List Word :=
  let w3 := BitVec.ofNat 32 (i.origin + b2n i.vital * 2 ^ 6 + b2n i.sup * 2 ^ 7 + i.kind * 2 ^ 8 + b2n i.exempt * 2 ^ 11
    + i.addr % 65536 * 2 ^ 16)
  let ws := [lo32 t, hi32 t, q, w3, BitVec.ofNat 32 i.tcode, i.old, i.new]
  ws ++ [crc32c ws]

/-- Store consecutive words of a tarn. -/
def storeWords (s : State) (t w : Nat) (ws : List Word) : State :=
  (ws.foldl (fun p v => (storeTarn p.1 t p.2 v, p.2 + 1)) (s, w)).1

/-- USED has risen: the JOURNAL event and the doorbell at the level (R399, R424). -/
def jrnRise (s : State) : State :=
  let u := jrnUsedN s
  if u = rf s Reg.jrnThr 11 0 then
    let s := pushEvent s 4 0 u
    if rb s Reg.jrnThr 20 then ringSource s (rf s Reg.jrnThr 19 12) else s
  else s

/-- Write the entry of a sequence number that JRN_HEAD has passed. -/
def writeEntry (s : State) (q : Word) (t : Dbl) (i : JrnInfo) : State := storeWords s 63 (jrnSlot q) (entryWords q t i)

/-- Take the next sequence number (R392). -/
def takeSeq (s : State) : Word × State :=
  let q := rd s Reg.jrnHead
  (q, jrnRise (wr s Reg.jrnHead (q + 1)))

/-- An exempt entry, written at once; with no slot it is lost and recorded (R396). Before step 6 the journal is closed. -/
def jrnExempt (s : State) (i : JrnInfo) : State :=
  if !jrnOpen s then s
  else if jrnUsedN s ≥ 4096 then
    record (sb s Reg.jrnStat 3 true) { faultOf 0x13 0 with addr := 0xFFFFFFFF#32, info := BitVec.ofNat 32 i.kind }
  else
    let (q, s) := takeSeq s
    writeEntry s q s.tb.now { i with exempt := true }

/-- An event entry of R397 made by master 32. -/
def jrnEvent (s : State) (kind addr tcode : Nat) (old new : Word) : State :=
  jrnExempt s { origin := 32, vital := true, sup := true, kind := kind, exempt := true, addr := addr, tcode := tcode, old := old, new := new }

/-- A refusal under R396. -/
def jrnRefuse (s : State) : State := sb (bump s Reg.jrnRejcnt 15 0 1) Reg.jrnStat 1 true

/-- An entry held at a slot is intact, or released (R395, R398). -/
def slotWords (s : State) (q : Word) : List Word := tarnRawN s 63 (jrnSlot q) 8
def slotCrc (ws : List Word) : Word := crc32c (ws.take 7)
def slotIntact (ws : List Word) : Bool := decide (nth ws 7 = slotCrc ws)
def slotReleased (ws : List Word) : Bool := decide (nth ws 7 = ~~~ slotCrc ws)

/-- Complement word 7 of the next released entry (R395). -/
def releaseOne (s : State) : State :=
  if s.jRel = rd s Reg.jrnTail then s
  else
    let w := jrnSlot s.jRel + 7
    { storeTarn s 63 w (~~~ tarnRaw s 63 w) with jRel := s.jRel + 1 }

/-- The sequence number that a slot holds, if it holds an intact or released entry of its own slot. -/
def slotSeq (s : State) (k : Nat) : Option (Word × Bool) :=
  let ws := tarnRawN s 63 (8 * k) 8
  let q := nth ws 2
  if q.toNat % 4096 = k ∧ (slotIntact ws ∨ slotReleased ws) then some (q, slotIntact ws) else none

/-- The most recent of the numbers found: no other follows it within 2^31 (R398). -/
def mostRecent (qs : List Word) : Option Word :=
  qs.find? fun q => qs.all fun r => decide (r = q) || decide ((r - q).toNat > 2 ^ 31)

/-- The walk back from HEAD - 1 (R398): the lowest intact number reached, and the damaged slots passed. -/
def walkBack (s : State) : Nat → Word → Word → List Word → Word × List Word
  | 0, _, low, bad => (low, bad)
  | n + 1, q, low, bad =>
    match slotSeq s (q.toNat % 4096) with
    | some (r, true) => if r = q then walkBack s n (q - 1) q bad else (low, bad)
    | some (_, false) => (low, bad)
    | none => walkBack s n (q - 1) low (bad ++ [q])

/-- Journal recovery at step 6 of the boot order (R398). -/
def jrnRecover (s : State) : State :=
  let start (s : State) (h t : Word) : State := { wr (wr s Reg.jrnHead h) Reg.jrnTail t with jRel := t }
  if rb s Reg.idRstsrc 0 then start (storeWords s 63 0 (List.replicate 32768 0#32)) 0 0
  else
    let found := (List.range 4096).filterMap (slotSeq s)
    match mostRecent (found.map (·.1)) with
    | none => start s 0 0
    | some q =>
      let head := q + 1
      let (tail, bad) := walkBack s 4096 q head []
      let live := bad.filter fun b => decide ((b - tail).toNat < (head - tail).toNat)
      let s := start s head tail
      live.foldl (fun st b =>
        record (sb st Reg.jrnStat 5 true) { faultOf 0x13 0 with addr := BitVec.ofNat 32 (jrnSlot b), info := b }) s

/-- JOURNAL_RELEASE (R395): one released entry is marked. -/
def execJournalRelease (s : State) : Host.Outcome State Fault Refusal := .next (releaseOne s)

end Sys2Proof.Machine
end

