-- ==== Sys2Proof/Machine/Tb.lean ====
section
/-! DEFINITION. The timebase: ticks and their discipline (R38, R44), loading (R42), reading (R39), TB_PPS (R45, R46). -/

namespace Sys2Proof.Machine

def tbSrc (s : State) : Nat := rf s Reg.tbCtl 1 0

/-- One tick of TB_CLK: 10 ns, or 11 or 9 ns on at most one tick in 1000 while an error remains (R38, R44). -/
def tbTick (s : State) : State :=
  let t := s.tb
  if s.dev = .off then s
  else if t.err ≠ 0 ∧ t.sinceAdj ≥ 999 then
    let up := decide (t.err > 0)
    { s with tb := { t with now := t.now + (if up then 11 else 9), err := if up then t.err - 1 else t.err + 1, sinceAdj := 0 } }
  else { s with tb := { t with now := t.now + 10, sinceAdj := t.sinceAdj + 1 } }

/-- Signed saturation of a measured error to 32 bits (R43). -/
def satErr (e : Int) : Word := BitVec.ofInt 32 (if e > 2147483647 then 2147483647 else if e < -2147483647 then -2147483647 else e)

/-- A measurement (R41, R43, R44): stepped where R45 and R303 say so, otherwise worked off. The step makes two event entries
(R397). -/
def tbMeasure (s : State) (e : Int) (step : Bool) : State :=
  let s := wr s Reg.tbOffs (satErr e)
  let s := if (s.dev = .run ∨ s.dev = .tracking) ∧ (e > 1000 ∨ e < -1000) then sb s Reg.tbStat 3 true else s
  let s := sb s Reg.tbStat 0 (decide (-20 ≤ e ∧ e ≤ 20) && !rb s Reg.tbStat 1 && decide (tbSrc s ≠ 0))
  if step then
    let old := s.tb.now
    let new := BitVec.ofInt 64 (old.toNat + e)
    let s := { s with tb := { s.tb with now := new, err := 0 } }
    jrnEvent (jrnEvent s 2 0x3004 0x5B (lo32 old) (lo32 new)) 2 0x3005 0x5B (hi32 old) (hi32 new)
  else { s with tb := { s.tb with err := e } }

/-- The first measurement after SRC was set may step TB_NOW (R45, R303). -/
def mayStep (s : State) : Bool :=
  (decide (s.dev = .config) || decide (s.dev = .maintenance)) && !rb s Reg.schedCtl 0

/-- Distance from TB_NOW, at the edge, to the nearest multiple of 10^9 ns (R45). -/
def ppsError (now : Int) : Int :=
  let r := now % 1000000000
  if r ≤ 500000000 then -r else 1000000000 - r

/-- A TB_PPS edge (R45): its 3-tick latency is subtracted. The step is made only by the first edge after SRC was set, and
never after a missed one (R46). -/
def ppsEdge (s : State) : State :=
  if tbSrc s = 2 ∧ s.dev ≠ .reset ∧ s.dev ≠ .off then
    let first := !s.tb.ppsSeen
    let s := { s with tb := { s.tb with ppsLast := some s.tb.now, ppsSeen := true } }
    tbMeasure s (ppsError ((s.tb.now.toNat : Int) - 30)) (first && mayStep s)
  else s

/-- No edge within 1,000,500 us (R46). -/
def ppsMiss (s : State) : State :=
  match s.tb.ppsLast with
  | some t =>
    if tbSrc s = 2 ∧ s.tb.now.toNat > t.toNat + 1000500000 then
      let s := sb (sb s Reg.tbStat 1 true) Reg.tbStat 0 false
      record { s with tb := { s.tb with ppsLast := none, ppsSeen := true } } (faultOf 0x14 0)
    else s
  | none => s

/-- A write of TB_CTL takes effect: the source in force changes and its first measurement is awaited (R40, R45, R46). -/
def tbCtlSet (s : State) (v : Word) : State :=
  let src := fld v 1 0
  let s := wf (wf s Reg.tbCtl 1 0 src) Reg.tbStat 5 4 src
  let s := if src = 0 then sb s Reg.tbStat 0 false else s
  { s with tb := { s.tb with err := 0, ppsSeen := false, ppsLast := if src = 2 then some s.tb.now else none }
           shr := { s.shr with syncSeen := false, syncLast := if src = 1 then some s.tb.now else none } }

/-- TB_SETL and TB_SETH are accepted (R42). -/
def tbSetOk (s : State) : Bool := mayStep s

/-- TIMEBASE_TICK (R38). -/
def execTimebaseTick (s : State) : Host.Outcome State Fault Refusal := .next (tbTick s)
/-- TB_PPS_EDGE (R45). -/
def execTbPpsEdge (s : State) : Host.Outcome State Fault Refusal := .next (ppsEdge s)
/-- PPS_MISS (R46). -/
def execPpsMiss (s : State) : Host.Outcome State Fault Refusal := .next (ppsMiss s)

end Sys2Proof.Machine
end

