-- ==== Sys2Proof/Machine/Ring.lean ====
section
/-! DEFINITION. The Shore ring: frames (R288 to R291), transmission, turns (R295) and the item meter (R313), link graph and
reports (R299, R300), rosters (R308), heartbeats and link state (R296 to R298, R302), item tables (R309, R310), registers
(R320). -/

namespace Sys2Proof.Machine

/-! ### Frames -/

/-- Header fields of R289. -/
def fTyp (ws : List Word) : Nat := fld (nth ws 0) 7 0
def fSrc (ws : List Word) : Nat := fld (nth ws 0) 13 8
def fDst (ws : List Word) : Nat := fld (nth ws 0) 19 14
def fDirB (ws : List Word) : Bool := bit (nth ws 0) 20
def fWraps (ws : List Word) : Nat := fld (nth ws 0) 22 21
def fNoWrap (ws : List Word) : Bool := bit (nth ws 0) 23
def fHops (ws : List Word) : Nat := fld (nth ws 0) 30 24
def fSub (ws : List Word) : Nat := if fTyp ws = 0x10 then fld (nth ws 1) 15 0 else fld (nth ws 1) 7 0
def fLenw (ws : List Word) : Nat := fld (nth ws 1) 24 16
def fState (ws : List Word) : Nat := fld (nth ws 1) 28 25
def fCyc (ws : List Word) : Word := nth ws 2
def fSeq (ws : List Word) : Word := nth ws 3
def fTs (ws : List Word) : Word := nth ws 4
def fPay (ws : List Word) : List Word := (ws.drop 6).take (fLenw ws)

/-- HCRC: over words 0 to 4 with WRAPS and HOPS taken as 0. -/
def hcrcOf (ws : List Word) : Word :=
  crc32c [putFld (putFld (nth ws 0) 22 21 0) 30 24 0, nth ws 1, nth ws 2, nth ws 3, nth ws 4]

/-- The length of a frame in words for its LENW, and whether the line length agrees (R289, R294). -/
def frameWords (lenw : Nat) : Nat := if lenw = 0 then 6 else 7 + lenw
def lengthBad (ws : List Word) : Bool := decide (fLenw ws > 256) || decide (ws.length ≠ frameWords (fLenw ws))
def pcrcBad (ws : List Word) : Bool := decide (fLenw ws ≠ 0) && decide (nth ws (6 + fLenw ws) ≠ crc32c (fPay ws))

/-- Blocks of line time (R288). -/
def frameBlocks (ws : List Word) : Nat := (4 * ws.length + 9) / 8 + 1

/-- Types of R290 and their class. -/
def knownType (t : Nat) : Bool := decide (1 ≤ t ∧ t ≤ 8) || decide (t = 0x10 ∨ t = 0x20 ∨ t = 0x30)
def typeClass (t : Nat) : Nat := if t = 0x10 then 2 else if t = 0x20 then 1 else if t = 0x30 then 3 else 0

/-- Header and payload closed with their CRCs. -/
def sealFrame (w0 w1 w2 w3 w4 : Word) (pay : List Word) : List Word :=
  [w0, w1, w2, w3, w4, hcrcOf [w0, w1, w2, w3, w4]] ++ pay ++ (if pay.isEmpty then [] else [crc32c pay])

/-- Recompute the CRCs of a frame whose words changed. -/
def resealFrame (ws : List Word) : List Word :=
  sealFrame (nth ws 0) (nth ws 1) (nth ws 2) (nth ws 3) (nth ws 4) (fPay ws)

/-! ### Ports -/

def nodeOf (s : State) : Nat := rf s Reg.shrNode 5 0
def ringEn (s : State) : Bool := rb s Reg.shrNode 6
def ringAdmitted (s : State) : Bool := rb s Reg.shrStat 26
def pstat : Port → Nat
  | .a => Reg.shrPstata
  | .b => Reg.shrPstatb
def errReg : Port → Nat
  | .a => Reg.shrErra
  | .b => Reg.shrErrb
def other : Port → Port
  | .a => .b
  | .b => .a
def shrPort (s : State) : Port → ShrPort
  | .a => s.shr.pa
  | .b => s.shr.pb
def putShrPort (s : State) (p : Port) (x : ShrPort) : State :=
  { s with shr := match p with | .a => { s.shr with pa := x } | .b => { s.shr with pb := x } }
def hasLock (s : State) (p : Port) : Bool := rb s (pstat p) 0
def portUp (s : State) (p : Port) : Bool := rb s (pstat p) 1
def nbrOf (s : State) (p : Port) : Nat := rf s (pstat p) 8 3
def linkDelay (s : State) (p : Port) : Nat := rf s (pstat p) 31 16

/-- Error counts of a port (R320). -/
def cntHcrc (s : State) (p : Port) : State := bump s (errReg p) 7 0 1
def cntPcrc (s : State) (p : Port) : State := bump s (errReg p) 15 8 1
def cntLen (s : State) (p : Port) : State := bump s (errReg p) 23 16 1
def cntDrop (s : State) (p : Port) : State := bump s (errReg p) 31 24 1

/-- The ring block runs. -/
def ringRuns (s : State) : Bool := blocksRun s && ringEn s

/-- Queue a frame at a transmitter; of item frames at most 64 wait (R313). -/
def enq (s : State) (p : Port) (f : TxFrame) : State :=
  let x := shrPort s p
  if f.cls = 2 ∧ (x.tx.filter fun t => decide (t.cls = 2)).length ≥ 64 then cntDrop s p
  else putShrPort s p { x with tx := x.tx ++ [f] }

/-- Send a frame out of a port that must be UP: one that is not turns the frame once or twice, or drops it (R295). -/
def sendVia (s : State) (p : Port) (f : TxFrame) : State :=
  if portUp s p then enq s p f
  else if fNoWrap f.words ∨ fWraps f.words ≥ 2 ∨ !portUp s (other p) then s
  else
    let w0 := nth f.words 0
    enq s (other p) { f with words := putFld w0 22 21 (fWraps f.words + 1) :: f.words.drop 1 }

/-- The next SEQ of a TYPE and SUB (R289). -/
def nextSeq (s : State) (typ sub : Nat) : Word × State :=
  let k := typ * 65536 + sub
  let q := Sparse.get 0 s.shr.seqs k + 1
  (q, { s with shr := { s.shr with seqs := Sparse.set 0 s.shr.seqs k q } })

/-- A frame this node originates. -/
def mkFrame (s : State) (typ sub dst : Nat) (dirB noWrap : Bool) (seq ts : Word) (pay : List Word) : List Word :=
  let w0 := BitVec.ofNat 32 (typ + nodeOf s * 2 ^ 8 + dst * 2 ^ 14 + b2n dirB * 2 ^ 20 + b2n noWrap * 2 ^ 23 + 126 * 2 ^ 24)
  let w1 := BitVec.ofNat 32 (sub + pay.length * 2 ^ 16 + s.dev.code * 2 ^ 25)
  sealFrame w0 w1 (rd s Reg.schedCycl) seq ts pay

def txOf (s : State) (ws : List Word) : TxFrame :=
  { arr := s.tb.now, cls := typeClass (fTyp ws), transit := false, bad := false, words := ws }

/-- What a node may originate: one that is not admitted, HEARTBEAT and JOIN_REQ only (R306). -/
def maySend (s : State) (typ : Nat) : Bool := ringRuns s && (ringAdmitted s || decide (typ = 1 ∨ typ = 7))

/-- Originate a frame in the directions asked for; both copies carry one SEQ (R289, R290). -/
def originate (s : State) (typ sub dstA dstB : Nat) (a b noWrap : Bool) (ts : Word) (pay : List Word) : State :=
  if !maySend s typ then s
  else
    let (q, s) := nextSeq s typ sub
    let s := if a then sendVia s .a (txOf s (mkFrame s typ sub dstA false noWrap q ts pay)) else s
    if b then sendVia s .b (txOf s (mkFrame s typ sub dstB true noWrap q ts pay)) else s

/-- Flood a frame to every node in both directions. -/
def flood (s : State) (typ : Nat) (ts : Word) (pay : List Word) : State := originate s typ 0 0x3F 0x3F true true false ts pay
/-- Send to one node in both directions. -/
def sendTo (s : State) (typ sub dst : Nat) (noWrap : Bool) (pay : List Word) : State :=
  originate s typ sub dst dst true true noWrap (lo32 s.tb.now) pay

/-! ### Transmission (R291, R313) -/

/-- Remove the first frame that satisfies `p`. -/
def takeFirst (p : TxFrame → Bool) : List TxFrame → Option (TxFrame × List TxFrame)
  | [] => none
  | f :: r =>
    if p f then some (f, r)
    else match takeFirst p r with
      | some (g, t) => some (g, f :: t)
      | none => none

/-- The class-2 frame next in line would pass the meter. -/
def meterFull (s : State) (x : ShrPort) (f : TxFrame) : Bool :=
  decide (x.meter + frameBlocks f.words > 130 * rf s Reg.schedMcyc 19 0)

/-- The next frame of a class, transit first. -/
def nextOf (x : ShrPort) (c : Nat) : Option (TxFrame × List TxFrame) :=
  match takeFirst (fun f => decide (f.cls = c) && f.transit) x.tx with
  | some r => some r
  | none => takeFirst (fun f => decide (f.cls = c)) x.tx

/-- Choose the next frame to start; the flag says that an item frame waits for the next cycle start. -/
def chooseTx (s : State) (x : ShrPort) : Option (TxFrame × List TxFrame) × Bool :=
  match nextOf x 0, nextOf x 1, nextOf x 2, nextOf x 3 with
  | some r, _, _, _ => (some r, false)
  | none, some r, _, _ => (some r, false)
  | none, none, some r, t => if meterFull s x r.1 then (t, true) else (some r, false)
  | none, none, none, t => (t, false)

/-- What leaves the port: HEARTBEAT and SYNC take their TSTAMP at the start block; a SYNC in transit adds its residence to
CORR (R289, R303). -/
def stampFrame (s : State) (f : TxFrame) : List Word :=
  let ws := f.words
  if f.transit then
    if fTyp ws = 5 ∧ !f.bad then
      resealFrame (putNth ws 7 (nth ws 7 + BitVec.ofNat 32 (16 * (s.tb.now - f.arr).toNat)))
    else ws
  else if fTyp ws = 1 then resealFrame (putNth ws 4 (lo32 s.tb.now))
  else if fTyp ws = 5 then resealFrame (putNth (putNth ws 4 (lo32 s.tb.now)) 6 (hi32 s.tb.now))
  else ws

/-- A port starts its next frame; the words leave at `outData`, with the response code 2 for one that ends in an error
block (log 4). -/
def frameTransmit (s : State) (p : Port) : State :=
  if !ringRuns s then s
  else
    let x := shrPort s p
    let (c, waits) := chooseTx s x
    let s := if waits then sb s Reg.shrStat 5 true else s
    match c with
    | none => s
    | some (f, r) =>
      let ws := stampFrame s f
      let m := if f.cls = 2 then x.meter + frameBlocks ws else x.meter
      let sent := if fTyp ws = 1 then ((fTs ws, nth ws 6, nth ws 7) :: x.sent).take 8 else x.sent
      let s := putShrPort s p { x with tx := r, meter := m, sent := sent }
      { s with outResp := if f.bad then 2 else 0, outData := ws }

/-! ### Time -/

/-- The absolute time of a 32-bit stamp near now (R289: compared modulo 2^32). -/
def nearTime (s : State) (ts : Word) : Dbl := s.tb.now + (ts - lo32 s.tb.now).signExtend 64

/-! ### Roster (R308) -/

def rosterBit (s : State) (n : Nat) : Bool := rb s (Reg.shrRoster0 + n / 32) (n % 32)
def rosterEmpty (s : State) : Bool := decide (rd s Reg.shrRoster0 = 0 ∧ rd s Reg.shrRoster1 = 0)
/-- The roster held: this node alone before the first BEACON. -/
def inRoster (s : State) (n : Nat) : Bool := if rosterEmpty s then decide (n = nodeOf s) else rosterBit s n
def rosterList (s : State) : List Nat := (List.range 63).filter (inRoster s)
def rosterPut (s : State) (n : Nat) (b : Bool) : State := sb s (Reg.shrRoster0 + n / 32) (n % 32) b

/-- CRC-32C over SCHED_MCYC, SCHED_EPOCHL and SCHED_EPOCHH (R304). -/
def ringDigest (s : State) : Word := crc32c [rd s Reg.schedMcyc, rd s Reg.schedEpochl, rd s Reg.schedEpochh]

/-! ### Graph (R299, R300) -/

def noLinks (n : Nat) : NodeLinks := { node := n, nbrA := 0x3F, nbrB := 0x3F, upA := false, upB := false, act := false, wit := false }
def linksOf (s : State) (n : Nat) : NodeLinks := (s.shr.nodes.find? fun l => decide (l.node = n)).getD (noLinks n)
def putLinks (s : State) (l : NodeLinks) : State :=
  { s with shr := { s.shr with nodes := l :: s.shr.nodes.filter fun x => decide (x.node ≠ l.node) } }

/-- An edge: a link shown UP at both ends. -/
def linked (s : State) (i j : Nat) : Bool :=
  let x := linksOf s i
  let y := linksOf s j
  (x.upA && decide (x.nbrA = j) && y.upB && decide (y.nbrB = i)) || (x.upB && decide (x.nbrB = j) && y.upA && decide (y.nbrA = i))

/-- Grow a set along edges, as often as there are candidates. -/
def growSet (s : State) (cand : List Nat) : Nat → List Nat → List Nat
  | 0, set => set
  | n + 1, set => growSet s cand n (set ++ cand.filter fun c => !set.contains c && set.any fun m => linked s m c)

/-- The settled reachable set. -/
def reachSet (s : State) : List Nat :=
  let cand := (rosterList s).filter fun n => decide (n ≠ nodeOf s)
  growSet s cand cand.length [nodeOf s]

/-- Words of a set of nodes. -/
def setWord (ns : List Nat) (k : Nat) : Word := BitVec.ofNat 32 (ofBits ((List.range 32).map fun i => decide (32 * k + i < 63) && ns.contains (32 * k + i)))

/-- Apply a report to the graph. -/
def applyReport (s : State) : Report → State
  | .topo _ _ l => putLinks s l
  | .link _ _ n o portB up =>
    let l := linksOf s n
    putLinks s (if portB then { l with nbrB := if up then o else l.nbrB, upB := up } else { l with nbrA := if up then o else l.nbrA, upA := up })

def Report.time : Report → Dbl
  | .topo a _ _ => a
  | .link a _ _ _ _ _ => a

/-- Times at which roster nodes were first outside the settled set (R307). -/
def trackOutside (s : State) : State :=
  let set := reachSet s
  let out := (List.range 63).foldl (fun (m : Sparse (Option Dbl)) n =>
    if inRoster s n && !set.contains n then
      (match Sparse.get none m n with | some _ => m | none => Sparse.set none m n (some s.tb.now))
    else Sparse.set none m n none) s.shr.outside
  { s with shr := { s.shr with outside := out } }

/-- Insert a report in order of time. -/
def insReport (r : Report) : List Report → List Report
  | [] => [r]
  | x :: t => if r.time.toNat < x.time.toNat then r :: x :: t else x :: insReport r t

/-- A report is applied at TSTAMP + RPTDLY; one that comes later is applied at once and sets RPTLATE. -/
def reportAt (s : State) (ts : Word) : Dbl := nearTime s ts + BitVec.ofNat 64 (1000 * rf s Reg.shrCtl 4 0)
def addReport (s : State) (r : Report) : State :=
  if r.time.toNat < s.tb.now.toNat then trackOutside (applyReport (sb s Reg.shrStat 2 true) r)
  else { s with shr := { s.shr with reports := insReport r s.shr.reports } }

/-- The earliest report that is due is applied; true if one was. -/
def reportDue (s : State) : State × Bool :=
  match s.shr.reports with
  | [] => (s, false)
  | r :: t =>
    if r.time.toNat ≤ s.tb.now.toNat then (trackOutside (applyReport { s with shr := { s.shr with reports := t } } r), true)
    else (s, false)

/-- This node's links as its own TOPO says them. -/
def ownLinks (s : State) : NodeLinks :=
  { node := nodeOf s, nbrA := nbrOf s .a, nbrB := nbrOf s .b, upA := portUp s .a, upB := portUp s .b, act := s.shr.acting,
    wit := rb s Reg.grvQstat 17 }
def topoWord (l : NodeLinks) : Word :=
  BitVec.ofNat 32 (l.nbrA + l.nbrB * 64 + b2n l.upA * 2 ^ 12 + b2n l.upB * 2 ^ 13 + b2n l.act * 2 ^ 14 + b2n l.wit * 2 ^ 15)
def topoLinks (n : Nat) (w : Word) : NodeLinks :=
  { node := n, nbrA := fld w 5 0, nbrB := fld w 11 6, upA := bit w 12, upB := bit w 13, act := bit w 14, wit := bit w 15 }

/-- Flood this node's TOPO, and apply it here too. -/
def topoSend (s : State) : State :=
  if !ringRuns s then s
  else
    let ts := lo32 s.tb.now
    addReport (flood s 4 ts [topoWord (ownLinks s), 0]) (.topo (reportAt s ts) ts (ownLinks s))

def linkWord (o : Nat) (p : Port) : Word := BitVec.ofNat 32 (o + (match p with | .a => 0 | .b => 64))
def isB : Port → Bool
  | .a => false
  | .b => true

/-- Flood a LINK_DOWN or LINK_UP of this node, and apply it here too. -/
def linkSend (s : State) (p : Port) (o : Nat) (up : Bool) (ts : Word) : State :=
  addReport (flood s (if up then 3 else 2) ts [linkWord o p]) (.link (reportAt s ts) ts (nodeOf s) o (isB p) up)

/-! ### Links (R296 to R298, R302) -/

/-- A port loses its link at a detection time (R298): a LINK_DOWN goes out of the port itself, then both ways. -/
def portDown (s : State) (p : Port) (ts : Word) : State :=
  let o := nbrOf s p
  let s := putShrPort (sb s (pstat p) 1 false) p { shrPort s p with hbCnt := 0 }
  let s := if maySend s 2 then
      let (q, s) := nextSeq s 2 0
      enq s p (txOf s (mkFrame s 2 0 0x3F (isB p) false q ts [linkWord o p]))
    else s
  let s := record s (faultOf 0x0B 4)
  topoSend (linkSend s p o false ts)

/-- RXOK of a port. -/
def rxOk (s : State) (p : Port) : Bool := decide ((shrPort s p).hbCnt ≥ 10) && hasLock s p

/-- HEARTBEAT_SEND (R296). -/
def heartbeatSend (s : State) : State :=
  if !ringRuns s then s
  else
    let (q, s) := nextSeq s 1 0
    let pay (p : Port) : List Word :=
      [(shrPort s p).echoT, (shrPort s p).echoR, BitVec.ofNat 32 (b2n (ringAdmitted s) + 2 * b2n (rxOk s p))]
    let one (s : State) (p : Port) (ws : List Word) : State := enq s p (txOf s (mkFrame s 1 0 0x3F (isB p) false q 0 ws))
    let pa := pay .a
    let pb := pay .b
    one (one s .a pa) .b pb

/-- Signed asymmetry of a port, ns. -/
def asym (s : State) : Port → Int
  | .a => (BitVec.ofNat 8 (rf s Reg.shrCtl 15 8)).toInt
  | .b => (BitVec.ofNat 8 (rf s Reg.shrCtl 23 16)).toInt

/-- A delay measured from a neighbour's echo of a heartbeat of ours (R302). -/
def delaySample (s : State) (p : Port) (t3 t4 : Word) : Option Int :=
  match (shrPort s p).sent.find? fun x => decide (x.1 = t3) with
  | some (_, t1, t2) => if t1 = 0 ∧ t2 = 0 then none else some (((t4 - t1).toInt - (t3 - t2).toInt) / 2 + asym s p)
  | none => none

def meanOf (ds : List Int) : Int := if ds.isEmpty then 0 else ds.foldl (· + ·) 0 / ds.length

/-- An intact heartbeat (R296, R297, R302). -/
def heartbeatTake (s : State) (p : Port) (ws : List Word) : State :=
  let x := shrPort s p
  let cnt := if hasLock s p then (if x.hbSrc = fSrc ws then x.hbCnt + 1 else 1) else 0
  let ds := match delaySample s p (nth (fPay ws) 0) (nth (fPay ws) 1) with
    | some d => (d :: x.delays).take 16
    | none => x.delays
  let s := putShrPort s p { x with hbSrc := fSrc ws, hbCnt := cnt, hbLast := some s.tb.now, echoT := fTs ws, echoR := lo32 s.tb.now, delays := ds }
  let s := wf s (pstat p) 31 16 (BitVec.ofInt 16 (meanOf ds)).toNat
  if cnt ≥ 10 ∧ bit (nth (fPay ws) 2) 1 ∧ !portUp s p then
    let s := wf (sb s (pstat p) 1 true) (pstat p) 8 3 (fSrc ws)
    topoSend (linkSend s p (fSrc ws) true (lo32 s.tb.now))
  else s

/-- A heartbeat that is not intact ends the row of consecutive ones. -/
def heartbeatBad (s : State) (p : Port) : State := putShrPort s p { shrPort s p with hbCnt := 0 }

/-- LINK_LOSS (R298). -/
def linkLoss (s : State) (p : Port) : State :=
  match (shrPort s p).hbLast with
  | some t =>
    if ringRuns s && portUp s p && decide (t.toNat + 30000 ≤ s.tb.now.toNat) then portDown s p (lo32 s.tb.now) else s
  | none => s

/-- DLYBIG is set while RPTDLY is below the larger loop delay (R301). -/
def dlySettle (s : State) : State :=
  if 1000 * rf s Reg.shrCtl 4 0 < max (rf s Reg.shrLoop 15 0) (rf s Reg.shrLoop 31 16) then sb s Reg.shrStat 6 true else s

/-! ### Item tables (R309, R310) -/

/-- Entries of a table from its words. -/
def toItems : List Word → List (Word × Word)
  | a :: b :: r => (a, b) :: toItems r
  | _ => []

def itTarnOk (t : Nat) : Bool := decide (t < 60 ∨ t = 61)
def itLen (e : Word × Word) : Nat := fld e.1 26 18
def itSlot (e : Word × Word) : Nat := fld e.2 26 12
def itProd (e : Word × Word) : Nat := fld e.1 11 6
def itPartner (e : Word × Word) : Nat := fld e.1 17 12

def itemBad3 (e : Word × Word) : Bool :=
  bit e.1 0 && (decide (itLen e = 0 ∨ itLen e > 256) || decide (fld e.1 5 4 = 0) || decide (itProd e > 62) ||
    (decide (itPartner e > 62) && decide (itPartner e ≠ 0x3F)) || (bit e.1 4 && decide (fld e.2 5 0 > 62)) ||
    (bit e.1 5 && decide (fld e.2 11 6 > 62)))
def itemBad4 (s : State) (e : Word × Word) : Bool :=
  bit e.1 0 && bit e.1 1 && decide (nodeOf s ≠ itProd e) && decide (nodeOf s ≠ itPartner e)
def itemRx (e : Word × Word) : Bool := bit e.1 0 && bit e.1 2
def itemBad5 (es : List (Nat × (Word × Word))) (i : Nat) (e : Word × Word) : Bool :=
  itemRx e && (decide (itSlot e + 3 + itLen e > 0x8000) ||
    es.any fun f => decide (f.1 < i) && itemRx f.2 && meet (itSlot e) (3 + itLen e) (itSlot f.2) (3 + itLen f.2))

/-- First failing check of a table's entries: code and item. -/
def itemsError (s : State) (es : List (Word × Word)) : Option (Nat × Nat) :=
  let ix := indexed 0 es
  match ix.find? fun p => itemBad3 p.2 with
  | some p => some (3, p.1)
  | none =>
    match ix.find? fun p => itemBad4 s p.2 with
    | some p => some (4, p.1)
    | none => (ix.find? fun p => itemBad5 ix p.1 p.2).map fun p => (5, p.1)

def itRefuse (s : State) (c i : Nat) : State := wf (wf (sb s Reg.shrStat 1 true) Reg.shrStat 11 8 c) Reg.shrStat 23 12 i

/-- A write of SHR_ITCNT takes effect (R310); a table that fails has no effect, and SHR_ITCNT keeps its value. SHR reads the table itself; a table with an uncorrectable word is refused with
ITERR as it was (DESIGN CHOICE, log 18). -/
def itemDecide (s : State) (v : Word) : State × Bool :=
  let cnt := fld v 12 0
  let st := fld v 18 13
  let t := rf s Reg.shrItbl 5 0
  let off := rf s Reg.shrItbl 20 6
  if cnt > 4096 ∨ off + 2 * cnt > 0x8000 then (itRefuse s 1 0, false)
  else if !itTarnOk t ∨ !itTarnOk st then (itRefuse s 2 0, false)
  else
    match readWords s t off 36 (2 * cnt) with
    | (s, none) => (sb s Reg.shrStat 1 true, false)
    | (s, some ws) =>
      let es := toItems ws
      match itemsError s es with
      | some (c, i) => (itRefuse s c i, false)
      | none => ({ s with shr := { s.shr with waiting := some (v &&& 0x7FFFF#32, es) } }, true)
def itemTable (s : State) (v : Word) : State :=
  match itemDecide s v with
  | (s, true) => wr s Reg.shrItcnt v
  | (s, false) => s

/-- Step 3: the waiting item table comes into force. -/
def itemsInForce (s : State) : State :=
  match s.shr.waiting with
  | none => s
  | some (w, es) => { wr s Reg.shrItact w with shr := { s.shr with items := es, waiting := none } }

/-- A Shore outlet route is framed (R311): nothing from a node that does not send the item, and no Vital item in Tracking
(R271). -/
def itemSend (s : State) (i : Nat) (vital : Bool) (pay : List Word) : State :=
  match s.shr.items[i]? with
  | none => s
  | some e =>
    if !(bit e.1 0 && bit e.1 1) || (decide (s.dev = .tracking) && vital) then s
    else
      let body := (pay ++ List.replicate (itLen e) 0#32).take (itLen e)
      originate s 0x10 i (fld e.2 5 0) (fld e.2 11 6) (bit e.1 4) (bit e.1 5) (bit e.1 3) (lo32 s.tb.now) body

/-! ### Registers (R320) -/

/-- ROLE of this node. -/
def ringRole (s : State) : Nat :=
  if nodeOf s = 0 then (if s.shr.acting then 3 else 2)
  else if nodeOf s = 1 then (if s.shr.acting then 3 else 1) else 0

/-- Computed reads. -/
def shrRead (s : State) (a : Nat) : Option Word :=
  if a = Reg.shrStat then some (putFld (rd s a) 28 27 (ringRole s))
  else if a = Reg.shrPstata then some (putBit (rd s a) 2 (!portUp s .a && portUp s .b && ringEn s))
  else if a = Reg.shrPstatb then some (putBit (rd s a) 2 (!portUp s .b && portUp s .a && ringEn s))
  else if a = Reg.shrReach0 then some (setWord (reachSet s) 0)
  else if a = Reg.shrReach1 then some (setWord (reachSet s) 1)
  else if a = Reg.shrRoster0 then some (setWord (rosterList s) 0)
  else if a = Reg.shrRoster1 then some (setWord (rosterList s) 1)
  else none

/-- Acceptance of SHR writes. -/
def shrAccept (s : State) (a : Nat) (v : Word) : Option State :=
  let bad :=
    if a = Reg.shrNode then
      !(decide (s.dev = .config) || decide (s.dev = .maintenance)) ||
      (ringEn s && decide (fld v 5 0 ≠ nodeOf s)) || (bit v 6 && decide (fld v 5 0 = 0x3F))
    else if a = Reg.shrCtl then decide (fld v 4 0 < 1 ∨ 20 < fld v 4 0)
    else false
  if bad then some (sb s Reg.shrStat 0 true) else none

/-- Effects of SHR writes. -/
def shrEffect (s : State) (a : Nat) (v : Word) : Option State :=
  let s1 := wr s a (rwMerge s a v)
  if a = Reg.shrNode then some (settle s1)
  else if a = Reg.shrCtl then some (dlySettle s1)
  else if a = Reg.shrItcnt then some (itemTable s (rwMerge s a v))
  else none

/-! ### Rows that need no more than this file -/

/-- HEARTBEAT_SEND (R296). -/
def execHeartbeatSend (s : State) : Host.Outcome State Fault Refusal := .next (heartbeatSend s)
/-- LINK_LOSS (R298). -/
def execLinkLoss (p : Port) (s : State) : Host.Outcome State Fault Refusal := .next (linkLoss s p)
/-- TOPO_SEND (R299): an unadmitted node sends only HEARTBEAT and JOIN_REQ (R306). -/
def execTopoSend (s : State) : Host.Outcome State Fault Refusal := .next (topoSend s)
/-- FRAME_TRANSMIT (R291). -/
def execFrameTransmit (p : Port) (s : State) : Host.Outcome State Fault Refusal := .next (frameTransmit s p)

/-- SYNC_SEND (R303): the acting manager, at a multiple of 100 us; TSTAMP and the high word are set at the start block. -/
def syncSend (s : State) : State :=
  if ringRuns s && s.shr.acting && decide (s.tb.now.toNat % 100000 < 11) then flood s 5 0 [0, 0] else s
def execSyncSend (s : State) : Host.Outcome State Fault Refusal := .next (syncSend s)

/-- SYNCMISS (R303): no SYNC for 1 ms. -/
def syncMiss (s : State) : State :=
  match s.shr.syncLast with
  | some t =>
    if tbSrc s = 1 ∧ t.toNat + 1000000 ≤ s.tb.now.toNat then
      { sb (sb s Reg.tbStat 0 false) Reg.shrStat 4 true with shr := { s.shr with syncLast := none }, tb := { s.tb with err := 0 } }
    else s
  | none => s
def execSyncmiss (s : State) : Host.Outcome State Fault Refusal := .next (syncMiss s)

/-- JOIN_REQ_SEND (R306): a node that is not admitted. -/
def joinReqSend (s : State) : State :=
  if ringRuns s && !ringAdmitted s then flood s 7 (lo32 s.tb.now) [ringDigest s] else s
def execJoinReqSend (s : State) : Host.Outcome State Fault Refusal := .next (joinReqSend s)

/-- ROSTER_REMOVAL (R307). -/
def rosterRemoval (s : State) (n : Nat) : State :=
  match Sparse.get none s.shr.outside n with
  | some t =>
    if ringRuns s && s.shr.acting && rosterBit s n && decide (n ≠ nodeOf s) && decide (t.toNat + 10000000 ≤ s.tb.now.toNat) then
      trackOutside (rosterPut s n false)
    else s
  | none => s
def execRosterRemoval (n : Fin 63) (s : State) : Host.Outcome State Fault Refusal := .next (rosterRemoval s n.val)

/-- SHR_ALIVE_TIMEOUT and SHR_ALIVE_RESUMED (R317). -/
def execShrAliveTimeout (s : State) : Host.Outcome State Fault Refusal := .next (settle { s with shr := { s.shr with alive := false } })
def execShrAliveResumed (s : State) : Host.Outcome State Fault Refusal := .next (settle { s with shr := { s.shr with alive := true } })

/-- BLOCK_LOCK_GAINED and BLOCK_LOCK_LOST (R286): reception stops at once; the 30 us rule decides the loss (R298). -/
def execBlockLockGained (p : Port) (s : State) : Host.Outcome State Fault Refusal :=
  .next (if s.dev = .off ∨ s.dev = .reset then s else sb s (pstat p) 0 true)
def execBlockLockLost (p : Port) (s : State) : Host.Outcome State Fault Refusal :=
  .next (putShrPort (sb s (pstat p) 0 false) p { shrPort s p with hbCnt := 0 })

end Sys2Proof.Machine
end

