-- ==== Sys2Proof/Machine/Fabric.lean ====
section
/-! DEFINITION. The image fabric runs routes: inlet routes of the sweep and of events (R98), outlet routes after step 2 (R101),
their checks (R342, R518). -/

namespace Sys2Proof.Machine

/-- Check one range of a route for master 34: a denial is logged (R518). -/
def routeCheck (s : State) (t w need : Nat) : Option Denial := checkMem s (hwReq 34) (tarnAddr t w) need spData

/-- The source of an inlet route: its tarn and first word. For an attach route the message buffer; for a Shore route the
payload of the item's slot (R98, R312). -/
def inletSource (s : State) (r : Route) : Option (Nat × Nat) :=
  if r.kind = 1 then some (bufTarn s r.port, bufWord s r.port r.buf)
  else
    match s.shr.items[r.item]? with
    | some e => some (rf s Reg.shrItact 18 13, itSlot e + 3)
    | none => none

/-- The destination of an inlet route: the side that the fabric fills. -/
def inletDest (s : State) (r : Route) : Nat × Nat :=
  (fabricSide s Reg.imgInt Reg.imgIside r.app, rf s (Reg.imgInl + r.app) 14 0 + r.off / 4)

/-- An inlet route ends without its words: INSTALE at the hand-over (R342, R518). -/
def routeFails (s : State) (a : Nat) : State := putApp s a { app s a with routeBad := true }

/-- Write words as master 34. -/
def fabricWrite (s : State) (t w : Nat) : List Word → State
  | [] => s
  | v :: r => fabricWrite (writeTarnW s t w 34 v) t (w + 1) r

/-- Move the words of an inlet route (R342, R518). -/
def inletMove (s : State) (r : Route) : State :=
  match inletSource s r with
  | none => routeFails s r.app
  | some (t, w) =>
    let (dt, dw) := inletDest s r
    match routeCheck s t w needR with
    | some d => routeFails (logDenial s d) r.app
    | none =>
      match routeCheck s dt dw needW with
      | some d => routeFails (logDenial s d) r.app
      | none =>
        match readWords s t w 34 (r.len / 4) with
        | (s, none) => routeFails s r.app
        | (s, some ws) => fabricWrite s dt dw ws

/-- Both tarns of an inlet route answer; one that does not is asked to wake (R348). -/
def inletAsleep (s : State) (r : Route) : Option Nat :=
  let d := (inletDest s r).1
  match inletSource s r with
  | some (t, _) => if !tarnUp s t then some t else if !tarnUp s d then some d else none
  | none => none

/-- Apply route `i` for the sweep, where it is the next of its Application in table order, or for an event (R98). -/
def inletRoute (s : State) (i : Nat) : State :=
  match routeAt s i with
  | none => s
  | some r =>
    let x := app s r.app
    let sweep := decide (x.unswept.head? = some i)
    let event := s.inQ.contains i && !x.unswept.contains i
    if r.out || !x.filling || !(sweep || event) || !blocksRun s then s
    else
      match inletAsleep s r with
      | some t => askWake s t
      | none =>
        let s := putApp s r.app { x with unswept := if sweep then x.unswept.drop 1 else x.unswept }
        inletMove { s with inQ := s.inQ.filter (· ≠ i) } r

/-- The source of an outlet route: the side the fabric holds, or the safe image (R84, R101). -/
def outletSource (s : State) (r : Route) (safe : Bool) : Nat × Nat :=
  if safe then (mrkTarn s r.app, safeOff s r.app + r.off / 4)
  else (fabricSide s Reg.imgOutt Reg.imgOside r.app, rf s (Reg.imgOutl + r.app) 14 0 + r.off / 4)

/-- The words of an outlet route leave: one transmit record, with VALID set, or one item frame in each direction. -/
def outletSend (s : State) (r : Route) (ws : List Word) : State :=
  if r.kind = 1 then attPost s r.port (putNth ws 1 (putBit (nth ws 1) 31 true))
  else itemSend s r.item (match bankNow s with | some b => appVital s b r.app | none => false) ws

/-- Run route `i` of the outlet queue, where it is the next of its Application (R101). A denied or uncorrectable read sends
nothing in that cycle. -/
def outletRoute (s : State) (i : Nat) : State :=
  let head (a : Nat) : Option Nat := (s.outQ.find? fun p => decide (p.2.1.app = a)).map (·.1)
  match s.outQ.find? fun p => decide (p.1 = i ∧ head p.2.1.app = some i) with
  | none => s
  | some (_, r, safe) =>
    if !blocksRun s then s
    else
      let (t, w) := outletSource s r safe
      if !tarnUp s t then askWake s t
      else
        let s := { s with outQ := s.outQ.filter fun p => decide (p.1 ≠ i ∨ p.2.1.app ≠ r.app) }
        match routeCheck s t w needR with
        | some d => logDenial s d
        | none =>
          match readWords s t w 34 (r.len / 4) with
          | (s, none) => s
          | (s, some ws) => outletSend s r ws

/-- INLET_ROUTE (R98). -/
def execInletRoute (i : Fin 1024) (s : State) : Host.Outcome State Fault Refusal := .next (inletRoute s i.val)
/-- OUTLET_ROUTE (R101). -/
def execOutletRoute (i : Fin 1024) (s : State) : Host.Outcome State Fault Refusal := .next (outletRoute s i.val)

end Sys2Proof.Machine
end

