-- ==== Sys2Proof/Machine/MbxCore.lean ====
section
/-! DEFINITION. Mailbox channels: buffers, headers and completion (R425 to R429, R442). -/

namespace Sys2Proof.Machine

def chan (s : State) (c : Nat) : Mbx := Sparse.get State.mbxReset s.mbx c
def putChan (s : State) (c : Nat) (x : Mbx) : State := { s with mbx := Sparse.set State.mbxReset s.mbx c x }

/-- Word `i` of a channel's command buffer; its header fields and parameters (R428). -/
def cmdW (s : State) (c i : Nat) : Word := Sparse.get 0 (chan s c).cmd i
def cmdCode (s : State) (c : Nat) : Nat := fld (cmdW s c 0) 15 0
def cmdSid (s : State) (c : Nat) : Nat := fld (cmdW s c 1) 15 0
def cmdLen (s : State) (c : Nat) : Nat := fld (cmdW s c 1) 31 16
def param (s : State) (c i : Nat) : Word := cmdW s c (4 + i)
def paramBits (s : State) (c i hi lo : Nat) : Nat := fld (param s c i) hi lo
def cmdMaster (s : State) (c : Nat) : Nat := (chan s c).master

/-- STATUS values (R429). -/
def stOk : Nat := 0
def stBusy : Nat := 1
def stLength : Nat := 2
def stAborted : Nat := 3
def stJournal : Nat := 4
def stAppLimit : Nat := 5
def stNotAuth : Nat := 6
def stBadState : Nat := 7
def stNodeExcess : Nat := 8
def stBadParam : Nat := 9
def stUnknown : Nat := 10

/-- Overwrite words of a buffer from an index. -/
def putBuf (b : Sparse Word) (i : Nat) : List Word → Sparse Word
  | [] => b
  | w :: r => putBuf (Sparse.set 0 b i w) (i + 1) r

/-- A channel enters DONE with a response. -/
def respond (s : State) (c : Nat) (w1 hseq : Word) (abt : Bool) (data : List Word) : State :=
  let x := chan s c
  let s := putChan s c { x with st := 2, abt := abt, rsp := putBuf x.rsp 0 ([cmdW s c 0, w1, hseq, 0] ++ data) }
  let s := { s with goQ := s.goQ.filter (· ≠ c), waits := s.waits.filter fun w => decide (w.chan ≠ c) }
  hostWr s offHintstat (putBit (hostRd s offHintstat) c true)

/-- HSEQ (R428): JRN_HEAD after the last journaled write of a command that has waited, else as it stands. -/
def hseqOf (s : State) (c : Nat) : Word :=
  match s.waits.find? fun w => decide (w.chan = c) with
  | some w => w.hseq.getD (rd s Reg.jrnHead)
  | none => rd s Reg.jrnHead

/-- The session that a channel's command names: its idle time starts afresh (R432). -/
def Session.isOf (x : Session) (s : State) (c : Nat) : Bool := decide (x.sid = cmdSid s c ∧ x.master = cmdMaster s c)
def touch (s : State) (c : Nat) : State :=
  { s with sessions := s.sessions.map fun x => if x.authed && x.isOf s c then { x with lastUse := s.tb.now } else x }

/-- Complete a command with `rlen` bytes of data (R428). -/
def completeN (s : State) (c status reason rlen : Nat) (data : List Word) : State :=
  respond (touch s c) c (BitVec.ofNat 32 (status + reason * 2 ^ 8 + rlen * 2 ^ 16)) (hseqOf s c) false data
def complete (s : State) (c status reason : Nat) (data : List Word) : State := completeN s c status reason (4 * data.length) data

/-- The session's object is consumed (R435). -/
def freeObj (s : State) (c : Nat) : State :=
  { s with sessions := s.sessions.map fun x => if x.isOf s c then { x with obj := none } else x }

/-- Waiting commands that satisfy `p` end with a status. -/
def endWaits (s : State) (p : WaitCmd → Bool) (status reason : Nat) : State :=
  (s.waits.filter p).foldl (fun st w => complete st w.chan status reason []) s

/-- Is a waiting command an edit, and does it name an Application? -/
def WaitCmd.isEdit (w : WaitCmd) : Bool := match w.kind with | .edit _ _ _ => true | _ => false
def WaitCmd.editOf (w : WaitCmd) (p : Nat → Bool) : Bool := match w.kind with | .edit n _ _ => p n | _ => false
/-- Does it name a twin? -/
def WaitCmd.isTwin (w : WaitCmd) : Bool :=
  match w.kind with
  | .startStandby | .switchover _ | .swap _ => true
  | _ => false

/-- The channel logic answers for the stopped Wellspring (R442). -/
def channelAbort (s : State) (c : Nat) : State :=
  if s.wspStopped ∧ (chan s c).st = 1 then respond s c (BitVec.ofNat 32 stAborted) 0 true [] else s

/-- CHANNEL_ABORT (R442). -/
def execChannelAbort (c : Chan) (s : State) : Host.Outcome State Fault Refusal := .next (channelAbort s c.val)

end Sys2Proof.Machine
end

