-- ==== Sys2Proof/Machine/GrvCtl.lean ====
section
/-! DEFINITION. Groves: modes and registers (R251 to R255), fences (R260, R261), Spare takeover (R262 to R266), miscompares
(R257), quorum (R280, R281), and what a fault does to an armed edit (R250). -/

namespace Sys2Proof.Machine

/-! ### An armed edit meets a fault -/

def edArmed (s : State) : Bool := rb s Reg.schedEdctl 5
def edApp (s : State) : Nat := rf s Reg.schedEdctl 4 0
def edEid (s : State) : Nat := rf s Reg.schedEdctl 21 6
def edTwin (s : State) : Bool := rb s Reg.schedEdctl 22
def edSwap (s : State) : Bool := rb s Reg.schedEdctl 23
def edCyc (s : State) : Nat := (dbl (rd s Reg.schedEdcycl) (rd s Reg.schedEdcych)).toNat

/-- OMI status of a failed edit (R244). -/
def editStatus (reason : Nat) : Nat := if reason = 0x11 then stJournal else if reason = 0x0C then stAborted else stBadState

/-- An armed edit is abandoned: ARM clears, FAIL is set with the reason and EID, and the waiting EDIT_COMMIT
completes (R243, R244). -/
def editAbandon (s : State) (reason : Nat) : State :=
  let s :=
    if edArmed s then
      let s := sb (sb s Reg.schedEdctl 5 false) Reg.schedEdstat 1 true
      { wf (wf s Reg.schedEdstat 6 2 reason) Reg.schedEdstat 31 16 (edEid s) with edit := { s.edit with ego := false, commit := false, fail := 0 } }
    else s
  endWaits s (·.isEdit) (editStatus reason) reason

/-- Words of an EDIT_ABRT (payload layout: DESIGN CHOICE, log 20). -/
def abrtWord (eid reason : Nat) : Word := BitVec.ofNat 32 (eid + reason * 65536)
def twNode (s : State) : Nat := rf s Reg.grvTwctl 5 0
def bound (s : State) : Bool := rb s Reg.grvTwctl 6
def mgmtSend (s : State) (sub : Nat) (pay : List Word) : State := sendTo s 0x30 sub (twNode s) true pay
def twinSend (s : State) (sub : Nat) (pay : List Word) : State := sendTo s 0x20 sub (twNode s) true pay

/-- A fault abandons the armed or pending edit, on both devices (R250). -/
def editFault (s : State) : State :=
  if edArmed s || s.waits.any (·.isEdit) then
    let s := if bound s && (edTwin s || s.dev = .run) then mgmtSend s 3 [abrtWord (edEid s) 0x0C] else s
    editAbandon s 0x0C
  else s

/-- Does an entry of Application `a` in the bank in force name Grove `g`? -/
def appNames (s : State) (a g : Nat) : Bool :=
  match bankNow s with
  | some b => (gEnts s b).any fun e => decide (e.app = a) && namesGrove e g
  | none => false

/-! ### Fences -/

/-- Groves of the Glade that runs on `g`, other than `g`. -/
def gladeMates (s : State) (g : Nat) : List Nat :=
  match (grv s g).glade with
  | none => []
  | some r => (List.range 16).filter fun h => decide (h ≠ g) && decide ((grv s h).glade.map (·.entry) = some r.entry)

/-- General units whose recorded writer is in `es` stop as on STOP (R405). -/
def stopWriters (s : State) (es : List Nat) : State :=
  (List.range 16).foldl (fun st u => if gBusy st u && es.contains (cvuU st u).wm then cvuStop st u else st) s

/-- A fenced engine stops. -/
def stopEngine (s : State) (e : Nat) : State := putEng (idleEngine s e) e { eng (idleEngine s e) e with run := .stopped }

/-- A substitute that is fenced no longer substitutes (R264). -/
def dropSubstitute (s : State) (h : Nat) : State :=
  (List.range 16).foldl (fun st g =>
    if rb st (Reg.grvSub + g) 5 && decide (rf st (Reg.grvSub + g) 3 0 = h) then
      sb (sb st (Reg.grvSub + g) 5 false) (Reg.grvMode + h) 6 false
    else st) s

/-- Fence the engines of Grove `g` that `both` or `e` names (R260): its Application's cycle is discarded, the other Groves of
the Glade stop, and halts and requests of the Grove end (R405, R482). -/
def fenceGrove (s : State) (g : Nat) (es : List Nat) : State :=
  let whole := decide (es.length = 2) || !isSplit s g
  let s := es.foldl (fun st e => sb st Reg.grvFence e true) s
  let mates := gladeMates s g
  let s := match (grv s g).glade with | some r => discardApp s r.app | none => s
  let s := mates.foldl forceStop s
  let s := if whole then endGlade s g else s
  let s := es.foldl stopEngine s
  let s := holdSettle (putGrv s g { grv s g with haltReq := false, halted := false, stepping := false })
  let s := stopWriters s es
  let s := dropSubstitute { s with prepared := s.prepared &&& ~~~ (1#16 <<< g) } g
  if (edArmed s && appNames s (edApp s) g) || s.waits.any (fun w => w.editOf fun a => appNames s a g) then editFault s else s

/-- Engines of a word's bits within Grove `g`. -/
def enginesIn (w : Word) (g : Nat) : List Nat := [2 * g, 2 * g + 1].filter fun e => bit w e

/-- Fence every engine of a word (R260, R261). -/
def fenceWord (s : State) (w : Word) : State :=
  (List.range 16).foldl (fun st g => if (enginesIn w g).isEmpty then st else fenceGrove st g (enginesIn w g)) s

/-- GROVE_FENCE: the fence that a World Fault, miscompare or mismatch calls for (R214). -/
def groveFence (s : State) (g : Nat) : State :=
  let es := enginesIn s.fenceReq g
  if es.isEmpty then s
  else fenceGrove { s with fenceReq := s.fenceReq &&& ~~~ (3#32 <<< (2 * g)) } g es

/-- A Lockstep miscompare (R214, R257): an idle Grove presents no compared value. -/
def miscompare (s : State) (g : Nat) : State :=
  match (grv s g).glade with
  | none => s
  | some r =>
    if !isLockstep s g then s
    else
      let s := record s { faultOf 0x01 2 with
        master := BitVec.ofNat 6 (2 * g), app := BitVec.ofNat 5 r.app, grove := BitVec.ofNat 4 g, discard := true }
      let s := endGlade (discardApp s r.app) g
      let s := stopEngine (stopEngine s (2 * g)) (2 * g + 1)
      { s with fenceReq := s.fenceReq ||| (3#32 <<< (2 * g)) }

/-- A fence by the Wellspring is recorded (R413). -/
def fenceByWsp (s : State) (w : Word) : State :=
  (List.range 16).foldl (fun st g =>
    match enginesIn w g with
    | [] => st
    | e :: r =>
      let a := (grv st g).glade.map (·.app)
      let st := record st { faultOf 0x1C 2 with
        grove := BitVec.ofNat 4 g, app := BitVec.ofNat 5 (a.getD 0), discard := a.isSome }
      fenceGrove st g (e :: r)) s

/-- GRV_UNFENCE (R261): the Groves return as Spares, still to be prepared. -/
def unfence (s : State) (w : Word) : State :=
  (List.range 16).foldl (fun st g =>
    if bit w g then
      let st := sb (sb (sb st Reg.grvFence (2 * g) false) Reg.grvFence (2 * g + 1) false) (Reg.grvMode + g) 3 true
      let st := { st with prepared := st.prepared &&& ~~~ (1#16 <<< g), fenceReq := st.fenceReq &&& ~~~ (3#32 <<< (2 * g)) }
      let st := putEng st (2 * g) { eng st (2 * g) with run := .idle }
      putEng st (2 * g + 1) { eng st (2 * g + 1) with run := .idle }
    else st) s

/-! ### Registers -/

/-- May Grove `h` substitute for `g` (R262)? -/
def subFit (s : State) (g h : Nat) : Bool :=
  grvSpare s h && !grvFenced s h && grvIdle s h && decide (grvVital s h = grvVital s g) &&
  (List.range 16).all fun k => decide (k = g) || !((rb s (Reg.grvSub + k) 4 || rb s (Reg.grvSub + k) 5) && decide (rf s (Reg.grvSub + k) 3 0 = h))

def quietStates (s : State) : Bool := decide (s.dev = .config) || decide (s.dev = .safeHold) || decide (s.dev = .maintenance)

/-- Engines that GRV_ERSEL selects. -/
def erSel (s : State) : List Nat :=
  let g := rf s Reg.grvErsel 11 8
  (if rb s Reg.grvErsel 12 then [2 * g] else []) ++ (if rb s Reg.grvErsel 13 then [2 * g + 1] else [])

/-- Acceptance of GRV writes: WREJ, or ignored alone for fences of another master (R252, R255, R261, R262, R267, R280). -/
def grvAccept (s : State) (q : Req) (a : Nat) (v : Word) : Option State :=
  let rej := some (sb s Reg.grvStat 0 true)
  let w := decide (q.master = 32)
  if Reg.grvMode ≤ a ∧ a < Reg.grvMode + 16 then
    let g := a - Reg.grvMode
    if w && grvIdle s g && !grvFenced s g && !rb s a 6 && !groveInForce s g && decide (fld v 1 0 ≠ 3) &&
       !(bit v 2 && decide (fld v 1 0 = 2)) then none else rej
  else if a = Reg.grvFence then (if w then none else some s)
  else if a = Reg.grvUnfence then
    if !w then some s else if (List.range 16).any fun g => bit v g && groveInForce s g then rej else none
  else if a = Reg.grvErdat then
    let r := rf s Reg.grvErsel 7 0
    if w && decide (0x10 ≤ r ∧ r ≤ 0x1B) && grvIdle s (rf s Reg.grvErsel 11 8) then none else rej
  else if Reg.grvSub ≤ a ∧ a < Reg.grvSub + 16 then
    let g := a - Reg.grvSub
    if w && grvFenced s g && !rb s a 5 && (!bit v 4 || subFit s g (fld v 3 0)) then none else rej
  else if a = Reg.grvTwctl then (if w && quietStates s && decide (fld v 5 0 ≤ 62) then none else rej)
  else if Reg.grvQw ≤ a ∧ a < Reg.grvQw + 4 then (if w && quietStates s then none else rej)
  else none

/-- Ask PWR for a gated Grove (R509). -/
def askPower (s : State) (g : Nat) : State :=
  if gated s g then { s with pwr := { s.pwr with upReq := s.pwr.upReq ||| (1#16 <<< g) } } else s

/-- Effects of GRV writes. -/
def grvEffect (s : State) (a : Nat) (v : Word) : Option State :=
  if Reg.grvMode ≤ a ∧ a < Reg.grvMode + 16 then
    let g := a - Reg.grvMode
    let was := rb s a 3
    let s := wr s a (rwMerge s a v)
    some (if was && bit v 3 then s else { s with prepared := s.prepared &&& ~~~ (1#16 <<< g) })
  else if a = Reg.grvFence then some (fenceByWsp s (v &&& ~~~ rd s Reg.grvFence))
  else if a = Reg.grvUnfence then some (unfence s v)
  else if a = Reg.grvErdat then
    let r := rf s Reg.grvErsel 7 0
    some ((erSel s).foldl (fun st e => putEng st e (ersPut (eng st e) r (v &&& ersMask r))) (askPower s (rf s Reg.grvErsel 11 8)))
  else if a = Reg.grvQw + 3 then some (wr s a (v &&& 0x3FFFFFFF#32))
  else if Reg.grvGctl ≤ a ∧ (a - Reg.grvGctl) % 8 = 0 then
    some (wr s a (putFld (putFld (v &&& 0x1FFF#32) 8 5 (min 8 (fld v 8 5))) 12 9 (min 8 (fld v 12 9))))
  else none

/-- Computed reads (R251, R255). -/
def grvRead (s : State) (a : Nat) : Option Word :=
  if Reg.grvMode ≤ a ∧ a < Reg.grvMode + 16 then
    let g := a - Reg.grvMode
    some (putBit (putBit (rd s a) 4 (grvIdle s g)) 5 (grvFenced s g))
  else if a = Reg.grvErdat then
    let g := rf s Reg.grvErsel 11 8
    let r := rf s Reg.grvErsel 7 0
    let e := if rb s Reg.grvErsel 12 then 2 * g else 2 * g + 1
    some (if 0x10 ≤ r ∧ r ≤ 0x1B then ersGet (eng s e) r else 0)
  else none

/-! ### Takeover at step 1 (R263) -/

/-- Every tarn of Grove `g` passes to `h`. -/
def handTarns (s : State) (g h : Nat) : State :=
  (List.range 60).foldl (fun st t => if rf st (Reg.tarnOwn + t) 7 0 = ownGrove g then setOwner st t (ownGrove h) else st) s

/-- One pending takeover applies. -/
def takeover (s : State) (g : Nat) : State :=
  if !rb s (Reg.grvSub + g) 4 || rb s (Reg.grvSub + g) 5 then s
  else
    let h := rf s (Reg.grvSub + g) 3 0
    let s := sb (sb (wf s (Reg.grvMode + h) 1 0 (grvModeF s g)) (Reg.grvMode + h) 3 false) (Reg.grvMode + h) 6 true
    let s := sb (sb s (Reg.grvSub + g) 5 true) (Reg.grvSub + g) 4 false
    let s := handTarns (sb s Reg.grvStat 1 true) g h
    record { s with prepared := s.prepared &&& ~~~ (1#16 <<< h), noSpare := s.noSpare &&& ~~~ (1#16 <<< g) }
      { faultOf 0x18 2 with grove := BitVec.ofNat 4 g, masked := true, info := BitVec.ofNat 32 h }
def takeovers (s : State) : State := (List.range 16).foldl takeover s

/-- A bank swap ends every substitution (R265) and the want of a Spare (R266). -/
def endSubstitutions (s : State) : State :=
  let s := (List.range 16).foldl (fun st g =>
    if rb st (Reg.grvSub + g) 5 then sb (sb st (Reg.grvSub + g) 5 false) (Reg.grvMode + rf st (Reg.grvSub + g) 3 0) 6 false else st) s
  { s with noSpare := 0 }

/-- An Application names a Grove for which no Spare was found (R266). -/
def wantsSpare (s : State) (a : Nat) : Bool := (List.range 16).any fun g => s.noSpare.getLsbD g && grvFenced s (effGrove s g) && appNames s a g

/-! ### Quorum (R281) -/

def weight (s : State) (n : Nat) : Nat := if n = 63 then 0 else fld (rd s (Reg.grvQw + n / 16)) (2 * (n % 16) + 1) (2 * (n % 16))

/-- Evaluate quorum over the settled set, and show it (R283). -/
def quorumEval (s : State) : State × Bool :=
  let set := reachSet s
  let wt := ((List.range 63).map (weight s)).foldl (· + ·) 0
  let wr' := (set.map (weight s)).foldl (· + ·) 0
  let q := decide (wt = 0) || decide (2 * wr' > wt) || (decide (2 * wr' = wt) && set.contains 0 && rb s Reg.grvQstat 18)
  let s := wf (wf (sb s Reg.grvQstat 16 q) Reg.grvQstat 7 0 wr') Reg.grvQstat 15 8 wt
  let s := wr (wr s Reg.grvQreach0 (setWord set 0)) Reg.grvQreach1 (setWord set 1)
  (if q then s else sb s Reg.grvQstat 19 true, q)

/-! ### Rows -/

/-- LOCKSTEP_MISCOMPARE (R257). -/
def execLockstepMiscompare (g : Grv) (s : State) : Host.Outcome State Fault Refusal := .next (miscompare s g.val)
/-- GROVE_FENCE (R260). -/
def execGroveFence (g : Grv) (s : State) : Host.Outcome State Fault Refusal := .next (groveFence s g.val)
/-- WSP_FAULT (R408): the Wellspring runs in every state with OMI, and in Boot. -/
def execWspFault (s : State) : Host.Outcome State Fault Refusal :=
  .next (if s.dev = .off ∨ s.dev = .reset ∨ s.dev = .halted ∨ s.wspStopped then s else wspFault s)
/-- BOUNDARY_SEQUENCER_MISCOMPARE (R218). -/
def execBoundarySequencerMiscompare (s : State) : Host.Outcome State Fault Refusal :=
  .next (if blocksRun s then askSafeHold (record s { faultOf 0x15 3 with discard := true }) 0x08 else s)
/-- FAULT_RECORD (R412). -/
def execFaultRecord (r : FaultInfo) (s : State) : Host.Outcome State Fault Refusal :=
  .next (if s.dev = .off ∨ s.dev = .reset then s else record s r)

end Sys2Proof.Machine
end

