-- ==== Sys2Proof/Machine/Cmx.lean ====
section
/-! DEFINITION. Range maintenance (R335 to R339), Pond conversion and zeroing (R327), region attributes (R321). -/

namespace Sys2Proof.Machine

/-! ### Lines in the caches -/

/-- Insertion sort by a key, stable. -/
def insKey (key : Nat → Nat) (x : Nat) : List Nat → List Nat
  | [] => [x]
  | y :: r => if key x < key y then x :: y :: r else y :: insKey key x r
def sortKey (key : Nat → Nat) (xs : List Nat) : List Nat := xs.foldl (fun acc x => insKey key x acc) []

/-- Distinct elements, first occurrences kept. -/
def distinct (xs : List Nat) : List Nat := xs.foldl (fun acc x => if acc.contains x then acc else acc ++ [x]) []

def slotTags (m : Sparse (Option CLine)) : List Nat := m.filterMap fun p => p.2.map (·.tag)

/-- Groves that a command names. -/
def cmxGroves (c : CmxOp) : List Nat := (List.range 16).filter fun g => bit c.cmd (8 + g)

/-- Lines held in the L1 caches, and in the Lake, that a command names. -/
def cmxL1Tags (s : State) (c : CmxOp) : List Nat :=
  (cmxGroves c).flatMap fun g =>
    (if bit c.cmd 5 then slotTags (grv s g).l1d ++ (grv s g).victim.map (·.tag) else []) ++
    (if bit c.cmd 6 then slotTags (grv s g).l1i else [])
def cmxLakeTags (s : State) (c : CmxOp) : List Nat := if bit c.cmd 4 then slotTags s.lake else []

/-- A dirty line is lost by an operation (R333, R334, R335). -/
def cmxLost (s : State) (l : CLine) : State := sb (dirtyLost s l none) Reg.cmxStat 5 true

/-- What an operation does to an L1 D or victim line: the line that stays, if any (R333, R337, R338). -/
def l1dOp (s : State) (op : Nat) (l : CLine) : State × Option CLine :=
  if l.bad then (if l.dirty then (cmxLost s l, none) else (bump s Reg.cmxPerr 15 0 1, none))
  else
    let s := if l.dirty && decide (op = 2 ∨ op = 3) then lakeWriteBack s 35 l else s
    if op = 2 then (s, some { l with dirty := false }) else (s, none)

/-- Apply an operation to one line of an L1 D-cache with its victim cache. -/
def cmxL1d (s : State) (op g line : Nat) : State :=
  match l1Way (grv s g).l1d (4 - dWays s g) line with
  | some (w, l) =>
    let (s, k) := l1dOp s op l
    putGrv s g { grv s g with l1d := putL1 (grv s g).l1d (line % 128) w k }
  | none =>
    match (grv s g).victim.find? fun l => decide (l.tag = line) with
    | some l =>
      let (s, k) := l1dOp s op l
      putGrv s g { grv s g with victim := (grv s g).victim.filterMap fun x => if x.tag = line then k else some x }
    | none => s

/-- Apply an operation to one line of an L1 I-cache: nothing there is dirty. -/
def cmxL1i (s : State) (op g line : Nat) : State :=
  match l1Way (grv s g).l1i (4 - iWays s g) line with
  | some (w, l) =>
    let s := if l.bad then bump s Reg.cmxPerr 15 0 1 else s
    if l.bad ∨ op ≠ 2 then putGrv s g { grv s g with l1i := putL1 (grv s g).l1i (line % 128) w none } else s
  | none => s

def lkCount (s : State) (up : Bool) : State :=
  let n := rf s Reg.cmxLkcnt 15 0
  wf s Reg.cmxLkcnt 15 0 (if up then n + 1 else n - 1)
def cmxSkipped (s : State) : State := bump s Reg.cmxSkip 15 0 1

/-- Apply an operation to one Lake line (R333, R337, R338). -/
def cmxLake (s : State) (op : Nat) (force : Bool) (line : Nat) : State :=
  match lakeWay s line with
  | none => s
  | some (w, l) =>
    let set := line % 4096
    let gone (s : State) : State := if l.locked then lkCount (putLake s set w none) false else putLake s set w none
    if l.bad then (if l.dirty then cmxLost (gone s) l else bump (gone s) Reg.cmxPerr 31 16 1)
    else if op = 5 then (if l.locked then lkCount (putLake s set w (some { l with locked := false })) false else s)
    else
      let s := if l.dirty && decide (op = 2 ∨ op = 3) then
          nchWrite (putLake (putLine s line l.data) set w (some { l with dirty := false })) 35 line l.app
        else s
      if op = 2 then s
      else if l.locked && !force then cmxSkipped s
      else gone s

/-- Apply an operation to one line of every cache named: L1 before the Lake, so that what L1 writes back is met too. -/
def cmxL1Line (c : CmxOp) (s : State) (line : Nat) : State :=
  (cmxGroves c).foldl (fun st g =>
    let st := if bit c.cmd 5 then cmxL1d st c.op g line else st
    if bit c.cmd 6 then cmxL1i st c.op g line else st) s
def cmxLakeLine (c : CmxOp) (s : State) (line : Nat) : State := if bit c.cmd 4 then cmxLake s c.op (bit c.cmd 3) line else s

/-- The walk of an operation other than preload and Pond load: with ALL by sets, otherwise by ascending lines (R337). -/
def cmxWalk (s : State) (c : CmxOp) : State :=
  if bit c.cmd 7 then
    let s := (sortKey (· % 128) (sortKey id (distinct (cmxL1Tags s c)))).foldl (cmxL1Line c) s
    (sortKey (· % 4096) (sortKey id (cmxLakeTags s c))).foldl (cmxLakeLine c) s
  else
    let ls := (distinct (cmxL1Tags s c ++ cmxLakeTags s c)).filter fun n => decide (c.first ≤ n ∧ n ≤ c.last)
    (sortKey id ls).foldl (fun st n => cmxLakeLine c (cmxL1Line c st n) n) s

/-! ### Preload and Pond load -/

/-- Preload fills outstanding. -/
def preloads (s : State) : Nat :=
  (s.nchm.filter fun t => decide (t.use = .preload) && decide (t.done ≠ some false)).length

/-- One line of a preload: a hit is locked; a miss becomes a Lake fill; a set with 12 locked lines takes neither (R337). -/
def preloadLine (s : State) (line : Nat) : State :=
  let s := match lakeWay s line with
    | some (w, l) => if l.bad then (if l.dirty then sb (lakeDrop s 35 (line % 4096) w) Reg.cmxStat 5 true else lakeDrop s 35 (line % 4096) w) else s
    | none => s
  match lakeWay s line with
  | some (w, l) =>
    if l.locked then s
    else if lockedIn s (line % 4096) ≥ 12 then cmxSkipped (sb s Reg.cmxStat 4 true)
    else lkCount (putLake s (line % 4096) w (some { l with locked := true })) true
  | none =>
    if lockedIn s (line % 4096) ≥ 12 then cmxSkipped (sb s Reg.cmxStat 4 true)
    else
      match freeReadId s with
      | some i => { s with nchm := s.nchm ++ [(⟨i, line, 35, .preload, true, none⟩ : NchTxn)] }
      | none => s

/-- Take lines until 8 fills are outstanding or the range is done. -/
def preloadRun : Nat → State → State
  | 0, s => s
  | n + 1, s =>
    match s.cmx with
    | none => s
    | some c =>
      if c.op ≠ 4 ∨ c.next > c.last ∨ preloads s ≥ 8 ∨ (freeReadId s).isNone then s
      else preloadRun n (preloadLine { s with cmx := some { c with next := c.next + 1 } } c.next)
def preloadGo (s : State) : State :=
  match s.cmx with
  | some c => preloadRun (c.last + 1 - c.next) s
  | none => s

/-- Store a line in an I-Pond with good parity. -/
def ipondLine (s : State) (g o : Nat) (d : Line) : State :=
  let x := grv s g
  let p := (indexed 0 (lineBytes d)).foldl (fun m b => Sparse.set 0#8 m (o + b.1) b.2) x.ipond
  putGrv s g { x with ipond := p, pondBad := x.pondBad.filter fun k => !decide (o ≤ k ∧ k < o + 64) }

/-- A Pond load reads each source line through the Lake; a line that comes with an error is not written (R335, R337). -/
def pondLoad (s : State) (c : CmxOp) : State :=
  let g := (cmxGroves c).headD 0
  let o := 4 * rf s Reg.cmxPdst 11 0
  (List.range (c.last + 1 - c.first)).foldl (fun st i =>
    match lakeRead st 35 (c.first + i) with
    | (st, .ok d) => ipondLine st g (o + 64 * i) d
    | (st, .error _) => sb st Reg.cmxStat 5 true) s

/-! ### Commands -/

def cmxOpOf (s : State) (q : Req) (v : Word) : CmxOp :=
  let first := (rd s Reg.cmxStart).toNat / 64
  { op := fld v 2 0, first := first, last := (rd s Reg.cmxEnd).toNat / 64, cmd := v &&& 0xFFFFFF#32, next := first,
    master := q.master, vital := q.vital, sup := q.sup }

/-- The grants that an operation needs on its range (check 0x5). -/
def cmxNeed (op : Nat) : Nat := if op = 2 ∨ op = 6 then needR else needR + needW

/-- The first check of R336 that a command fails. -/
def cmxRefused (s : State) (q : Req) (v : Word) : Option Nat :=
  let c := cmxOpOf s q v
  let all := bit v 7
  let tgt := bit v 4 || bit v 5 || bit v 6
  let l1 := bit v 5 || bit v 6
  let gs := cmxGroves c
  if rb s Reg.cmxStat 0 then some 1
  else if c.op = 0 ∨ c.op = 7 ∨ (c.op ≤ 5 ∧ !tgt) ∨ ((c.op = 4 ∨ c.op = 5) ∧ l1) ∨ (c.op = 6 ∧ tgt) ∨ (l1 ∧ gs.isEmpty) then some 2
  else if !all && (decide (c.last < c.first) || (regionOf s (c.first * 64)).isNone ||
      decide (regionOf s (c.first * 64) ≠ regionOf s (c.last * 64))) then some 3
  else if decide (c.op = 6) && (decide (gs.length ≠ 1) || !grvIdle s (gs.headD 0) ||
      decide (4 * rf s Reg.cmxPdst 11 0 + 64 * (c.last + 1 - c.first) > iWays s (gs.headD 0) * 0x2000)) then some 4
  else if !all && (match regionOf s (c.first * 64) with | some r => !granted s (0x40 + r) q (cmxNeed c.op) | none => true) then some 5
  else if all && (decide (q.master ≠ 32) || decide (c.op = 4 ∨ c.op = 6)) then some 6
  else none

/-- A write of CMX_CMD that passes its checks (R337): the walk is made as a whole, then BUSY stays until the completion. -/
def cmxStart (s : State) (q : Req) (v : Word) : State :=
  let c := cmxOpOf s q v
  let s := (cmxGroves c).foldl (fun st g => if bit v 5 || bit v 6 || decide (c.op = 6) then askPower st g else st)
    (sb s Reg.cmxStat 0 true)
  if c.op = 4 then preloadGo { s with cmx := some c }
  else
    let s := if c.op = 6 then pondLoad s c else cmxWalk s c
    { s with cmx := some { c with next := if bit v 7 then 0x4000000 else c.last + 1 } }

/-- CMX_COMPLETION (R337): the last line and the last fill are done. -/
def cmxComplete (s : State) : State :=
  match s.cmx with
  | none => s
  | some c =>
    if !blocksRun s ∨ c.next ≤ c.last ∨ preloads s ≠ 0 then s
    else { sb (sb s Reg.cmxStat 0 false) Reg.cmxStat 1 true with cmx := none }

/-! ### Ponds (R327) -/

/-- Bytes and bad words of a Pond below an offset. -/
def pondKeep (base lim : Nat) (x : Grove) (isD : Bool) : Grove :=
  let bad := x.pondBad.filter fun k => !(decide (base ≤ k ∧ k < base + 0x4000)) || decide (k < base + lim)
  if isD then { x with dpond := x.dpond.filter fun p => decide (p.1 < lim), pondBad := bad }
  else { x with ipond := x.ipond.filter fun p => decide (p.1 < lim), pondBad := bad }

/-- A way of the D-cache is cleaned and invalidated. -/
def dWayClean (s : State) (g w : Nat) : State :=
  (List.range 128).foldl (fun st set =>
    match l1Slot (grv st g).l1d set w with
    | none => st
    | some l =>
      let st := putGrv st g { grv st g with l1d := putL1 (grv st g).l1d set w none }
      if l.bad then (if l.dirty then dirtyLost st l none else bump st Reg.cmxPerr 15 0 1)
      else if l.dirty then lakeWriteBack st 35 l else st) s
def iWayDrop (s : State) (g w : Nat) : State :=
  putGrv s g { grv s g with l1i := (grv s g).l1i.filter fun p => decide (p.1 / 128 ≠ w) }

/-- Ways of a cache that a conversion takes, `old` to `new`. -/
def waysTaken (old new : Nat) : List Nat := (List.range (new - old)).map fun i => 3 - old - i

/-- A write of CMX_PONDg takes effect: taken ways are cleaned and invalidated and read 0 as Pond, returned ways come back
invalid, and ZERO writes 0 with good parity to every word. -/
def pondWrite (s : State) (g : Nat) (v : Word) : State :=
  let i := iWays s g
  let d := dWays s g
  let i' := fld v 1 0
  let d' := fld v 3 2
  let s := (waysTaken d d').foldl (fun st w => dWayClean st g w) s
  let s := (waysTaken i i').foldl (fun st w => iWayDrop st g w) s
  let s := wr s (Reg.cmxPond + g) (v &&& 0xF#32)
  let x := pondKeep 0x4000 (if bit v 4 then 0 else 0x2000 * min d d') (pondKeep 0 (if bit v 4 then 0 else 0x2000 * min i i') (grv s g) false) true
  askPower (putGrv s g { x with pondBusy := true }) g

/-- POND_OPERATION_DONE (R327): BUSY clears. -/
def pondDone (s : State) (g : Nat) : State :=
  if blocksRun s then putGrv s g { grv s g with pondBusy := false } else s

/-! ### Registers -/

/-- Acceptance of CMX writes (R321, R327, R336). -/
def cmxAccept (s : State) (q : Req) (a : Nat) (v : Word) : Option State :=
  let wrej := some (sb s Reg.cmxStat 3 true)
  if a = Reg.cmxCmd then
    (cmxRefused s q v).map fun c => wf (sb s Reg.cmxStat 2 true) Reg.cmxStat 11 8 c
  else if Reg.cmxRattr ≤ a ∧ a < Reg.cmxRattr + 16 then (if rb s Reg.schedCtl 0 then wrej else none)
  else if Reg.cmxPond ≤ a ∧ a < Reg.cmxPond + 16 then
    let g := a - Reg.cmxPond
    if decide (q.master = 32) && grvIdle s g && !(grv s g).pondBusy && decide (fld v 1 0 ≠ 3) && decide (fld v 3 2 ≠ 3) then none
    else wrej
  else none

/-- Effects of CMX writes. -/
def cmxEffect (s : State) (q : Req) (a : Nat) (v : Word) : Option State :=
  if a = Reg.cmxCmd then some (cmxStart s q v)
  else if Reg.cmxPond ≤ a ∧ a < Reg.cmxPond + 16 then some (pondWrite s (a - Reg.cmxPond) v)
  else none

/-- Computed reads: BUSY of CMX_PONDg. -/
def cmxRead (s : State) (a : Nat) : Option Word :=
  if Reg.cmxPond ≤ a ∧ a < Reg.cmxPond + 16 then some (putBit (rd s a) 5 (grv s (a - Reg.cmxPond)).pondBusy) else none

/-! ### Rows -/

/-- CMX_COMPLETION (R337). -/
def execCmxCompletion (s : State) : Host.Outcome State Fault Refusal := .next (cmxComplete s)
/-- POND_OPERATION_DONE (R327). -/
def execPondOperationDone (g : Grv) (s : State) : Host.Outcome State Fault Refusal := .next (pondDone s g.val)

end Sys2Proof.Machine
end

