-- ==== Sys2Proof/Machine/EditChk.lean ====
section
/-! DEFINITION. Online edit: the checks of staging (R235 to R242, R244), the migration table and its run (R238, R239, R241). -/

namespace Sys2Proof.Machine

/-! ### The migration table -/

/-- An entry of the table (R238). -/
structure MigEnt where
  op    : Nat
  lane  : Nat
  conv  : Nat
  inv   : Bool
  count : Nat
  srcT  : Nat
  srcW  : Nat
  dstT  : Nat
  dstW  : Nat
  clean : Bool
deriving DecidableEq, Repr

def migEnt (w0 w1 w2 : Word) : MigEnt :=
  { op := fld w0 1 0, lane := fld w0 3 2, conv := fld w0 7 4, inv := bit w0 8, count := fld w0 31 16, srcT := fld w1 5 0,
    srcW := fld w1 20 6, dstT := fld w2 5 0, dstW := fld w2 20 6,
    clean := decide (fld w0 15 9 = 0 ∧ fld w1 31 21 = 0 ∧ fld w2 31 21 = 0) }

def migTable : List Word → List MigEnt
  | a :: b :: c :: r => migEnt a b c :: migTable r
  | _ => []

/-- Words read and written by an entry (R239). -/
def MigEnt.reads (m : MigEnt) : Nat := if m.op = 2 then 0 else if m.op = 3 ∧ m.conv = 6 then 2 * m.count else m.count
def MigEnt.writes (m : MigEnt) : Nat := if m.op = 3 ∧ (m.conv = 4 ∨ m.conv = 5) then 2 * m.count else m.count

/-- Tarns that an entry names. -/
def MigEnt.tarns (m : MigEnt) : List Nat := if m.op = 2 then [m.dstT] else [m.srcT, m.dstT]

/-- An entry that stands alone passes R238 to R240, for the masks of the two slots. -/
def MigEnt.fits (m : MigEnt) (oldMask newMask : Nat) : Bool :=
  m.clean && decide (m.op ≠ 0) && (decide (m.op ≠ 3) || decide (m.conv ≤ 8)) && decide (1 ≤ m.count ∧ m.count ≤ 0x8000) &&
  newMask.testBit m.dstT && decide (m.dstW + m.writes ≤ 0x8000) &&
  (decide (m.op = 2) || (oldMask.testBit m.srcT && decide (m.srcW + m.reads ≤ 0x8000)))

/-- Do two entries conflict: destinations that meet, or a tarn on two lanes? -/
def MigEnt.clash (x y : MigEnt) : Bool :=
  (decide (x.dstT = y.dstT) && meet x.dstW x.writes y.dstW y.writes) ||
  (decide (x.lane ≠ y.lane) && x.tarns.any y.tarns.contains)

/-- No entry conflicts with a later one. -/
def migClean : List MigEnt → Bool
  | [] => true
  | x :: r => !(r.any x.clash) && migClean r

def tableOk (es : List MigEnt) (oldMask newMask : Nat) : Bool := es.all (·.fits oldMask newMask) && migClean es

/-- T5 of a table (R241). -/
def t5Of (es : List MigEnt) : Nat :=
  40 + (List.range 4).foldl (fun m l =>
    max m ((es.filter fun e => decide (e.lane = l)).foldl (fun n e => n + 2 + max e.reads e.writes) 0)) 0

/-! ### Running it (R239, R241) -/

/-- The words that one entry writes for the words it reads, INV aside. -/
def migWords (m : MigEnt) : List Word → List Word
  | [] => []
  | w :: r =>
    if m.op = 1 then w :: migWords m r
    else match m.conv with
      | 0 => (w.extractLsb' 0 16).signExtend 32 :: migWords m r
      | 1 => (w.extractLsb' 0 16).setWidth 32 :: migWords m r
      | 2 => (w.extractLsb' 0 8).signExtend 32 :: migWords m r
      | 3 => (w.extractLsb' 0 8).setWidth 32 :: migWords m r
      | 4 => w :: (if w.msb then BitVec.allOnes 32 else 0#32) :: migWords m r
      | 5 => w :: 0#32 :: migWords m r
      | 6 =>
        match r with
        | hi :: t =>
          let d := (dbl w hi).toInt
          (if d > 2147483647 then 0x7FFFFFFF#32 else if d < -2147483648 then 0x80000000#32 else w) :: migWords m t
        | [] => []
      | 7 => (binToBcd 8 w).1 :: migWords m r
      | _ => (bcdToBin 8 w).1 :: migWords m r

/-- The request of the boundary sequencer: it presents the Wellspring's (DEDUCED, log 16). -/
def seqReq : Req := ⟨32, true, true⟩

/-- Words read by the sequencer after its check: none for a denial or an uncorrectable word. -/
def seqRead (s : State) (t w n : Nat) : State × Option (List Word) :=
  match checkMem s seqReq (tarnAddr t w) needR spData with
  | some d => (logDenial s d, none)
  | none => readWords s t w 32 n

/-- Words written by the sequencer after its check. -/
def seqWrite (s : State) (t w : Nat) (ws : List Word) : State × Bool :=
  match checkMem s seqReq (tarnAddr t w) needW spData with
  | some d => (logDenial s d, false)
  | none => ((indexed 0 ws).foldl (fun st p => writeTarnW st t (w + p.1) 32 p.2) s, true)

/-- Run one entry: false if a read or write failed (R246). -/
def migRun1 (s : State) (m : MigEnt) : State × Bool :=
  if m.op = 2 then seqWrite s m.dstT m.dstW (List.replicate m.count (if m.inv then BitVec.allOnes 32 else 0#32))
  else
    match seqRead s m.srcT m.srcW m.reads with
    | (s, none) => (s, false)
    | (s, some ws) =>
      let ws := if m.inv then ws.map (~~~ ·) else ws
      let out := migWords m ws
      seqWrite s m.dstT m.dstW (if m.inv then out.map (~~~ ·) else out)

/-- Run the table in entry order: lanes share no tarn, so their order does not show. -/
def migRun (s : State) : List MigEnt → State × Bool
  | [] => (s, true)
  | m :: r =>
    match migRun1 s m with
    | (s, true) => migRun s r
    | (s, false) => (s, false)

/-! ### The checks of R244, 0x01 to 0x07 -/

def slotSpan (h : List Word) : Nat := 0x100 + hdrCodeLen h

/-- A range lies wholly in one outer-memory region, and in one valid execute region of a world without SUPONLY (R235). -/
def slotPlaced (s : State) (vital : Bool) (a n : Nat) : Bool :=
  (match regionOf s a with | some r => decide (a + n ≤ 0x80000000) && regionHas s r ((a + n - 1) / 4096) | none => false) &&
  (List.range 8).any fun i =>
    let k := (if vital then 0 else 8) + i
    rb s (Reg.grvXrl + 2 * k) 0 && !rb s (Reg.grvXrl + 2 * k) 1 && decide (rf s (Reg.grvXrb + 2 * k) 31 6 ≤ a / 64) &&
    decide ((a + n - 1) / 64 ≤ rf s (Reg.grvXrl + 2 * k) 31 6)

/-- CRC-32C running value over code bytes read by a general unit for the Wellspring. -/
def codeFeed (s : State) (a n : Nat) : Nat → Nat → State × Option Nat
  | 0, reg => (s, some reg)
  | f + 1, reg =>
    if n = 0 then (s, some reg)
    else
      let k := min n (64 - a % 64)
      match feedRead s ⟨47, true, true⟩ a k with
      | (s, none) => (s, none)
      | (s, some bs) => codeFeed s (a + k) (n - k) f (crcFeed crc32cParam reg bs)
def codeCrc (s : State) (a n : Nat) : State × Option Word :=
  match codeFeed s a n (n / 64 + 2) (crc32cParam.init % 2 ^ crc32cParam.width) with
  | (s, none) => (s, none)
  | (s, some r) => (s, some (BitVec.ofNat 32 (crcFin crc32cParam r)))

/-- Entries of an Application in a bank, and the Groves they name. -/
def appEnts (s : State) (b : Bool) (a : Nat) : List GEnt := (gEnts s b).filter fun e => decide (e.app = a)
def appGroves (s : State) (b : Bool) (a : Nat) : List Nat := (List.range 16).filter fun g => (appEnts s b a).any (namesGrove · g)

/-- Reason 0x02: MAGIC, the zero fields, CODELEN, NSTG and DIV (R233). -/
def hdrBad (s : State) (b : Bool) (a : Nat) (h : List Word) : Bool :=
  decide (nth h 0 ≠ slotMagic) || decide (fld (nth h 2) 31 9 ≠ 0) || decide (nth h 7 ≠ 0) || (h.drop 56).any (fun w => decide (w ≠ 0)) ||
  decide (hdrCodeLen h = 0 ∨ hdrCodeLen h > 0x7FFFFF00) || decide (hdrNstg h ≠ appNstg s b a) || (appDiverse s a && !hdrDiv h)

/-- Reason 0x04: PC in the code, DSP and DSL in a tarn of the new mask, no valid gate entered in the active slot. -/
def entryBad (s : State) (base : Nat) (h : List Word) (oldBase oldSpan : Nat) : Bool :=
  let inMask (w : Word) : Bool := match placeOf w.toNat with | .tarn t _ => (hdrMask h).testBit t | _ => false
  let images := if hdrDiv h then [0, 1] else [0]
  ((List.range (hdrNstg h + 1)).any fun t => images.any fun i =>
    let pc := (hdrEntry h t i 0).toNat
    !(decide (base + 0x100 ≤ pc ∧ pc < base + slotSpan h)) || !inMask (hdrEntry h t i 1) || !inMask (hdrEntry h t i 2)) ||
  (List.range 32).any fun g =>
    let a := (rd s (Reg.grvGpc + 8 * g)).toNat
    rb s (Reg.grvGctl + 8 * g) 0 && decide (oldBase ≤ a ∧ a < oldBase + oldSpan)

/-- A tarn that R81, ATT_FLTp or ATT_BUFp uses (R240). -/
def tarnUsed (s : State) (t : Nat) : Bool :=
  appsAll.any (fun n => (sidesOf s n).contains t || (markersOf s n).contains t) ||
  (List.range 16).any fun p => attEn s p && (decide (rf s (Reg.attFlt + p) 5 0 = t) || decide (bufTarn s p = t))

/-- The Application's Groves have R and W on a tarn at User level of its world (R236). -/
def stateGranted (s : State) (b : Bool) (a t : Nat) : Bool :=
  let gs := appGroves s b a
  let o := rf s (Reg.tarnOwn + t) 7 0
  (decide (o = 3) || decide (o = ownApp a) || gs.all fun g => decide (o = ownGrove g)) &&
  gs.all fun g => ([2 * g] ++ (if isLockstep s g then [] else [2 * g + 1])).all fun e =>
    granted s t ⟨e, appVital s b a, false⟩ (needR + needW)

/-- Reason 0x05. -/
def stateBad (s : State) (b : Bool) (a : Nat) (h old : List Word) : Bool :=
  let both := hdrMask h ||| hdrMask old
  decide (hdrMask h &&& hdrMask old ≠ 0) || decide (both ≥ 2 ^ 60) ||
  (List.range 60).any fun t => both.testBit t && (tarnUsed s t || ((hdrMask h).testBit t && !stateGranted s b a t))

/-- CORE_CLK cycles per us as the Wellspring takes them (R490). -/
def coreNom (s : State) : Nat := rf s Reg.fltCknom 11 0

/-- Cycles of a boundary times 1000, and the gap in the same unit, a limit that rounds down (R490), for a cycle of a bank with step 5 = `t5` (R62, R242). -/
def dueIn (s : State) (b : Bool) (c : Nat) : List Nat := (List.range 32).filter fun n => appEn s b n && decide (c % appPer s b n = 0)
def chanLoad (s : State) (b : Bool) (due : List Nat) (c : Nat) : Nat :=
  (due.filter fun n => appVital s b n && decide (appCvch s b n = c)).foldl (fun k n => k + 8 + 4 * inLen s n) 0
def gapFits (s : State) (b : Bool) (c t5 : Nat) : Bool :=
  let nom := coreNom s
  let due := dueIn s b c
  let load := (List.range 16).foldl (fun m k => max m (chanLoad s b due k)) 0
  decide ((14 * due.length + 64 + load + t5) * 1000 + rf s Reg.schedAgrto 15 0 * 10 * nom ≤ rf s Reg.schedGap 15 0 * 10 * nom / 1000 * 1000)

/-- Clean and invalidate, with FORCE, the pending slot in the Lake and every I-cache (R237). -/
def slotFlush (s : State) (a n : Nat) : State :=
  cmxWalk s { op := 3, first := a / 64, last := (a + n - 1) / 64, cmd := 0xFFFF5B#32, next := a / 64, master := 32, vital := true, sup := true }

/-- The checks in ascending order: a reason, or the staged edit. `c` is the commit cycle once there is one, with the bank in
force then (DESIGN CHOICE, log 21: staging, which knows no cycle, makes only the first check of R242). -/
def editCheck (s : State) (a : Nat) (slotB : Bool) (off count : Nat) (c : Option (Nat × Bool)) : State × Except Nat Staged :=
  match bankNow s with
  | none => (s, .error 1)
  | some b =>
    if !appEn s b a ∨ activeB s a = slotB then (s, .error 1)
    else
      let base := slotBase s a slotB
      match readOuterN s base 64 with
      | (s, none) => (s, .error 2)
      | (s, some h) =>
        let old := shadowOf s a
        let oldBase := slotBase s a (activeB s a)
        let v := appVital s b a
        if hdrBad s b a h then (s, .error 2)
        else if !slotPlaced s v base (slotSpan h) ∨ !slotPlaced s v oldBase (slotSpan old) then (s, .error 3)
        else
          match codeCrc s (base + 0x100) (hdrCodeLen h) with
          | (s, none) => (s, .error 3)
          | (s, some k) =>
            if k ≠ hdrCodeCrc h then (s, .error 3)
            else if entryBad s base h oldBase (slotSpan old) then (s, .error 4)
            else if stateBad s b a h old then (s, .error 5)
            else
              match (if off + 3 * count > 0x8000 then (s, none) else seqRead s 61 off (3 * count)) with
              | (s, none) => (s, .error 6)
              | (s, some ws) =>
                let es := migTable ws
                if !tableOk es (hdrMask old) (hdrMask h) then (s, .error 6)
                else
                  let s := slotFlush s base (slotSpan h)
                  let t5 := t5Of es
                  if t5 > 20 * coreNom s then (s, .error 7)
                  else if (match c with | some (n, b') => !gapFits s b' n t5 | none => false) then (s, .error 7)
                  else (s, .ok { app := a, slotB := slotB, off := off, count := count, t5 := t5, crc := crc32c ws })

end Sys2Proof.Machine
end

