-- ==== Sys2Proof/Machine/Twin.lean ====
section
/-! DEFINITION. The hot-standby twin: Safe Hold entry (R408), roles, dropping the twin (R276), outcome records (R272), outlet
commits and checks (R258, R259, R406), snapshots (R274), copies for a join (R270). Payload layouts of TWIN and MGMT frames are
the model's (DESIGN CHOICE, log 20). -/

namespace Sys2Proof.Machine

/-! ### Roles -/

/-- The Application takes part in the pair: Vital in the bank in force, and running on the agreed inlet. -/
def twApp (s : State) (a : Nat) : Bool :=
  match bankNow s with
  | some b => bound s && appEn s b a && appVital s b a && (s.twin.live || s.twin.joined.contains a)
  | none => false
def isPri (s : State) : Bool := bound s && decide (s.dev = .run) && (s.twin.live || !s.twin.joined.isEmpty)
def isSby (s : State) : Bool :=
  bound s && ((decide (s.dev = .tracking) && s.twin.live) || (decide (s.dev = .config) && !s.twin.joined.isEmpty))

/-- TWSTAT bits of R277, and the Application of the last event. -/
def twStat (s : State) (i a : Nat) : State := wf (sb s Reg.grvTwstat i true) Reg.grvTwstat 12 8 a
def inStep (s : State) : Bool := rb s Reg.grvTwstat 0

/-! ### Safe Hold entry (R408) -/

/-- Vital Glades that an accepted LOSS lets run: their windows end within 20 us (R418). -/
def lossSpares (s : State) (g : Nat) : Bool :=
  match (grv s g).glade, bankNow s with
  | some r, some b => appVital s b r.app && decide (r.winEnd ≤ s.tb.now.toNat + 20000)
  | _, _ => false

/-- Every Weir is tripped and every cycle in progress discarded, but for the Glades that LOSS spares. -/
def stopForLoss (s : State) : State :=
  let keep := (List.range 16).filter (lossSpares s)
  let apps := keep.filterMap fun g => (grv s g).glade.map (·.app)
  let s := (List.range 16).foldl (fun st g => if keep.contains g then st else forceStop st g) s
  appsAll.foldl (fun st a => if apps.contains a || (app st a).doneAt.isSome then st else discardApp st a) s

/-- Status of the commands that a Safe Hold ends: a detected fault aborts every command in progress (R405); a planned entry ends
those of the twin. After WSP_FAULT the channel logic answers (R442). -/
def safeHoldWaits (s : State) (cause : Nat) : State :=
  if s.wspStopped then s
  else if cause = 4 then endWaits s (·.isTwin) stBadState 0
  else endWaits s (fun _ => true) stAborted 0

/-- The device enters Safe Hold with a cause of R28, from a state that R26 allows. -/
def enterSafeHold (s : State) (cause : Nat) : State :=
  if !(decide (s.dev = .config) || decide (s.dev = .run) || decide (s.dev = .tracking) || decide (s.dev = .maintenance)) then s
  else
    let pair := bound s && (decide (s.dev = .run) || decide (s.dev = .tracking))
    let s := editFault s
    let s := if pair then twinSend s (if cause = 9 then 7 else 8) [] else s
    let s := if cause = 9 then stopForLoss s else stopAll s
    let s := safeHoldWaits (setDev s .safeHold cause) cause
    { sb s Reg.grvTwstat 0 false with twin := State.twinReset }

/-! ### Dropping the twin -/

/-- The primary drops the twin (R276); `fault` tells whether the link or the pair failed, which abandons an armed edit (R250). -/
def dropTwin (s : State) (fault : Bool) : State :=
  if !(s.twin.live || s.twin.joining) then s
  else
    let s := twinSend s 6 []
    let s := sb (sb s Reg.grvTwstat 3 true) Reg.grvTwstat 0 false
    let s := { s with twin := State.twinReset }
    let s := endWaits s (·.isTwin) stBadState 0
    if fault && edArmed s && edTwin s then editFault s else s

/-- TWIN_LOST (R413): a member is lost and the other carries on. -/
def twinLost (s : State) : State := record s { faultOf 0x1B 0 with masked := true }

/-- A joining device gives up its join: the start command completes with BAD_STATE (R270). -/
def joinFail (s : State) : State :=
  let s := { s with twin := State.twinReset }
  endWaits s (fun w => decide (w.kind = .startStandby)) stBadState 0

/-! ### Outlet commit and check -/

def lastStage (s : State) (a : Nat) : List Nat :=
  match bankNow s with
  | some b => match stageEntry s a (appNstg s b a) with | some e => groveList e.groves | none => []
  | none => []
def appIsVital (s : State) (a : Nat) : Bool := match bankNow s with | some b => appVital s b a | none => false

/-- The cycle awaits its commit, and a Diverse one has compared equal (R406). -/
def commitReady (s : State) (a : Nat) : Bool :=
  (app s a).active && (app s a).doneAt.isSome && (!appDiverse s a || (app s a).compared)

/-- After an accepted LOSS, once no Glade continues and no commit is due, every Vital Application sends its safe image (R418). -/
def lossSend (s : State) : State :=
  if !blocksRun s || s.pwr.lossAt.isNone || s.pwr.lossSent || ((List.range 16).any fun g => (grv s g).glade.isSome) || appsAll.any (fun a => commitReady s a)
  then s
  else
    let s := { s with pwr := { s.pwr with lossSent := true } }
    appsAll.foldl (fun st a => if appIsVital st a && appOn st a then handOutlet st a true else st) s

/-- OUTLET_COMMIT (R406). -/
def outletCommit (s : State) (a : Nat) : State := if blocksRun s && commitReady s a then lossSend (commitApp s a) else s

/-- The two passes of a Diverse comparison (R258, R379): none where a read failed. -/
def diverseValues (s : State) (c a : Nat) : State × Option (Dbl × Dbl) :=
  let half := outLen s a / 2
  let t := heldSide s Reg.imgOutt Reg.imgOside a
  let w := rf s (Reg.imgOutl + a) 14 0
  let fold := BitVec.ofNat 32 a
  match hwJob s c 4 a fold t w half with
  | (s, none) => (s, none)
  | (s, some x) =>
    match hwRead s 34 t (w + half) half with
    | (s, none) =>
      (record s { faultOf 0x08 1 with master := 34#6, app := BitVec.ofNat 5 a, discard := true, addr := BitVec.ofNat 32 (tarnAddr t (w + half)) }, none)
    | (s, some ws) =>
      let (r, v) := vCheck s c fold (wordsBytes (ws.map (~~~ ·)))
      (putVRun s c r, some (x, v))

/-- DIVERSE_COMPARISON (R258). -/
def diverseCompare (s : State) (a : Nat) : State :=
  let x := app s a
  let g := effGrove s ((lastStage s a).headD 0)
  let c := (lastStage s a).headD 0
  if !(blocksRun s && x.active && x.doneAt.isSome && appDiverse s a && !x.compared) || (vJob s c).isSome then s
  else
    let late := match bankNow s with
      | some b => match stageEntry s a (appNstg s b a) with | some e => decide (winEnd s e ≤ s.tb.now.toNat) | none => false
      | none => false
    if late then overrunApp s a .window
    else
      match diverseValues s c a with
      | (s, none) => discardApp s a
      | (s, some (l, k)) =>
        if l = k then putApp s a { app s a with compared := true }
        else
          let s := record s { faultOf 0x03 2 with app := BitVec.ofNat 5 a, grove := BitVec.ofNat 4 g, discard := true }
          { discardApp s a with fenceReq := s.fenceReq ||| (3#32 <<< (2 * g)) }

/-- The outlet check of Application `a` waits or runs. -/
def checkDue (s : State) (a : Nat) : Bool :=
  appIsVital s a && decide ((app s a).ended = .committed) && !(app s a).cvOutReady && decide (outLen s a ≠ 0)
def checkChan (s : State) (a : Nat) : Nat := match bankNow s with | some b => appCvch s b a | none => 0
def checkRuns (s : State) (a : Nat) : Bool := decide (vJob s (checkChan s a) = some (.outlet a))

/-- OUTLET_CHECK (R259): the job starts when its channel is free. -/
def outletCheck (s : State) (a : Nat) : State :=
  let c := checkChan s a
  if blocksRun s && checkDue s a && (vJob s c).isNone then noteJob (putVJob s c (some (.outlet a))) c 3 a else s

/-- An outcome record of this member (R272), and its frame. -/
def recWords (r : TwinRec) : List Word :=
  [BitVec.ofNat 32 (r.app + 256 * b2n r.committed), r.cyc, lo32 r.cv, hi32 r.cv, r.progid]
def recOf (ws : List Word) : TwinRec :=
  { app := fld (nth ws 0) 4 0, cyc := nth ws 1, committed := bit (nth ws 0) 8, cv := dbl (nth ws 2) (nth ws 3), progid := nth ws 4 }
def putRec (rs : List TwinRec) (r : TwinRec) : List TwinRec := rs.filter (fun x => decide (x.app ≠ r.app)) ++ [r]
def sendRec (s : State) (a : Nat) (ok : Bool) (cv : Dbl) : State :=
  let r : TwinRec := { app := a, cyc := lo32 (app s a).cycleN, committed := ok, cv := cv, progid := hdrProgid (shadowOf s a) }
  twinSend { s with twin := { s.twin with mine := putRec s.twin.mine r } } 4 (recWords r)

/-- The outlet check value is formed (R259, R272, R379): a failed read takes the cycle back. -/
def checkDone (s : State) (a : Nat) : State :=
  let c := checkChan s a
  let t := heldSide s Reg.imgOutt Reg.imgOside a
  match hwJob (putVJob s c none) c 3 a (lo32 (app s a).cycleN) t (rf s (Reg.imgOutl + a) 14 0) (sentLen s a) with
  | (s, none) => putApp s a { app s a with ended := .discarded, discards := (app s a).discards + 1 }
  | (s, some v) =>
    let s := wr (wr s (vReg Reg.cvuVoutl c) (lo32 v)) (vReg Reg.cvuVouth c) (hi32 v)
    let s := putApp s a { app s a with cvOut := v, cvOutReady := true }
    if twApp s a then sendRec s a true v else s

/-- OUTLET_CHECK_DONE (R272). -/
def outletCheckDone (s : State) (a : Nat) : State := if blocksRun s && checkRuns s a then checkDone s a else s

/-! ### Digests (R268, R274) -/

/-- Words of a bank: its Applications and its valid entries. -/
def bankWords (s : State) (b : Bool) : List Word :=
  (List.range 32).map (appW s b) ++ (gEnts s b).flatMap fun e => (List.range 6).map (gWord s b e.m)
def bankDigest (s : State) (b : Bool) : Word := crc32c (bankWords s b)

/-- The items that two Wellsprings compare at a join. -/
def joinWords (s : State) : List Word :=
  let b := aBank s
  let vit := appsAll.filter fun n => appEn s b n && appVital s b n
  [rd s Reg.ipver >>> 16, Config.romId, BitVec.ofNat 32 (rf s Reg.idUpstat 15 0), rd s Reg.schedMcyc, rd s Reg.schedGap,
   rd s Reg.schedAgrto, rd s Reg.schedEpochl, rd s Reg.schedEpochh, rd s Reg.tbCtl, rd s Reg.grvQw, rd s (Reg.grvQw + 1),
   rd s (Reg.grvQw + 2), rd s (Reg.grvQw + 3)] ++
  vit.flatMap fun n =>
    [appW s b n] ++ ((gEnts s b).filter fun e => decide (e.app = n)).flatMap (fun e => (List.range 6).map (gWord s b e.m)) ++
    [Reg.imgInt, Reg.imgInl, Reg.imgOutt, Reg.imgOutl, Reg.imgMrkt, Reg.imgMrkl, Reg.imgRet, Reg.imgSafe].map (fun r => rd s (r + n)) ++
    (s.routes.filter fun r => r.out && decide (r.app = n)).flatMap (fun r => [r.w0, r.w1, r.w2, r.w3]) ++
    [hdrProgid (shadowOf s n), hdrCodeCrc (shadowOf s n)]
def joinDigest (s : State) : Word := crc32c (joinWords s)

/-- Conditions of R268 that each device sees for itself: TB locked, weight configured. -/
def joinFit (s : State) : Bool :=
  rb s Reg.tbStat 0 && decide (((List.range 63).map (weight s)).foldl (· + ·) 0 > 0) && schedOn s

/-- Twin frames of one cycle fit the link (R316): SNAP frames of every Vital inlet side and one RECORD each. -/
def joinLoad (s : State) : Nat :=
  (appsAll.filter fun n => appEn s (aBank s) n && appVital s (aBank s) n).foldl (fun k n =>
    let w := inLen s n
    let one (d : Nat) : Nat := (4 * (8 + d) + 9) / 8 + 1
    k + (w / 255) * one 255 + (if w % 255 = 0 then 0 else one (w % 255)) + (4 * (7 + 5) + 9) / 8 + 1) 0

/-! ### Copies of a join (R270) -/

/-- Ranges of an Application's copy: tarn, word, length. Word 62 and others as the primary holds them. -/
def copyRanges (s : State) (a : Nat) (side : Nat) : List (Nat × Nat × Nat) :=
  ((List.range 60).filter fun t => (hdrMask (shadowOf s a)).testBit t).map (fun t => (t, 0, 32768)) ++
  (if mrkLen s a = 0 then [] else [(mrkTarn s a, rf s (Reg.imgMrkl + a) 14 0, mrkLen s a)]) ++
  (if outLen s a = 0 then [] else [(side, rf s (Reg.imgOutl + a) 14 0, outLen s a)]) ++
  (if retLen s a = 0 then [] else [(62, rf s (Reg.imgRet + a) 14 0, 4 + 2 * retLen s a)])
def rangeWords (s : State) : List (Nat × Nat × Nat) → List Word
  | [] => []
  | (t, w, n) :: r => tarnRawN s t w n ++ rangeWords s r

/-- Cut words into frames of at most 254. -/
def cut254 : Nat → List Word → List (List Word)
  | 0, _ => []
  | f + 1, ws => if ws.isEmpty then [] else ws.take 254 :: cut254 f (ws.drop 254)

/-- A word range at a linear position of a list of ranges. -/
def placeAt : List (Nat × Nat × Nat) → Nat → Option (Nat × Nat)
  | [], _ => none
  | (t, w, n) :: r, i => if i < n then some (t, w + i) else placeAt r (i - n)

/-- JOIN_COPY words: kind, Application, last flag; then the index (log 20). -/
def jcWord (kind a : Nat) (last : Bool) : Word := BitVec.ofNat 32 (kind + a * 256 + b2n last * 65536)
def jcRequest : Nat := 1
def jcResult : Nat := 2
def jcData : Nat := 3
def jcFail : Nat := 4
def jcAck : Nat := 5

/-- The next Vital Application to copy. -/
def joinNext (s : State) : Option Nat :=
  appsAll.find? fun n => (match bankNow s with | some b => appEn s b n && appVital s b n | none => false) && !s.twin.joined.contains n

/-- Send every frame of a copy. -/
def sendFrames (s : State) (a : Nat) : List (Nat × List Word) → State
  | [] => s
  | [(i, ws)] => mgmtSend s 7 ([jcWord jcData a true, BitVec.ofNat 32 i] ++ ws)
  | (i, ws) :: r => sendFrames (mgmtSend s 7 ([jcWord jcData a false, BitVec.ofNat 32 i] ++ ws)) a r

/-- JOIN_COPY_SEND: in the quiet interval, from the commit of a cycle to step 1 of the next due boundary. -/
def joinCopySend (s : State) (a : Nat) : State :=
  let x := app s a
  if !(blocksRun s && !s.wspStopped && decide (s.dev = .run) && s.twin.joining && s.twin.jOut.isNone && decide (joinNext s = some a) &&
       decide (x.ended = .committed) && !x.active && decide (s.bnd.phase = .idle)) then s
  else
    let ws := rangeWords s (copyRanges s a (heldSide s Reg.imgOutt Reg.imgOside a))
    let fs := if ws.isEmpty then [[]] else cut254 (ws.length / 254 + 1) ws
    sendFrames { s with twin := { s.twin with jOut := some a } } a (indexed 0 fs)

/-- Write the words of one copy frame, as the Wellspring. -/
def copyStore (s : State) (rs : List (Nat × Nat × Nat)) : Nat → List Word → State
  | _, [] => s
  | i, w :: r =>
    match placeAt rs i with
    | some (t, k) => copyStore (writeTarnW s t k 32 w) rs (i + 1) r
    | none => copyStore s rs (i + 1) r

/-- A JOIN_COPY data frame at the joining device: frames are taken in order; after the last the Application runs on the agreed
inlet and its outlet counts as committed. -/
def copyTake (s : State) (a : Nat) (last : Bool) (i : Nat) (ws : List Word) : State :=
  if !s.twin.joining ∨ s.dev ≠ .config ∨ (i ≠ 0 ∧ i ≠ s.twin.jNext) then s
  else
    let s := copyStore s (copyRanges s a (heldSide s Reg.imgOutt Reg.imgOside a)) (254 * i) ws
    let s := { s with twin := { s.twin with jNext := i + 1 } }
    if !last then s
    else
      let s := (List.range 16).foldl (fun st g => if (grv st g).glade.map (·.app) = some a then forceStop st g else st) s
      let s := putApp s a { app s a with active := false, ended := .committed, hasOut := true, cvOutReady := true, doneAt := none }
      let s := { s with twin := { s.twin with jNext := 0, joined := if s.twin.joined.contains a then s.twin.joined else s.twin.joined ++ [a] } }
      mgmtSend s 7 [jcWord jcAck a true, 0]

/-! ### Snapshots (R274) -/

/-- Frames of a snapshot: data words with their offset, then the closing frame with the check value, the digest of the bank in
force and the edit's fields. -/
def snapFrames (s : State) (a off : Nat) : Nat → List Word → State
  | 0, _ => s
  | f + 1, ws =>
    if ws.isEmpty then s
    else snapFrames (twinSend s 1 (BitVec.ofNat 32 (off + a * 2 ^ 15) :: ws.take 255)) a (off + 255) f (ws.drop 255)
def snapClose (s : State) (a : Nat) (cv : Dbl) (ego : Option Word) : State :=
  twinSend s 1 [BitVec.ofNat 32 (0x80000000 + a * 2 ^ 15), lo32 cv, hi32 cv, bankDigest s (aBank s),
    match ego with | some e => 1#32 ||| (e <<< 16) | none => 0#32]

/-- The inlet side that the fabric fills: tarn and first word. -/
def fillSide (s : State) (a : Nat) : Nat × Nat := (fabricSide s Reg.imgInt Reg.imgIside a, rf s (Reg.imgInl + a) 14 0)

def putVin (s : State) (c : Nat) (v : Dbl) : State := wr (wr s (vReg Reg.cvuVinl c) (lo32 v)) (vReg Reg.cvuVinh c) (hi32 v)

/-! ### Rows -/

/-- OUTLET_COMMIT (R406). -/
def execOutletCommit (a : App) (s : State) : Host.Outcome State Fault Refusal := .next (outletCommit s a.val)
/-- DIVERSE_COMPARISON (R258). -/
def execDiverseComparison (a : App) (s : State) : Host.Outcome State Fault Refusal := .next (diverseCompare s a.val)
/-- OUTLET_CHECK (R259). -/
def execOutletCheck (a : App) (s : State) : Host.Outcome State Fault Refusal := .next (outletCheck s a.val)
/-- OUTLET_CHECK_DONE (R272). -/
def execOutletCheckDone (a : App) (s : State) : Host.Outcome State Fault Refusal := .next (outletCheckDone s a.val)
/-- JOIN_COPY_SEND (R270). -/
def execJoinCopySend (a : App) (s : State) : Host.Outcome State Fault Refusal := .next (joinCopySend s a.val)

end Sys2Proof.Machine
end

