-- ==== Sys2Proof/Machine/Boundary.lean ====
section
/-! DEFINITION. The boundary of a major cycle: steps 1 to 7 (R23, R48, R60, R62, R63, R83 to R86, R90), the twin's part
(R272 to R279), quorum and managers (R281, R305), the commit of an edit (R245, R246). A boundary that waits for the twin
stays in a phase of `Bnd` until a frame or a time-out lets it go on. -/

namespace Sys2Proof.Machine

/-- The cycle of the boundary in progress and the Applications due in it. -/
def bndCyc (s : State) : Nat := s.bnd.cyc.toNat
def dueNow (s : State) : List Nat := match bankNow s with | some b => dueIn s b (bndCyc s) | none => []
def setPhase (s : State) (p : BndPhase) : State := { s with bnd := { s.bnd with phase := p, since := s.tb.now } }
def agrNs (s : State) : Nat := 10 * rf s Reg.schedAgrto 15 0
/-- The wait in progress has lasted SCHED_AGRTO. -/
def waitOver (s : State) : Bool := decide (s.bnd.since.toNat + agrNs s ≤ s.tb.now.toNat)

/-! ### Step 1 -/

/-- Close the cycle of a due Application: stops in progress complete; a commit that is due is made; anything else still in
progress is a discard for want of a Spare, or an overrun whose window has ended (R62, R75, R258). -/
def closeApp (s : State) (a : Nat) : State :=
  let s := (List.range 16).foldl (fun st g =>
    if (grv st g).glade.map (·.app) = some a then
      groveStop (if (grv st g).trip.isSome then st else putGrv st g { grv st g with trip := some .window }) g
    else st) s
  if !(app s a).active then s
  else if commitReady s a then commitApp s a
  else if noSpareFor s a then discardApp s a
  else overrunApp s a .window

/-- Node 1 starts or stops acting as manager (R305). -/
def managerStep (s : State) (q : Bool) : State :=
  if !(ringEn s && decide (nodeOf s = 1)) then s
  else
    let zero := (reachSet s).contains 0 && (linksOf s 0).act
    if s.shr.acting then (if zero then { s with shr := { s.shr with acting := false } } else s)
    else if !zero && managerState s && (q || !(decide (s.dev = .run) || decide (s.dev = .tracking))) then startActing s 1
    else s

/-- The BEACON of a cycle (R304). -/
def beaconSend (s : State) : State :=
  if !(ringRuns s && s.shr.acting) then s
  else
    flood s 6 (lo32 s.tb.now)
      [rd s Reg.schedCych, ringDigest s, BitVec.ofNat 32 (b2n (rb s Reg.grvQstat 17) + 2 * nodeOf s), setWord (rosterList s) 0,
       setWord (rosterList s) 1, rd s Reg.shrLoop]

/-- Quorum at step 1 of a boundary in Run or Tracking (R281). -/
def quorumStep (s : State) : State × Bool :=
  let s := if nodeOf s = 0 then sb s Reg.grvQstat 18 (rb s Reg.grvQstat 17) else s
  if s.dev = .run ∨ s.dev = .tracking then
    match quorumEval s with
    | (s, true) => (s, true)
    | (s, false) => (enterSafeHold (record s { faultOf 0x19 3 with discard := true }) 7, false)
  else (s, true)

/-- A standby whose primary was reported lost becomes primary 12 us after the report (R279). -/
def promote (s : State) : State :=
  match s.twin.lostAt with
  | some t =>
    if s.dev = .tracking ∧ t.toNat + 12000 ≤ s.bnd.start.toNat then
      { sb (setDev s .run 5) Reg.grvTwstat 0 false with twin := State.twinReset }
    else s
  | none => s

/-- A joined device goes live at the boundary after the last Vital Application was copied (R270). -/
def joinStep (s : State) : State :=
  if s.twin.joining && (joinNext s).isNone then
    if s.dev = .config then
      let s := setDev { s with twin := { State.twinReset with live := true, mine := s.twin.mine, recs := s.twin.recs } } .tracking 4
      endWaits s (fun w => decide (w.kind = .startStandby)) stOk 0
    else { s with twin := { State.twinReset with live := true, mine := s.twin.mine, recs := s.twin.recs } }
  else
    match s.twin.jOut with
    | some a =>
      if (dueNow s).contains a then
        if s.twin.tries + 1 ≥ 16 then
          { mgmtSend s 7 [jcWord jcFail a true, 0] with twin := State.twinReset }
        else { s with twin := { s.twin with jOut := none, tries := s.twin.tries + 1 } }
      else s
    | none => s

/-- The old primary of a planned switchover hands over at step 1 of S (R278). -/
def switchStep (s : State) : State :=
  if s.twin.armed = some s.bnd.cyc ∧ s.dev = .run then
    let s := twinSend (setDev { s with twin := { s.twin with armed := none } } .tracking 5) 5 []
    (s.waits.filter fun w => match w.kind with | .switchover _ => true | _ => false).foldl (fun st w =>
      complete st w.chan stOk 0 [lo32 s.bnd.cyc, hi32 s.bnd.cyc]) s
  else s

/-- Outcome records of cycles that closed uncommitted, and of commits whose check is still to be made (R272). -/
def recordStep (s : State) (a : Nat) : State :=
  let x := app s a
  if !twApp s a || !x.started then s
  else
    let s := if checkDue s a then checkDone s a else s
    if s.twin.mine.any fun r => decide (r.app = a ∧ r.cyc = lo32 x.cycleN) then s else sendRec s a false 0

/-- The armed edit at step 1 (R245, R250): its Application's last cycle was committed, and nothing stands against it. -/
def editStep1 (s : State) (took : Bool) : State :=
  if !edArmed s then s
  else if edCyc s < bndCyc s then editAbandon s 0x0D
  else if edCyc s = bndCyc s then
    let a := edApp s
    let bad := decide ((app s a).ended ≠ .committed) || took || (!appIsVital s a && auxSuspended s)
    { s with edit := { s.edit with fail := if bad then 0x0A else 0, ego := false, commit := false } }
  else s

/-- EDIT_PREPD or SW_PREPD has not come before the boundary ahead of the cycle it was asked for: the primary withdraws
(R244, R247, R278). -/
def prepLate (s : State) (n : Nat) : State :=
  let late (w : WaitCmd) : Bool := match w.kind with | .edit _ c false => decide (c.toNat ≤ n + 1) | _ => false
  let s :=
    if s.waits.any late then endWaits (mgmtSend s 3 [abrtWord s.edit.eid.toNat 0x08]) late stBadState 9 else s
  let pend (o : Option Dbl) : Bool := match o with | some c => decide (c.toNat ≤ n + 1) | none => false
  if s.dev = .run ∧ (pend s.twin.prep ∨ pend s.twin.swapPrep) then
    let s := { mgmtSend s 6 [] with twin := { s.twin with prep := none, swapPrep := none } }
    endWaits s (fun w => match w.kind with | .switchover _ | .swap _ => true | _ => false) stBadState 0
  else s

/-- A takeover pending at this boundary concerns the Application. -/
def takeoverFor (s : State) (a : Nat) : Bool := (List.range 16).any fun g => rb s (Reg.grvSub + g) 4 && appNames s a g

/-- The suspension of Auxiliary Glades after SAG2 ends at the first boundary after the power-up (R417). -/
def auxRelease (s : State) : State :=
  if s.auxHeld && decide (vmonLevel s ≥ 2) && !((List.range 16).any fun g => isSplit s g && gated s g && s.pwr.upReq.getLsbD g) then
    { s with auxHeld := false }
  else s

/-! ### Step 2: records and hand-over -/

/-- Own records that a due Application's twin record is to meet. -/
def recsWanted (s : State) : List TwinRec :=
  s.twin.mine.filter fun r => (dueNow s).contains r.app && twApp s r.app && decide (r.cyc = lo32 (app s r.app).cycleN)
def twinRecOf (s : State) (r : TwinRec) : Option TwinRec := s.twin.recs.find? fun x => decide (x.app = r.app ∧ x.cyc = r.cyc)
def recsHere (s : State) : Bool := (recsWanted s).all fun r => (twinRecOf s r).isSome

/-- The first row of R273 that matches: 1 PROGID, 2 the standby has not committed, 3 the primary has not, 4 check values;
with the Application it matches. -/
def judgeRow (row : Nat) (pri sby : TwinRec) : Bool :=
  match row with
  | 1 => decide (pri.progid ≠ sby.progid)
  | 2 => !sby.committed
  | 3 => !pri.committed && sby.committed
  | _ => pri.committed && sby.committed && decide (pri.cv ≠ sby.cv)
def judge (s : State) : Option (Nat × Nat) :=
  let pairs := (recsWanted s).filterMap fun r => (twinRecOf s r).map fun t => if isPri s then (r, t) else (t, r)
  [1, 2, 3, 4].findSome? fun row => (pairs.find? fun p => judgeRow row p.1 p.2).map fun p => (row, p.1.app)

/-- The choice of the safe image at step 2 (R76, R84, R266, R407). -/
def safeChoice (s : State) (a : Nat) : Bool :=
  (appIsVital s a &&
    (match s.dev with | .boot | .config | .safeHold | .maintenance => true | .off | .reset | .run | .tracking | .halted => false)) ||
  rb s (Reg.schedOvrcnt + a) 22 || decide ((app s a).discards ≥ 2) || wantsSpare s a

def handAll (s : State) (due : List Nat) : State := due.foldl (fun st a => handOutlet st a (safeChoice st a)) s

/-! ### Step 3 -/

/-- The bank swap of this boundary (R60, R265): the new bank's Applications start afresh, those it leaves out stop filling. -/
def swapNow (s : State) : Bool := swapPend s && decide (dbl (rd s Reg.schedSwapl) (rd s Reg.schedSwaph) = s.bnd.cyc)
def swapStep (s : State) : State :=
  if !swapNow s then s
  else
    let b := aBank s
    let fresh := appsAll.filter fun n => appEn s (!b) n && !appEn s b n
    let gone := appsAll.filter fun n => appEn s b n && !appEn s (!b) n
    let s := sb (sb (sb s Reg.schedCtl 2 (!b)) Reg.schedCtl 4 false) Reg.schedStat 2 true
    let s := startApps (endSubstitutions s) fresh
    let s := gone.foldl (fun st n => putApp st n { app st n with filling := false, unswept := [] }) s
    handAll s (fresh.filter (dueNow s).contains)

/-- The armed edit at step 3 (R245): due, NSTG as the bank in force says, and the swap it requires applied. -/
def editStep3 (s : State) (swapped : Bool) : State :=
  if !(edArmed s && decide (edCyc s = bndCyc s) && decide (s.edit.fail = 0)) then s
  else
    let a := edApp s
    let b := aBank s
    if !(dueNow s).contains a || decide (hdrNstg s.edit.pend ≠ appNstg s b a) then { s with edit := { s.edit with fail := 0x0A } }
    else if edSwap s && !swapped then { s with edit := { s.edit with fail := 0x10 } }
    else s

/-! ### Step 4 -/

/-- The inlet check of one Application (R379); one that fails discards the cycle before it starts. -/
def inletCheck (s : State) (a : Nat) : State :=
  match bankNow s with
  | none => s
  | some b =>
    if !appVital s b a || decide (inLen s a = 0) then s
    else
      let c := appCvch s b a
      let (t, w) := fillSide s a
      match hwJob s c 1 a (lo32 s.bnd.cyc) t w (inLen s a) with
      | (s, some v) => putApp (putVin s c v) a { app s a with cvIn := v }
      | (s, none) => putApp s a { app s a with discardNext := true }

/-- The edit asks for the twin's agreement at this boundary (R245). -/
def egoOf (s : State) : Option Word :=
  if edArmed s && edTwin s && decide (edCyc s = bndCyc s) && decide (s.edit.fail = 0) then some (BitVec.ofNat 32 (edEid s)) else none

/-- Due Applications of the pair that have an inlet. -/
def snapApps (s : State) : List Nat := (dueNow s).filter fun a => twApp s a

/-- The primary sends its snapshots (R274). -/
def snapSend (s : State) (a : Nat) : State :=
  let (t, w) := fillSide s a
  let s := snapFrames s a 0 (inLen s a / 255 + 1) (tarnRawN s t w (inLen s a))
  snapClose s a (app s a).cvIn (egoOf s)

/-! ### Steps 5 to 7 -/

/-- Why an armed edit does not commit at its boundary; none where it does (R244, R245). -/
def editVerdict (s : State) : Option Nat :=
  if s.edit.fail ≠ 0 then some s.edit.fail
  else if !edTwin s then none
  else if s.dev = .run then
    if !s.twin.live then some 0x0B
    else if s.twin.agreed = some (true, BitVec.ofNat 32 (edEid s)) then none else some 8
  else if s.edit.commit then none else some 8

/-- Step 5 (R241, R245, R246). -/
def editStep5 (s : State) : State :=
  if !(edArmed s && decide (edCyc s = bndCyc s)) then s
  else
    let a := edApp s
    match editVerdict s with
    | some r => editAbandon s r
    | none =>
      let off := rf s Reg.schedEdmig 14 0
      let cnt := rf s Reg.schedEdmig 27 15
      let eid := edEid s
      let fail (s : State) : State := editAbandon (putApp s a { app s a with discardNext := true }) 0x0E
      match seqRead s 61 off (3 * cnt) with
      | (s, none) => fail s
      | (s, some ws) =>
        let es := migTable ws
        match migRun s es with
        | (s, false) => fail s
        | (s, true) =>
          let old := shadowOf s a
          let s := { s with shadow := Sparse.set [] s.shadow a s.edit.pend, edit := { s.edit with pend := old, staged := none, ego := false, commit := false } }
          let s := sb s Reg.schedAslot a (!activeB s a)
          let s := wf (sb s Reg.schedEdstat 0 true) Reg.schedEdstat 31 16 eid
          let s := sb (wf s Reg.schedEdtime 15 0 (t5Of es)) Reg.schedEdctl 5 false
          putApp s a { app s a with first := true }

/-- Step 6 for one Application (R83, R85, R90, R98). -/
def step6 (s : State) (a : Nat) : State :=
  let s := handInlet s a
  let x := app s a
  let bits := [false, false, x.first || !x.started, decide (x.ended = .overrun), rb s Reg.imgSafeout a, decide (s.dev = .run),
    decide (vmonLevel s ≠ 3), rb s Reg.imgStale a]
  fillStart (putApp s a { x with status := BitVec.ofNat 8 (ofBits bits), started := true, first := false }) a

/-- A cycle that does not start counts as discarded (R266, R275, R334, R407). -/
def cycleBarred (s : State) (a : Nat) : Bool :=
  (app s a).discardNext || (!appIsVital s a && auxSuspended s) || noSpareFor s a || (isSby s && s.twin.missAt.isSome && twApp s a)

/-- Step 7 for one Application: its cycle starts. -/
def step7 (s : State) (a : Nat) : State :=
  let x := { app s a with cycleN := s.bnd.cyc, nextStage := 0, doneAt := none, compared := false, discardNext := false,
                          cvOutReady := false, ended := .none }
  putApp s a (if cycleBarred s a then { x with active := false, ended := .discarded, discards := x.discards + 1 }
    else { x with active := true })

/-- A Glade that step 7 arms should have started already (R63). -/
def boundaryLate (s : State) (due : List Nat) : Bool :=
  match bankNow s with
  | none => false
  | some b => (gEnts s b).any fun e =>
      due.contains e.app && decide (e.stage = 0) && decide (cycNow s % appPer s b e.app = e.phase) && decide (winStart s e < s.tb.now.toNat)

/-- The waiting EDIT_COMMIT completes after step 7 of boundary C (R247). -/
def editFinish (s : State) : State :=
  (s.waits.filter fun w => match w.kind with | .edit _ c armed => armed && decide (c = s.bnd.cyc) | _ => false).foldl (fun st w =>
    complete st w.chan stOk 0 [lo32 s.bnd.cyc, hi32 s.bnd.cyc, BitVec.ofNat 32 (rf s Reg.schedEdstat 31 16),
      BitVec.ofNat 32 (rf s Reg.schedEdtime 15 0)]) s

/-- Steps 5 to 7. -/
def steps57 (s : State) : State :=
  let s := editStep5 { s with bnd := { s.bnd with phase := .idle } }
  let due := dueNow s
  let s := due.foldl step7 (due.foldl step6 s)
  let s := { s with twin := { s.twin with agreed := none, snaps := [] } }
  let s := editFinish s
  if boundaryLate s due then record (sb s Reg.schedStat 0 true) (faultOf 0x0F 0) else s

/-- Step 4: checks and snapshots, or the standby's wait for them. -/
def step4 (s : State) : State :=
  let due := dueNow s
  let tw := snapApps s
  if isSby s && !tw.isEmpty && s.twin.missAt.isNone then
    setPhase (due.foldl (fun st a => if tw.contains a then st else inletCheck st a) { s with twin := { s.twin with snaps := [] } }) .snapshots
  else
    let s := due.foldl inletCheck s
    if isPri s && !tw.isEmpty then setPhase (tw.foldl snapSend { s with twin := { s.twin with agreed := none } }) .agree
    else steps57 s

/-- Steps 2 (the hand-over, unless the primary has just given up its part) to 4; Safe Hold ends with step 3 (R408, R520). -/
def steps24 (s : State) (hand : Bool) : State :=
  let s := { s with bnd := { s.bnd with phase := .idle } }
  let s := if hand then handAll s (dueNow s) else s
  let swapped := swapNow s
  let s := swapStep s
  let due := dueNow s
  let s := itemsInForce (routesInForce (due.foldl cutoff s) due)
  let s := editStep3 s swapped
  if s.dev = .safeHold then s else step4 s

/-- Records judged are used up. -/
def recsDone (s : State) : State :=
  let ws := (recsWanted s).map (·.app)
  { s with twin := { s.twin with mine := s.twin.mine.filter fun r => !ws.contains r.app, recs := s.twin.recs.filter fun r => !ws.contains r.app } }

/-- HANDOFF reaches a standby whose primary did not commit (R273, R278): it enters Run alone. -/
def takeHandoffAlone (s : State) : State :=
  steps24 (sb (setDev { s with twin := State.twinReset } .run 5) Reg.grvTwstat 0 false) true

/-- Both records of every due Application are here: R273. -/
def recsJudge (s : State) : State :=
  let pri := isPri s
  match judge s with
  | none =>
    let any := !(recsWanted s).isEmpty
    steps24 (recsDone (if any then sb s Reg.grvTwstat 0 true else s)) true
  | some (3, _) =>
    if pri then steps24 (enterSafeHold (twinSend s 5 []) 6) false
    else if s.twin.handoff then takeHandoffAlone (recsDone s)
    else setPhase (recsDone s) .handoff
  | some (row, a) =>
    let s := if row = 4 then record (twStat s 2 a) { faultOf 0x0D (if pri then 0 else 3) with app := BitVec.ofNat 5 a, masked := pri } else s
    if pri then steps24 (dropTwin s true) true
    else steps24 (enterSafeHold s 6) true

/-- Step 2 begins: the member waits for the twin's records. -/
def step2 (s : State) : State :=
  if (isPri s || isSby s) && !(recsWanted s).isEmpty then
    let s := setPhase s .records
    if recsHere s then recsJudge s else s
  else steps24 s true

/-- HANDOFF reaches a standby that waits for it: it enters Run; in a planned switchover it sets SWDONE and goes on as the
primary of the pair (R278). -/
def takeHandoff (s : State) : State :=
  if s.twin.armed = some s.bnd.cyc then
    step2 (sb (setDev { s with twin := { s.twin with handoff := false, armed := none } } .run 5) Reg.grvTwstat 4 true)
  else takeHandoffAlone s

/-- The standby misses a record, a snapshot or HANDOFF (R275). -/
def setMiss (s : State) (a : Nat) : State :=
  if s.dev = .config then joinFail s
  else
    let s := sb (twStat s 1 a) Reg.grvTwstat 0 false
    { s with twin := { s.twin with missAt := match s.twin.missAt with | some t => some t | none => some s.tb.now } }

/-- Step 1 (R48, R62). -/
def step1 (s : State) (n : Nat) : State :=
  let d := BitVec.ofNat 64 n
  let s := wr (wr s Reg.schedCycl (lo32 d)) Reg.schedCych (hi32 d)
  let s := { s with cutSince := true, bnd := { s.bnd with cyc := d, start := s.tb.now, next := BitVec.ofNat 64 (n + 1) }
                    shr := { s.shr with pa := { s.shr.pa with meter := 0 }, pb := { s.shr.pb with meter := 0 } } }
  let due := dueNow s
  let took := edArmed s && takeoverFor s (edApp s)
  let s := takeovers (due.foldl closeApp s)
  let s := auxRelease s
  let (s, q) := quorumStep s
  let s := managerStep s q
  let s := beaconSend s
  let s := editStep1 s took
  let s := prepLate (promote s) n
  let s := switchStep (joinStep s)
  let s := due.foldl recordStep s
  if s.twin.armed = some d ∧ s.dev = .tracking then
    if s.twin.handoff then takeHandoff s else setPhase s .handoff
  else step2 s

/-- States in which SCHED cuts boundaries (R520). -/
def boundariesCut (s : State) : Bool := gladesRun s || decide (s.dev = .safeHold)

/-- MAJOR_CYCLE_BOUNDARY (R23, R48): the present time has reached the start of a cycle whose boundary has not yet been cut. -/
def boundary (s : State) : State :=
  match cycAt s with
  | some n =>
    if schedOn s && boundariesCut s && decide (s.bnd.phase = .idle) && decide (s.bnd.next.toNat ≤ n) then step1 s n else s
  | none => s

/-! ### Waits -/

/-- A boundary that waited goes on in Safe Hold (R410): steps 2 and 3 if it had not passed them. -/
def boundaryResume (s : State) : State :=
  match s.bnd.phase with
  | .idle => s
  | .handoff | .records => steps24 s true
  | .agree | .snapshots => { s with bnd := { s.bnd with phase := .idle } }

/-- SAFE_HOLD_ENTRY (R408): the requested entry is made, in the states R26 allows. -/
def safeHoldEntry (s : State) : State :=
  match s.safeReq with
  | none => s
  | some c => boundaryResume (enterSafeHold { s with safeReq := none } c)

/-- The primary goes on alone from step 4 (R248, R274): an edit bound to this boundary lacks EACK. -/
def agreeFails (s : State) : State :=
  let s := if (egoOf s).isSome then { s with edit := { s.edit with fail := 8 } } else s
  steps57 (dropTwin s false)

/-- AGREEMENT_TIMEOUT (R64, R274): the primary proceeds alone. A standby's wait for its snapshots ends alike, with MISS (R275). -/
def agreementTimeout (s : State) : State :=
  if !waitOver s then s
  else match s.bnd.phase with
    | .agree =>
      agreeFails (record (sb s Reg.schedStat 19 true) (faultOf 0x0C 0))
    | .snapshots =>
      let tw := snapApps s
      steps57 (setMiss s (tw.headD 0))
    | _ => s

/-- RECORD_WAIT_TIMEOUT (R273). -/
def recordTimeout (s : State) : State :=
  if s.bnd.phase ≠ .records ∨ !waitOver s then s
  else
    let a := (((recsWanted s).find? fun r => (twinRecOf s r).isNone).map (·.app)).getD 0
    if isPri s then steps24 (dropTwin s true) true else steps24 (recsDone (setMiss s a)) true

/-- HANDOFF_TIMEOUT (R278): the standby disarms, stays in Tracking and meets R275. -/
def handoffTimeout (s : State) : State :=
  if s.bnd.phase ≠ .handoff ∨ !waitOver s then s
  else
    let s := { s with twin := { s.twin with armed := none, handoff := false } }
    steps24 (setMiss s 0) true

/-- MISS_TIMEOUT (R275): no report within 40 us of the first miss. -/
def missTimeout (s : State) : State :=
  match s.twin.missAt with
  | some t =>
    if s.dev = .tracking ∧ s.twin.lostAt.isNone ∧ t.toNat + 40000 ≤ s.tb.now.toNat then askSafeHold s 6 else s
  | none => s

/-! ### Rows -/

/-- MAJOR_CYCLE_BOUNDARY (R23). -/
def execMajorCycleBoundary (s : State) : Host.Outcome State Fault Refusal := .next (boundary s)
/-- AGREEMENT_TIMEOUT (R64). -/
def execAgreementTimeout (s : State) : Host.Outcome State Fault Refusal := .next (agreementTimeout s)
/-- RECORD_WAIT_TIMEOUT (R273). -/
def execRecordWaitTimeout (s : State) : Host.Outcome State Fault Refusal := .next (recordTimeout s)
/-- HANDOFF_TIMEOUT (R278). -/
def execHandoffTimeout (s : State) : Host.Outcome State Fault Refusal := .next (handoffTimeout s)
/-- MISS_TIMEOUT (R275). -/
def execMissTimeout (s : State) : Host.Outcome State Fault Refusal := .next (missTimeout s)
/-- SAFE_HOLD_ENTRY (R408). -/
def execSafeHoldEntry (s : State) : Host.Outcome State Fault Refusal := .next (safeHoldEntry s)

end Sys2Proof.Machine
end

