-- ==== Sys2Proof/Machine/IoRegs.lean ====
section
/-! DEFINITION. What each register of IO-space does (R12 to R14): its value for a reader, what a read changes, when a write is
accepted, and what an accepted write does, block by block. -/

namespace Sys2Proof.Machine

/-! ### Storage -/

/-- The Application and Glade windows, which show the bank that WBANK names (R49, R54, R57). -/
def banked (a : Nat) : Bool := decide (Reg.schedApp ≤ a ∧ a < Reg.schedApp + 32) || decide (Reg.schedGoff ≤ a ∧ a < Reg.schedGoff + 512)
def ioKey (s : State) (a : Nat) : Nat := if banked a then bankKey (wBank s) a else a

/-- The word left by a write to the RW, W1C and W1S fields of a register (R12); `only` limits the bits that change. -/
def plainWord (r : RegRow) (old v only : Word) : Word :=
  let rw := BitVec.ofNat 32 r.rw &&& only
  let w := (old &&& ~~~ rw) ||| (v &&& rw)
  (w &&& ~~~ (v &&& BitVec.ofNat 32 r.w1c &&& only)) ||| (v &&& BitVec.ofNat 32 r.w1s &&& only)
def plainWrite (s : State) (a : Nat) (v only : Word) : State :=
  match rowOf a with
  | none => s
  | some r => wr s (ioKey s a) (plainWord r (rd s (ioKey s a)) v only)
def plain (s : State) (a : Nat) (v : Word) : State := plainWrite s a v (BitVec.allOnes 32)

def inRange (a base n : Nat) : Bool := decide (base ≤ a ∧ a < base + n)

/-! ### ICU (R352 to R369) -/

/-- Word of a source set that a register shows, if it is one: pending, enable, own pending (R357). -/
def icuRead (s : State) (q : Req) (a : Nat) : Option Word :=
  if inRange a Reg.icuPend 8 then some (rd s a &&& icuWorldMask s q.vital (a - Reg.icuPend))
  else if inRange a Reg.icuEn 8 then some (rd s a &&& icuWorldMask s q.vital (a - Reg.icuEn))
  else if inRange a Reg.icuMine 8 then some (if q.master ≤ 32 then icuMine s q.master (a - Reg.icuMine) else 0)
  else none

/-- R356. -/
def icuAccept (s : State) (q : Req) (a : Nat) (v : Word) : Option State :=
  if inRange a Reg.icuSrc 256 && !(decide (q.master = 32) && decide (fld v 13 8 ≤ 32)) then some (sb s Reg.icuStat 0 true) else none

def icuEffect (s : State) (q : Req) (a : Nat) (v : Word) : State :=
  if a = Reg.icuDbell then doorbell s q.vital v
  else if inRange a Reg.icuPend 8 then plainWrite s a v (icuWorldMask s q.vital (a - Reg.icuPend))
  else if inRange a Reg.icuEn 8 then icuSettle s (plainWrite s a v (icuWorldMask s q.vital (a - Reg.icuEn)))
  else icuSettle s (plain s a v)

/-! ### CVU (R372 to R382) -/

def cvuUnitOf (a : Nat) : Nat := (a - 0x400) / 16
def cvuChanOf (a : Nat) : Nat := (a - 0x500) / 16
def isGen (a : Nat) : Bool := decide (0x400 ≤ a ∧ a < 0x500)
def isVit (a : Nat) : Bool := decide (0x500 ≤ a ∧ a < 0x600)

/-- The half of a value of `w` bits that a register holds: bits above read 0 (R372). -/
def widthMask (w : Nat) (hi : Bool) : Word := BitVec.ofNat 32 ((2 ^ w - 1) / (if hi then 2 ^ 32 else 1))
def gMask (s : State) (a : Nat) : Word :=
  let k := a % 16
  if k = 5 ∨ k = 6 ∨ k = 9 ∨ k = 10 then widthMask (gParam s (cvuUnitOf a)).width (decide (k = 6 ∨ k = 10)) else BitVec.allOnes 32
def vMask (s : State) (a : Nat) : Word :=
  let k := a % 16
  if k = 5 ∨ k = 6 then widthMask (vParam s (cvuChanOf a)).width (decide (k = 6)) else BitVec.allOnes 32

def cvuRead (s : State) (q : Req) (a : Nat) : Option Word :=
  if isGen a then
    if a % 16 = 14 then some (putBit (rd s a) 0 (gBusy s (cvuUnitOf a))) else some (rd s a &&& gMask s a)
  else if isVit a then some (if q.vital then rd s a &&& vMask s a else 0)
  else none

/-- R373, R378, R381. -/
def cvuAccept (s : State) (q : Req) (a : Nat) (v : Word) : Option State :=
  if isGen a then
    let u := cvuUnitOf a
    let k := a % 16
    let bad := (decide (k = 0) && (gBusy s u || decide (fld v 2 0 ≥ 6))) || (decide (k = 3 ∨ k = 4 ∨ k = 5 ∨ k = 6) && gBusy s u)
    if bad then some (sb s (gReg Reg.cvuGstat u) 4 true) else none
  else if isVit a then (if q.vital && q.sup then none else some s)
  else if a = Reg.cvuVcfg then
    if q.master = 32 ∧ !rb s Reg.schedCtl 0 ∧ fld v 2 0 ≤ 3 ∧ fld v 5 3 ≤ 3 then none else some (sb s Reg.cvuVcfg 31 true)
  else none

/-- The writer of a GO is an engine in a running Glade of a Vital Application (R380). -/
def inVitalGlade (s : State) (m : Nat) : Bool :=
  match engApp s m, bankNow s with
  | some a, some b => appVital s b a
  | _, _ => false

/-- The entries that a command write queues, in order (R374). -/
def cmdEntries (v : Word) : List CvuCmd :=
  (if bit v 0 then [.init] else []) ++ (if bit v 1 then [.go] else []) ++ (if bit v 2 then [.fin] else [])

/-- None where the queue cannot take the entries and the write is held (R374). A write of CVU_GCFGu records the writer, and the
unit takes a programmable set's parameters as they stand until an INIT latches them (R377; DEDUCED, log 22). -/
def cvuEffect (s : State) (q : Req) (a : Nat) (v : Word) : Option State :=
  if isGen a then
    let u := cvuUnitOf a
    match a % 16 with
    | 0 => some (plain (putCvu s u { cvuU s u with wm := q.master, wv := q.vital, ws := q.sup, set := [] }) a v)
    | 1 => cvuPush (if bit v 3 then cvuStop s u else s) u (cmdEntries v)
    | 11 => cvuPush s u [.feed 1 v]
    | 12 => cvuPush s u [.feed 2 v]
    | 13 => cvuPush s u [.feed 4 v]
    | _ => some (plain s a (v &&& gMask s a))
  else if isVit a then
    if a % 16 = 1 then some (if bit v 0 then vGo s q (cvuChanOf a) (inVitalGlade s q.master) else s)
    else some (plain s a (if a % 16 = 0 then v else v &&& vMask s a))
  else some (plain s a v)

/-! ### SCHED (R49 to R78, R232, R243) -/

def schedRead (s : State) (q : Req) (a : Nat) : Option Word :=
  if a = Reg.schedCych then some ((Sparse.get none s.tb.cycH q.master).getD (rd s a))
  else if inRange a Reg.schedWcyc 16 then
    let g := a - Reg.schedWcyc
    some (putBit (BitVec.ofNat 32 (weirCyc s g % 2 ^ 25)) 31 (grv s g).counting)
  else if inRange a Reg.schedWbeat 16 then some (BitVec.ofNat 32 (weirBeats s (a - Reg.schedWbeat) % 2 ^ 21))
  else none

/-- Period of the edited Application, from the bank swapped in where SWAPW asks for it (R243). -/
def edPer (s : State) (v : Word) : Nat := appPer s (aBank s != bit v 23) (fld v 4 0)

/-- The conditions on a write of ARM = 1 (R243). -/
def armOk (s : State) (v : Word) : Bool :=
  appOn s (fld v 4 0) && decide (edCyc s ≥ cycNow s + 2) && decide (edCyc s % edPer s v = 0) &&
  (!bit v 23 || (swapPend s && decide ((dbl (rd s Reg.schedSwapl) (rd s Reg.schedSwaph)).toNat = edCyc s)))

/-- An edit is armed, or its pending shadow is being read (R243). -/
def edHeld (s : State) : Bool := edArmed s || s.edit.arming

/-- Fields of SCHED_EDCTL other than ARM agree. -/
def edSame (s : State) (v : Word) : Bool := decide ((rd s Reg.schedEdctl ^^^ v) &&& 0xFFFFDF#32 = 0)

def edAccept (s : State) (a : Nat) (v : Word) : Bool :=
  if a = Reg.schedEdctl then
    if edHeld s then !bit v 5 || edSame s v else !bit v 5 || armOk s v
  else if a = Reg.schedEdmig then !edHeld s && decide (fld v 27 15 ≤ 4096)
  else if a = Reg.schedEdcycl ∨ a = Reg.schedEdcych then !edHeld s
  else true

def schedAccept (s : State) (q : Req) (a : Nat) (v : Word) : Option State :=
  let wrej := some (sb s Reg.schedStat 1 true)
  let en := schedOn s
  if a = Reg.schedCtl then
    if en && !bit v 0 && !(decide (s.dev = .config) || decide (s.dev = .safeHold) || decide (s.dev = .maintenance)) then wrej else none
  else if a = Reg.schedMcyc then (if en ∨ fld v 19 0 < 20 ∨ 1000000 < fld v 19 0 then wrej else none)
  else if a = Reg.schedGap then (if en ∨ fld v 15 0 < 100 then wrej else none)
  else if a = Reg.schedEpochl ∨ a = Reg.schedEpochh then (if en then wrej else none)
  else if banked a then (if en ∧ wBank s = aBank s then wrej else none)
  else if inRange a Reg.schedSlota 64 then
    let n := (a - Reg.schedSlota) % 32
    let slotB := decide (a ≥ Reg.schedSlotb)
    if (appEither s n && (activeB s n == slotB)) || (edHeld s && decide (edApp s = n)) then wrej else none
  else if inRange a Reg.schedEdctl 6 then
    if q.master ≠ 32 then some s else if edAccept s a v then none else wrej
  else none

/-- A write of SCHED_CTL: WBANK and the overrun fields, then EN, then SWAPREQ (R49, R60, R520). -/
def ctlEffect (s : State) (v : Word) : State :=
  let w := rd s Reg.schedCtl
  let s := wr s Reg.schedCtl (putBit (putFld w 16 8 (fld v 16 8)) 1 (bit v 1))
  let s := if bit v 0 then (if schedOn s then s else schedEnable s) else (if schedOn s then schedDisable s else s)
  if bit v 3 then swapRequest s else s

/-- A write of SCHED_EDCTL (R243): disarming, or arming, which reads the pending header next. -/
def edctlEffect (s : State) (v : Word) : State :=
  if edHeld s then
    if bit v 5 then s
    else
      let s := if edSame s v then s else sb s Reg.schedStat 1 true
      editAbandon { sb s Reg.schedEdctl 5 true with edit := { s.edit with arming := false } } 0x0F
  else
    let s := wr s Reg.schedEdctl (v &&& 0xFFFFDF#32)
    if bit v 5 then { s with edit := { s.edit with arming := true } } else s

/-- The pending slot's header has been read (R243): ARM reads 1, or FAIL is set with REASON 0x02. -/
def shadowLoaded (s : State) : State :=
  if !s.edit.arming then s
  else
    let a := edApp s
    let fail (s : State) : State := wf (wf (sb s Reg.schedEdstat 1 true) Reg.schedEdstat 6 2 2) Reg.schedEdstat 31 16 (edEid s)
    let s := { s with edit := { s.edit with arming := false } }
    match readOuterN s (slotBase s a (!activeB s a)) 64 with
    | (s, none) => fail s
    | (s, some h) => { sb s Reg.schedEdctl 5 true with edit := { s.edit with pend := h, fail := 0, ego := false, commit := false } }

def schedEffect (s : State) (q : Req) (a : Nat) (v : Word) : State :=
  if a = Reg.schedCtl then ctlEffect s v
  else if a = Reg.schedDone then schedDoneBy s q.master
  else if a = Reg.schedAslot then
    plainWrite s a v (BitVec.ofNat 32 (ofBits ((List.range 32).map fun n => !appEither s n)))
  else if a = Reg.schedEdctl then edctlEffect s v
  else plain s a v

/-! ### ACT (R386, R387) -/

def actTselN (s : State) : Nat := rf s Reg.actTsel 7 0
def actRead (s : State) (a : Nat) : Option Word :=
  if inRange a Reg.actEnt 32 then
    let j := a - Reg.actEnt
    some (if actTselN s ≥ 0xC2 then 0 else (actEntry s (actTselN s) (2 * j + 1)) ++ (actEntry s (actTselN s) (2 * j)))
  else none

/-- Pages of a region in use, and whether two regions in use share one. -/
def regionSpan (s : State) (r : Nat) : Option (Nat × Nat) :=
  let b := rf s (Reg.actRbase + 2 * r) 30 12
  let l := rf s (Reg.actRlim + 2 * r) 30 12
  if rb s (Reg.actRlim + 2 * r) 31 && decide (b ≤ l) then some (b, l) else none
def regionsClash (s : State) : Bool :=
  (List.range 16).any fun i => (List.range i).any fun j =>
    match regionSpan s i, regionSpan s j with
    | some x, some y => decide (x.1 ≤ y.2 ∧ y.1 ≤ x.2)
    | _, _ => false

def actAccept (s : State) (a : Nat) (v : Word) : Option State :=
  let rej := some (sb s Reg.actStat 0 true)
  if inRange a Reg.actEnt 32 then
    let t := actTselN s
    let now := actEntry s t 32
    if t ≥ 0xC2 then rej
    else if (t = 0x56 ∨ t = 0x57) ∧ a = Reg.actEnt + 16 ∧ now.extractLsb' 12 4 &&& ~~~ (BitVec.ofNat 4 (fld v 15 12)) ≠ 0#4 then rej
    else none
  else if inRange a Reg.actRbase 32 then (if regionsClash (plain s a v) then rej else none)
  else none

def actEffect (s : State) (a : Nat) (v : Word) : State :=
  if inRange a Reg.actEnt 32 then
    let j := a - Reg.actEnt
    let t := actTselN s
    putActEntry (putActEntry s t (2 * j) (v.extractLsb' 0 16)) t (2 * j + 1) (v.extractLsb' 16 16)
  else plain s a v

/-! ### JRN, FLT (R399, R414) -/

/-- TAIL up to before HEAD, taken from TAIL. -/
def ackOk (tail head v : Word) : Bool := decide ((v - tail).toNat < (head - tail).toNat)

def jrnRead (s : State) (a : Nat) : Option Word :=
  if a = Reg.jrnUsed then some (BitVec.ofNat 32 (jrnUsedN s))
  else if a = Reg.jrnStat then some (putBit (rd s a) 0 (decide (jrnUsedN s ≥ 4032)))
  else none
def jrnAccept (s : State) (q : Req) (a : Nat) (v : Word) : Option State :=
  if a = Reg.jrnAck ∧ !(decide (q.master = 32) && ackOk (rd s Reg.jrnTail) (rd s Reg.jrnHead) v) then some (sb s Reg.jrnStat 2 true) else none
def jrnEffect (s : State) (a : Nat) (v : Word) : State := if a = Reg.jrnAck then wr s Reg.jrnTail (v + 1) else plain s a v

def fltRead (s : State) (a : Nat) : Option Word :=
  if inRange a Reg.fltRec 8 then some (nth (s.flt.headD []) (a - Reg.fltRec)) else none
def fltAccept (s : State) (q : Req) (a : Nat) (v : Word) : Option State :=
  let rej := some (sb s Reg.fltStat 1 true)
  let w := decide (q.master = 32)
  if a = Reg.fltAck then (if w && ackOk (rd s Reg.fltTail) (rd s Reg.fltHead) v then none else rej)
  else if inRange a Reg.fltCknom 6 then
    if w && (decide (s.dev = .boot) || decide (s.dev = .config) || decide (s.dev = .maintenance)) then none else rej
  else none
/-- Release records up to a sequence number. -/
def fltRelease (s : State) (v : Word) : State :=
  let n := (v - rd s Reg.fltTail).toNat + 1
  let s := wr { s with flt := s.flt.drop n } Reg.fltTail (v + 1)
  wf s Reg.fltStat 14 8 s.flt.length
def fltEffect (s : State) (a : Nat) (v : Word) : State := if a = Reg.fltAck then fltRelease s v else plain s a v

/-! ### TB (R39 to R43) -/

def tbRead (s : State) (q : Req) (a : Nat) : Option Word :=
  if a = Reg.tbNowl then some (lo32 s.tb.now)
  else if a = Reg.tbNowh then some ((Sparse.get none s.tb.capH q.master).getD (hi32 s.tb.now))
  else none
def tbAccept (s : State) (a : Nat) (v : Word) : Option State :=
  if a = Reg.tbCtl then (if fld v 1 0 = 3 then some s else none)
  else if a = Reg.tbSetl ∨ a = Reg.tbSeth then (if tbSetOk s then none else some (sb s Reg.tbStat 2 true))
  else none
def tbEffect (s : State) (a : Nat) (v : Word) : State :=
  if a = Reg.tbCtl then tbCtlSet s v
  else if a = Reg.tbSetl then { s with tb := { s.tb with setL := v } }
  else if a = Reg.tbSeth then { s with tb := { s.tb with now := dbl s.tb.setL v, err := 0 } }
  else plain s a v

/-! ### WDI (R462 to R466) -/

/-- The master counts as the owner of a watchdog channel (R464). -/
def wdOwner (s : State) (m k : Nat) : Bool :=
  let o := rf s (Reg.wdiCfg + k) 5 0
  decide (m = o) || (decide (m = 32) && !(decide (s.dev = .run) || decide (s.dev = .tracking))) ||
  (decide (m < 32) && decide (actMaster s m = o))

/-- A check-in on channel `k` (R464). -/
def checkIn (s : State) (m k : Nat) (v : Word) : State :=
  let drop (hi lo : Nat) : State := bump s Reg.wdiCnt hi lo 1
  if !wdOwner s m k then drop 23 16
  else if fld v 7 0 ≠ rf s (Reg.wdiCfg + k) 15 8 then drop 23 16
  else if rb s Reg.wdiStat 1 then drop 31 24
  else if !rb s Reg.wdiStat 0 then drop 7 0
  else if rb s Reg.wdiStat (16 + k) then drop 15 8
  else
    let s := wf (sb s Reg.wdiStat (16 + k) true) (Reg.wdiCfg + k) 15 8 (fld v 7 0 + 1)
    wr (wr s (Reg.wdiLastl + k) (lo32 s.tb.now)) (Reg.wdiLasth + k) (hi32 s.tb.now)

def wdiAccept (s : State) (q : Req) (a : Nat) (v : Word) : Option State :=
  if inRange a Reg.wdiCfg 16 ∨ a = Reg.wdiSet then
    if q.master ≠ 32 then some (sb s Reg.wdiStat 4 true)
    else if a = Reg.wdiSet ∧ (!rb s Reg.wdiStat 0 ∨ fld v 7 0 = 0) then some (sb s Reg.wdiStat 3 true)
    else none
  else none
def wdiEffect (s : State) (q : Req) (a : Nat) (v : Word) : State :=
  if inRange a Reg.wdiChk 16 then checkIn s q.master (a - Reg.wdiChk) v
  else if a = Reg.wdiSet then { s with wdSet := v.extractLsb' 0 8 }
  else plain s a v

/-! ### PWR, DBGV, ID (R225, R420, R485, R486, R511) -/

def pwrRead (s : State) (a : Nat) : Option Word := if a = Reg.pwrVstat then some (putBit (rd s a) 5 s.pwr.safe) else none
def pwrAccept (s : State) (q : Req) (a : Nat) : Option State :=
  if a = Reg.pwrGctl ∧ q.master ≠ 32 then some (sb s Reg.pwrStat 3 true)
  else if a = Reg.pwrLossmk ∧ (q.master ≠ 32 ∨ !rb s Reg.pwrVstat 4) then some s
  else none
/-- The journal mark of R418 is kept, so that PWR_SAFE can follow it. -/
def pwrEffect (s : State) (a : Nat) (v : Word) : State :=
  if a = Reg.pwrLossmk then { s with pwr := { s.pwr with marked := true } } else plain s a v

def dbgvRead (s : State) (q : Req) (a : Nat) : Option Word :=
  let t := (eng s q.master).term
  if a = Reg.dbgvRx then some (if q.master < 32 ∧ t.rxValid then t.rx else 0)
  else if a = Reg.dbgvTst then
    some (if q.master < 32 then BitVec.ofNat 32 (b2n t.txFull + 2 * b2n t.rxValid + 4 * b2n t.txOvf) else 0)
  else none
def dbgvAccept (s : State) (q : Req) (a : Nat) : Option State :=
  if inRange a Reg.dbgvCmpa 512 then (if q.master = 46 ∧ dbgLevel s = 2 then none else some s)
  else if q.master < 32 then none else some s
def putTerm (s : State) (e : Nat) (t : Terminal) : State := putEng s e { eng s e with term := t }
def dbgvEffect (s : State) (q : Req) (a : Nat) (v : Word) : State :=
  let t := (eng s q.master).term
  if a = Reg.dbgvTx then putTerm s q.master (if t.txFull then { t with txOvf := true } else { t with tx := v, txFull := true })
  else if a = Reg.dbgvTst then putTerm s q.master { t with txOvf := t.txOvf && !bit v 2 }
  else plain s a v

/-- IPVER and IPCFG as delivered (R2, R29), ID_STATE (R28). -/
def ipverWord : Word := BitVec.ofNat 32 (0x03000000 + Config.build.toNat)
def ipcfgWord : Word := putFld (putFld 0x4010#32 16 16 Config.form.toNat) 18 17 Config.pclass.toNat
def idStateWord (s : State) : Word := BitVec.ofNat 32 (s.dev.code + s.prevDev.toNat * 16 + s.cause.toNat * 256)
def idRead (s : State) (a : Nat) : Option Word :=
  if a = Reg.ipver then some ipverWord
  else if a = Reg.ipcfg then some ipcfgWord
  else if a = Reg.idState then some (idStateWord s)
  else if a = Reg.idUromid then some Config.romId
  else none
def idAccept (s : State) (q : Req) (a : Nat) : Option State :=
  if (inRange a Reg.idUpctl 4 || inRange a Reg.idUmatch 16) &&
     !(decide (q.master = 32) && decide (s.dev = .boot) && !rb s Reg.idUpctl 0) then some s
  else none

/-- A patch word has been written whole: every copy holds it with good check bits. -/
def patchGood (s : State) (w : Nat) : State := { s with ucErr := s.ucErr.filter fun p => decide (p.1 % 16384 ≠ 0x2000 + w) }
def patchClear (s : State) : State :=
  let s := { s with upatch := [], ucErr := s.ucErr.filter fun p => decide (p.1 % 16384 < 0x2000) }
  (List.range 16).foldl (fun st n => sb st (Reg.idUmatch + n) 31 false) s
/-- A write of ID_UPDATA (R225). -/
def patchData (s : State) (v : Word) : State :=
  let k := rf s Reg.idUpaddr 9 0
  let s := { s with upatch := Sparse.set 0 s.upatch k v }
  let s := if k % 4 = 3 then patchGood s (k / 4) else s
  wf s Reg.idUpaddr 9 0 (k + 1)
def idEffect (s : State) (a : Nat) (v : Word) : State :=
  if a = Reg.idUpctl then plain (if bit v 1 then patchClear s else s) a v
  else if a = Reg.idUpdata then patchData s v
  else plain s a v

/-! ### All blocks -/

/-- The block of a register: the target code of its window. -/
def blockOf (a : Nat) : Nat := match windowOf a with | some w => w.1 | none => 0

/-- The value of a register for a reader (R12, R13, R18): 0 where none is defined. -/
def ioValue (s : State) (q : Req) (a : Nat) : Word :=
  match rowOf a with
  | none => 0
  | some r =>
    let special := match blockOf a with
      | 0x50 => icuRead s q a
      | 0x51 => cvuRead s q a
      | 0x52 => schedRead s q a
      | 0x54 => tarnRead s a
      | 0x55 => cmxRead s a
      | 0x56 => actRead s a
      | 0x57 => jrnRead s a
      | 0x58 => shrRead s a
      | 0x59 => grvRead s a
      | 0x5A => fltRead s a
      | 0x5B => tbRead s q a
      | 0x5D => attReadReg s a
      | 0x5E => pwrRead s a
      | 0x5F => dbgvRead s q a
      | 0x60 => idRead s a
      | _ => none
    match special with
    | some v => v
    | none => rd s (ioKey s a) &&& ~~~ BitVec.ofNat 32 r.wo

/-- What a read changes: RC fields clear (R12), high words are captured (R39, R52), DBGV_RX empties (R486). -/
def ioAfterRead (s : State) (q : Req) (a : Nat) : State :=
  if a = Reg.tbNowl then { s with tb := { s.tb with capH := Sparse.set none s.tb.capH q.master (some (hi32 s.tb.now)) } }
  else if a = Reg.schedCycl then { s with tb := { s.tb with cycH := Sparse.set none s.tb.cycH q.master (some (rd s Reg.schedCych)) } }
  else if a = Reg.dbgvRx then
    if q.master < 32 then putTerm s q.master { (eng s q.master).term with rxValid := false } else s
  else
    match rowOf a with
    | some r => if r.rc = 0 then s else wr s a (rd s a &&& ~~~ BitVec.ofNat 32 r.rc)
    | none => s

/-- The acceptance checks of the block (R392, cycle a): none for a write that is accepted, else the state that the refusal or the
ignored write leaves. -/
def ioAccept (s : State) (q : Req) (a : Nat) (v : Word) : Option State :=
  match rowOf a with
  | none => some s
  | some _ =>
    match blockOf a with
    | 0x50 => icuAccept s q a v
    | 0x51 => cvuAccept s q a v
    | 0x52 => schedAccept s q a v
    | 0x53 => imgAccept s a v
    | 0x54 => tarnAccept s q a v
    | 0x55 => cmxAccept s q a v
    | 0x56 => actAccept s a v
    | 0x57 => jrnAccept s q a v
    | 0x58 => shrAccept s a v
    | 0x59 => grvAccept s q a v
    | 0x5A => fltAccept s q a v
    | 0x5B => tbAccept s a v
    | 0x5C => wdiAccept s q a v
    | 0x5D => attAccept s a v
    | 0x5E => pwrAccept s q a
    | 0x5F => dbgvAccept s q a
    | 0x60 => idAccept s q a
    | _ => some s

/-- The effect of an accepted write; none where a check-value unit holds it (R374). -/
def ioEffect (s : State) (q : Req) (a : Nat) (v : Word) : Option State :=
  let or (o : Option State) : Option State := some (o.getD (plain s a v))
  match blockOf a with
  | 0x50 => some (icuEffect s q a v)
  | 0x51 => cvuEffect s q a v
  | 0x52 => some (schedEffect s q a v)
  | 0x53 => or (imgEffect s a v)
  | 0x54 => or (tarnEffect s a v)
  | 0x55 => or (cmxEffect s q a v)
  | 0x56 => some (actEffect s a v)
  | 0x57 => some (jrnEffect s a v)
  | 0x58 => or (shrEffect s a v)
  | 0x59 => or (grvEffect s a v)
  | 0x5A => some (fltEffect s a v)
  | 0x5B => some (tbEffect s a v)
  | 0x5C => some (wdiEffect s q a v)
  | 0x5D => or (attEffect s a v)
  | 0x5E => some (pwrEffect s a v)
  | 0x5F => some (dbgvEffect s q a v)
  | 0x60 => some (idEffect s a v)
  | _ => some s

end Sys2Proof.Machine
end

