-- ==== Sys2Proof/Machine/IoSpace.lean ====
section
/-! DEFINITION. Reads and writes of IO-space (R17 to R22): the access-table check, acceptance, journaling (R391 to R393, R396)
and effect, and the steps of the table that are accesses to one register. -/

namespace Sys2Proof.Machine

/-! ### Checks -/

/-- The decision on an IO access (R18, R22): only words inside a window are checked. -/
def ioDenied (s : State) (q : Req) (a need : Nat) : Option Denial :=
  match windowOf a with
  | none => none
  | some w => if granted s w.1 q need then none else some (mkDenial q w.1 need spIo false a)

/-- A write to a register with a +J field is journaled (R391). -/
def isJrn (a : Nat) : Bool := match rowOf a with | some r => r.jrn | none => false

/-- An ordinary journaled write finds the journal full (R396). Before step 6 the journal is closed (R393). -/
def jrnFull (s : State) : Bool := jrnOpen s && decide (jrnUsedN s ≥ 4032)

/-- NEW of an entry (R391): what the register will read, hardware fields as in OLD, trigger fields as written. ARM of
SCHED_EDCTL, which reads 1 only when the header has been read, shows as written (DESIGN CHOICE, log 23). -/
def newWord (s s2 : State) (q : Req) (a : Nat) (v : Word) : Word :=
  match rowOf a with
  | none => 0
  | some r =>
    let soft := BitVec.ofNat 32 (r.rw ||| r.w1c ||| r.w1s)
    let w := (ioValue s q a &&& ~~~ soft) ||| (ioValue s2 q a &&& soft) ||| (v &&& BitVec.ofNat 32 r.wo)
    if a = Reg.schedEdctl then putBit w 5 (bit v 5) else w

/-- KIND and TCODE of a journaled write (R394): a table entry names the target whose table changes. -/
def writeKind (a : Nat) : Nat := b2n (inRange a Reg.actEnt 32)
def writeTcode (s : State) (a : Nat) : Nat := if inRange a Reg.actEnt 32 then actTselN s else blockOf a

/-- The entry of a journaled write (R394). -/
def writeInfo (s : State) (q : Req) (a : Nat) (old new : Word) (exempt : Bool) : JrnInfo :=
  { origin := q.master, vital := q.vital, sup := q.sup, kind := writeKind a, exempt := exempt, addr := a, tcode := writeTcode s a, old := old,
    new := new }

/-- Complete a journaled write in progress: its entry, then its effect (R392). -/
def finishWrite (s : State) : State :=
  match s.jPend with
  | none => s
  | some j =>
    let q : Req := ⟨j.origin, j.vital, j.sup⟩
    let s := writeEntry { s with jPend := none } j.seq j.time { writeInfo s q j.addr j.old j.new j.exempt with kind := j.kind, tcode := j.tcode }
    (ioEffect s q j.addr j.value).getD s

/-! ### Writes -/

/-- How a write ends: done, turned away by its block, refused for a full journal (R396), held by a check-value unit (R374), or
denied (R22). -/
inductive IoOut where
  | done (s : State)
  | refused (s : State)
  | full (s : State)
  | held (s : State)
  | denied (s : State) (d : Denial)

/-- The state that a write leaves, its denial logged. -/
def IoOut.state : IoOut → State
  | .done s => s
  | .refused s => s
  | .full s => s
  | .held s => s
  | .denied s d => logDenial s d

/-- A write up to its effect, made whole: check, acceptance, journal, effect. An exempt write (R397) is never refused for a full
journal; with no slot at all its entry is lost and recorded, and it takes effect (R396). -/
def ioPut (s : State) (q : Req) (a : Nat) (v : Word) (exempt : Bool) : IoOut :=
  let s := finishWrite s
  match ioDenied s q a needW with
  | some d => .denied s d
  | none =>
    match ioAccept s q a v with
    | some s => .refused s
    | none =>
      if isJrn a && !exempt && jrnFull s then .full (jrnRefuse s)
      else
        match ioEffect s q a v with
        | none => .held s
        | some s2 =>
          if !(isJrn a && jrnOpen s) then .done s2
          else
            let i := writeInfo s q a (ioValue s q a) (newWord s s2 q a v) exempt
            if exempt then .done ((ioEffect (jrnExempt s i) q a v).getD s2)
            else
              let (n, s) := takeSeq s
              .done ((ioEffect (writeEntry s n s.tb.now i) q a v).getD s2)

/-- A write up to its acceptance: a journaled one takes its sequence number and waits for JOURNALED_WRITE_EFFECT, any other has
its effect at once. A journaled write still in progress completes first: R392 holds a later write to its window, and the model
one to any window (DESIGN CHOICE, log 24). -/
def ioPost (s : State) (q : Req) (a : Nat) (v : Word) : IoOut :=
  let s := finishWrite s
  if isJrn a && jrnOpen s then
    match ioDenied s q a needW with
    | some d => .denied s d
    | none =>
      match ioAccept s q a v with
      | some s => .refused s
      | none =>
        if jrnFull s then .full (jrnRefuse s)
        else
          let s2 := (ioEffect s q a v).getD s
          let old := ioValue s q a
          let new := newWord s s2 q a v
          let now := s.tb.now
          let (n, s) := takeSeq s
          .done { s with jPend := some { seq := n, origin := q.master, vital := q.vital, sup := q.sup, kind := writeKind a, exempt := false,
                                         addr := a, tcode := writeTcode s a, old := old, new := new, time := now, value := v } }
  else ioPut s q a v false

/-- A write by the Wellspring as it carries out a command. -/
def wspReq : Req := ⟨32, true, true⟩
def wspPut (s : State) (a : Nat) (v : Word) : IoOut := ioPut s wspReq a v false

/-! ### Steps of the table -/

/-- Can the master make an access now? Blocks run (R478), in Lockstep only the leader's accesses exist (R256), and the debug
master goes through its own commands (R483). -/
def masterActs (s : State) (m : Nat) : Bool :=
  blocksRun s && decide (m ≠ 33) && decide (m ≠ 46) && !(decide (m < 32) && decide (m % 2 = 1) && isLockstep s (m / 2))

/-- A write of a register by a master. -/
def regWrite (s : State) (m a : Nat) (v : Word) : State :=
  if masterActs s m then (ioPost s (reqOf s m) a v).state else s

/-- A read of a register by a master: the value leaves at `outData` (log 4). -/
def regRead (s : State) (m a : Nat) : State :=
  if !masterActs s m then s
  else
    let q := reqOf s m
    match ioDenied s q a needR with
    | some d => { logDenial s d with outResp := 2, outData := [0] }
    | none => { ioAfterRead s q a with outResp := 0, outData := [ioValue s q a] }

/-- A write that is this step only if `c` holds of the state and the value. -/
def regWriteIf (c : Bool) (s : State) (m a : Nat) (v : Word) : State := if c then regWrite s m a v else s

def portErr : Port → Nat := errReg
def segReg : SegReg → Nat
  | .int => Reg.imgInt
  | .inl => Reg.imgInl
  | .outt => Reg.imgOutt
  | .outl => Reg.imgOutl
  | .mrkt => Reg.imgMrkt
  | .mrkl => Reg.imgMrkl
  | .ret => Reg.imgRet
  | .safe => Reg.imgSafe

/-- DOORBELL (R351). -/
def execDoorbell (m : Mst) (v : Word) (s : State) : Host.Outcome State Fault Refusal := .next (regWrite s m.val Reg.icuDbell v)
/-- HOLD_OFF_END (R364). -/
def execHoldOffEnd (j : Fin 32) (s : State) : Host.Outcome State Fault Refusal := .next (if blocksRun s then endHold s j.val else s)
/-- ICU_BADDB_READ (R354). -/
def execIcuBaddbRead (m : Mst) (s : State) : Host.Outcome State Fault Refusal := .next (regRead s m.val Reg.icuBaddb)
/-- ICU_EMPTY_READ (R365). -/
def execIcuEmptyRead (m : Mst) (t : Fin 33) (s : State) : Host.Outcome State Fault Refusal :=
  .next (regRead s m.val (Reg.icuEmpty + t.val))
/-- TB_NOWL_READ (R39). -/
def execTbNowlRead (m : Mst) (s : State) : Host.Outcome State Fault Refusal := .next (regRead s m.val Reg.tbNowl)
/-- TB_SETL_WRITE (R42). -/
def execTbSetlWrite (m : Mst) (v : Word) (s : State) : Host.Outcome State Fault Refusal := .next (regWrite s m.val Reg.tbSetl v)
/-- TB_SETH_WRITE (R42). -/
def execTbSethWrite (m : Mst) (v : Word) (s : State) : Host.Outcome State Fault Refusal := .next (regWrite s m.val Reg.tbSeth v)
/-- SCHED_DONE (R67): the value is ignored. -/
def execSchedDone (m : Mst) (s : State) : Host.Outcome State Fault Refusal := .next (regWrite s m.val Reg.schedDone 0)
/-- SCHED_ENABLE (R49): a write of EN = 1 while EN = 0. -/
def execSchedEnable (m : Mst) (v : Word) (s : State) : Host.Outcome State Fault Refusal :=
  .next (regWriteIf (bit v 0 && !schedOn s) s m.val Reg.schedCtl v)
/-- SCHED_DISABLE (R520): a write of EN = 0 while EN = 1. -/
def execSchedDisable (m : Mst) (v : Word) (s : State) : Host.Outcome State Fault Refusal :=
  .next (regWriteIf (!bit v 0 && schedOn s) s m.val Reg.schedCtl v)
/-- SWAP_REQUEST (R58). -/
def execSwapRequest (m : Mst) (v : Word) (s : State) : Host.Outcome State Fault Refusal :=
  .next (regWriteIf (bit v 3) s m.val Reg.schedCtl v)
/-- SCHED_CYCL_READ (R52). -/
def execSchedCyclRead (m : Mst) (s : State) : Host.Outcome State Fault Refusal := .next (regRead s m.val Reg.schedCycl)
/-- SCHED_OVRCNT_READ (R78). -/
def execSchedOvrcntRead (m : Mst) (a : App) (s : State) : Host.Outcome State Fault Refusal :=
  .next (regRead s m.val (Reg.schedOvrcnt + a.val))
/-- EDIT_ARM (R243): a write of ARM = 1. -/
def execEditArm (m : Mst) (v : Word) (s : State) : Host.Outcome State Fault Refusal :=
  .next (regWriteIf (bit v 5) s m.val Reg.schedEdctl v)
/-- EDIT_SHADOW_LOADED (R243). -/
def execEditShadowLoaded (s : State) : Host.Outcome State Fault Refusal := .next (if blocksRun s then shadowLoaded s else s)
/-- EDIT_DISARM (R243): a write of ARM = 0. -/
def execEditDisarm (m : Mst) (v : Word) (s : State) : Host.Outcome State Fault Refusal :=
  .next (regWriteIf (!bit v 5) s m.val Reg.schedEdctl v)
/-- IMG_SEGMENT_WRITE (R82). -/
def execImgSegmentWrite (m : Mst) (r : SegReg) (a : App) (v : Word) (s : State) : Host.Outcome State Fault Refusal :=
  .next (regWrite s m.val (segReg r + a.val) v)
/-- ROUTE_TABLE_WRITE (R96). -/
def execRouteTableWrite (m : Mst) (v : Word) (s : State) : Host.Outcome State Fault Refusal := .next (regWrite s m.val Reg.imgRtbl v)
/-- ATT_DROP_READ (R118). -/
def execAttDropRead (m : Mst) (p : Grv) (s : State) : Host.Outcome State Fault Refusal := .next (regRead s m.val (Reg.attDrop + p.val))
/-- ITEM_TABLE_WRITE (R310). -/
def execItemTableWrite (m : Mst) (v : Word) (s : State) : Host.Outcome State Fault Refusal := .next (regWrite s m.val Reg.shrItcnt v)
/-- SHR_ERR_READ (R320). -/
def execShrErrRead (m : Mst) (p : Port) (s : State) : Host.Outcome State Fault Refusal := .next (regRead s m.val (portErr p))
/-- GRV_ERDAT_WRITE (R255). -/
def execGrvErdatWrite (m : Mst) (v : Word) (s : State) : Host.Outcome State Fault Refusal := .next (regWrite s m.val Reg.grvErdat v)
/-- GRV_FENCE_WRITE (R261). -/
def execGrvFenceWrite (m : Mst) (v : Word) (s : State) : Host.Outcome State Fault Refusal := .next (regWrite s m.val Reg.grvFence v)
/-- GRV_UNFENCE_WRITE (R261). -/
def execGrvUnfenceWrite (m : Mst) (v : Word) (s : State) : Host.Outcome State Fault Refusal :=
  .next (regWrite s m.val Reg.grvUnfence v)
/-- FLT_ACK_WRITE (R414). -/
def execFltAckWrite (m : Mst) (v : Word) (s : State) : Host.Outcome State Fault Refusal := .next (regWrite s m.val Reg.fltAck v)
/-- FLT_LOST_READ (R414). -/
def execFltLostRead (m : Mst) (s : State) : Host.Outcome State Fault Refusal := .next (regRead s m.val Reg.fltLost)
/-- CVU_INIT (R372). -/
def execCvuInit (m : Mst) (u : Grv) (s : State) : Host.Outcome State Fault Refusal := .next (regWrite s m.val (gReg Reg.cvuGcmd u.val) 1)
/-- CVU_GO (R375). -/
def execCvuGo (m : Mst) (u : Grv) (s : State) : Host.Outcome State Fault Refusal := .next (regWrite s m.val (gReg Reg.cvuGcmd u.val) 2)
/-- CVU_FIN (R374). -/
def execCvuFin (m : Mst) (u : Grv) (s : State) : Host.Outcome State Fault Refusal := .next (regWrite s m.val (gReg Reg.cvuGcmd u.val) 4)
/-- CVU_STOP (R376). -/
def execCvuStop (m : Mst) (u : Grv) (s : State) : Host.Outcome State Fault Refusal := .next (regWrite s m.val (gReg Reg.cvuGcmd u.val) 8)
/-- CVU_FEEDB (R373). -/
def execCvuFeedb (m : Mst) (u : Grv) (v : Word) (s : State) : Host.Outcome State Fault Refusal :=
  .next (regWrite s m.val (gReg Reg.cvuGfeedb u.val) v)
/-- CVU_FEEDH (R373). -/
def execCvuFeedh (m : Mst) (u : Grv) (v : Word) (s : State) : Host.Outcome State Fault Refusal :=
  .next (regWrite s m.val (gReg Reg.cvuGfeedh u.val) v)
/-- CVU_FEEDW (R373). -/
def execCvuFeedw (m : Mst) (u : Grv) (v : Word) (s : State) : Host.Outcome State Fault Refusal :=
  .next (regWrite s m.val (gReg Reg.cvuGfeedw u.val) v)
/-- CVU_VGO (R380). -/
def execCvuVgo (m : Mst) (c : Grv) (s : State) : Host.Outcome State Fault Refusal := .next (regWrite s m.val (vReg Reg.cvuVcmd c.val) 1)
/-- JOURNALED_WRITE_EFFECT (R392): the entry is complete and the write takes effect. -/
def execJournaledWriteEffect (s : State) : Host.Outcome State Fault Refusal := .next (if blocksRun s then finishWrite s else s)
/-- JRN_ACK_WRITE (R399). -/
def execJrnAckWrite (m : Mst) (v : Word) (s : State) : Host.Outcome State Fault Refusal := .next (regWrite s m.val Reg.jrnAck v)
/-- JRN_REJCNT_READ (R399). -/
def execJrnRejcntRead (m : Mst) (s : State) : Host.Outcome State Fault Refusal := .next (regRead s m.val Reg.jrnRejcnt)
/-- ACT_VCNT_READ (R386). -/
def execActVcntRead (m : Mst) (s : State) : Host.Outcome State Fault Refusal := .next (regRead s m.val Reg.actVcnt)
/-- TARN_OWN_WRITE (R344). -/
def execTarnOwnWrite (m : Mst) (t : Tarn) (v : Word) (s : State) : Host.Outcome State Fault Refusal :=
  .next (regWrite s m.val (Reg.tarnOwn + t.val) v)
/-- TARN_CECNT_READ (R350). -/
def execTarnCecntRead (m : Mst) (s : State) : Host.Outcome State Fault Refusal := .next (regRead s m.val Reg.tarnCecnt)
/-- TARN_UECNT_READ (R350). -/
def execTarnUecntRead (m : Mst) (s : State) : Host.Outcome State Fault Refusal := .next (regRead s m.val Reg.tarnUecnt)
/-- INVALIDATE (R338): a write of CMX_CMD with OP 1. -/
def execInvalidate (m : Mst) (v : Word) (s : State) : Host.Outcome State Fault Refusal :=
  .next (regWriteIf (decide (fld v 2 0 = 1)) s m.val Reg.cmxCmd v)
/-- CLEAN (R337): OP 2. -/
def execClean (m : Mst) (v : Word) (s : State) : Host.Outcome State Fault Refusal :=
  .next (regWriteIf (decide (fld v 2 0 = 2)) s m.val Reg.cmxCmd v)
/-- CLEAN_AND_INVALIDATE (R338): OP 3. -/
def execCleanAndInvalidate (m : Mst) (v : Word) (s : State) : Host.Outcome State Fault Refusal :=
  .next (regWriteIf (decide (fld v 2 0 = 3)) s m.val Reg.cmxCmd v)
/-- PRELOAD_AND_LOCK (R337): OP 4. -/
def execPreloadAndLock (m : Mst) (v : Word) (s : State) : Host.Outcome State Fault Refusal :=
  .next (regWriteIf (decide (fld v 2 0 = 4)) s m.val Reg.cmxCmd v)
/-- UNLOCK (R338): OP 5. -/
def execUnlock (m : Mst) (v : Word) (s : State) : Host.Outcome State Fault Refusal :=
  .next (regWriteIf (decide (fld v 2 0 = 5)) s m.val Reg.cmxCmd v)
/-- POND_LOAD (R337): OP 6. -/
def execPondLoad (m : Mst) (v : Word) (s : State) : Host.Outcome State Fault Refusal :=
  .next (regWriteIf (decide (fld v 2 0 = 6)) s m.val Reg.cmxCmd v)
/-- POND_CONVERSION (R327): a write of CMX_PONDg with ZERO = 0. -/
def execPondConversion (m : Mst) (g : Grv) (v : Word) (s : State) : Host.Outcome State Fault Refusal :=
  .next (regWriteIf (!bit v 4) s m.val (Reg.cmxPond + g.val) v)
/-- POND_ZERO (R327): a write of CMX_PONDg with ZERO = 1. -/
def execPondZero (m : Mst) (g : Grv) (v : Word) (s : State) : Host.Outcome State Fault Refusal :=
  .next (regWriteIf (bit v 4) s m.val (Reg.cmxPond + g.val) v)
/-- CMX_SKIP_READ (R335). -/
def execCmxSkipRead (m : Mst) (s : State) : Host.Outcome State Fault Refusal := .next (regRead s m.val Reg.cmxSkip)
/-- CMX_PERR_READ (R335). -/
def execCmxPerrRead (m : Mst) (s : State) : Host.Outcome State Fault Refusal := .next (regRead s m.val Reg.cmxPerr)
/-- PATCH_LOCK (R226): a write of LOCK = 1. -/
def execPatchLock (m : Mst) (v : Word) (s : State) : Host.Outcome State Fault Refusal :=
  .next (regWriteIf (bit v 0) s m.val Reg.idUpctl v)
/-- PATCH_CLEAR (R225): a write of CLR = 1. -/
def execPatchClear (m : Mst) (v : Word) (s : State) : Host.Outcome State Fault Refusal :=
  .next (regWriteIf (bit v 1) s m.val Reg.idUpctl v)
/-- PATCH_DATA_WRITE (R225). -/
def execPatchDataWrite (m : Mst) (v : Word) (s : State) : Host.Outcome State Fault Refusal := .next (regWrite s m.val Reg.idUpdata v)
/-- ID_UERR_READ (R225). -/
def execIdUerrRead (m : Mst) (s : State) : Host.Outcome State Fault Refusal := .next (regRead s m.val Reg.idUerr)
/-- CHECK_IN (R464). -/
def execCheckIn (m : Mst) (k : Grv) (v : Word) (s : State) : Host.Outcome State Fault Refusal :=
  .next (regWrite s m.val (Reg.wdiChk + k.val) v)
/-- PERIOD_CHANGE (R466). -/
def execPeriodChange (m : Mst) (v : Word) (s : State) : Host.Outcome State Fault Refusal := .next (regWrite s m.val Reg.wdiSet v)
/-- WDI_CNT_READ (R462). -/
def execWdiCntRead (m : Mst) (s : State) : Host.Outcome State Fault Refusal := .next (regRead s m.val Reg.wdiCnt)
/-- PWR_LOSSMK_WRITE (R420). -/
def execPwrLossmkWrite (m : Mst) (v : Word) (s : State) : Host.Outcome State Fault Refusal := .next (regWrite s m.val Reg.pwrLossmk v)
/-- PWR_VCNT_READ (R420). -/
def execPwrVcntRead (m : Mst) (s : State) : Host.Outcome State Fault Refusal := .next (regRead s m.val Reg.pwrVcnt)
/-- DBGV_TX_WRITE (R486). -/
def execDbgvTxWrite (m : Mst) (v : Word) (s : State) : Host.Outcome State Fault Refusal := .next (regWrite s m.val Reg.dbgvTx v)
/-- DBGV_RX_READ (R486). -/
def execDbgvRxRead (m : Mst) (s : State) : Host.Outcome State Fault Refusal := .next (regRead s m.val Reg.dbgvRx)

end Sys2Proof.Machine
end

