-- ==== Sys2Proof/Machine/EditArm.lean ====
section
/-! DEFINITION. The Wellspring's part of an edit's commit: arming (R243, R247) and the checks of EDIT_PREP. -/

namespace Sys2Proof.Machine

/-- Writes by the Wellspring in order: 0 when all are done, 0x11 where the journal is full, `code` where a block refuses one. -/
def wspPuts (code : Nat) (s : State) : List (Nat × Word) → State × Nat
  | [] => (s, 0)
  | (a, v) :: r =>
    match wspPut s a v with
    | .done s => wspPuts code s r
    | .full s => (s, 0x11)
    | o => (o.state, code)

/-- SCHED_EDCTL of an edit. -/
def edWord (a eid : Nat) (twin swapw : Bool) : Word :=
  BitVec.ofNat 32 (a + 32 + eid % 65536 * 64 + b2n twin * 2 ^ 22 + b2n swapw * 2 ^ 23)

/-- Write EDCYC, EDMIG and ARM = 1, then read the pending header: a reason of R244, 0 for success. -/
def armEdit (s : State) (st : Staged) (eid : Nat) (twin swapw : Bool) (c : Nat) : State × Nat :=
  let d := BitVec.ofNat 64 c
  match wspPuts 0x0A s [(Reg.schedEdcycl, lo32 d), (Reg.schedEdcych, hi32 d), (Reg.schedEdmig, BitVec.ofNat 32 (st.off + st.count * 2 ^ 15)),
      (Reg.schedEdctl, edWord st.app eid twin swapw)] with
  | (s, 0) =>
    let s := shadowLoaded s
    (s, if edArmed s then 0 else 2)
  | r => r

/-- The bank in force at the commit. -/
def edBank (s : State) (swapw : Bool) : Bool := aBank s != swapw

/-- The checks of staging again, with the commit cycle. -/
def recheck (s : State) (st : Staged) (swapw : Bool) (c : Nat) : State × Except Nat Staged :=
  editCheck s st.app st.slotB st.off st.count (some (c, edBank s swapw))

/-- Words of an EDIT_PREP (log 20). -/
def prepWords (eid c : Nat) (swapw : Bool) (h : List Word) (st : Staged) : List Word :=
  let d := BitVec.ofNat 64 c
  [BitVec.ofNat 32 (eid % 65536 + st.app * 2 ^ 16 + b2n swapw * 2 ^ 24), lo32 d, hi32 d, hdrProgid h, hdrCodeCrc h, st.crc,
   BitVec.ofNat 32 st.t5]

/-- The header of the slot that is not active. -/
def pendHeader (s : State) (a : Nat) : State × Option (List Word) := readOuterN s (slotBase s a (!activeB s a)) 64

/-- The standby's answer to an EDIT_PREP: the reason, 0 once it has armed. -/
def prepAnswer (s : State) (ws : List Word) : State × Nat :=
  let a := fld (nth ws 0) 20 16
  let swapw := bit (nth ws 0) 24
  let c := (dbl (nth ws 1) (nth ws 2)).toNat
  match s.edit.staged with
  | none => (s, 8)
  | some st =>
    if st.app ≠ a ∨ !(decide (s.dev = .tracking) && s.twin.live) then (s, 8)
    else
      match recheck s st swapw c with
      | (s, .error r) => (s, r)
      | (s, .ok st) =>
        match pendHeader s a with
        | (s, none) => (s, 2)
        | (s, some h) =>
          if (prepWords (fld (nth ws 0) 15 0) c swapw h st).drop 3 ≠ (ws.drop 3).take 4 then (s, 8)
          else if c < cycNow s + 2 then (s, 9)
          else armEdit s st (fld (nth ws 0) 15 0) true swapw c

/-- The primary receives the standby's result (R247). EDIT_COMMIT carries no SWAPW, and the Wellspring writes 0 (DESIGN CHOICE,
log 26). -/
def prepResult (s : State) (eid reason : Nat) : State :=
  match s.waits.find? fun w => match w.kind with | .edit _ _ false => true | _ => false with
  | none => s
  | some w =>
    match w.kind, s.edit.staged with
    | .edit a c false, some st =>
      let fail (s : State) (r : Nat) : State := endWaits s (fun x => decide (x = w)) (editStatus r) r
      if eid ≠ s.edit.eid.toNat % 65536 ∨ s.dev ≠ .run then s
      else if reason ≠ 0 then fail s (if reason = 0x11 then 0x11 else 8)
      else if st.app ≠ a ∨ c.toNat ≤ cycNow s + 1 then fail (mgmtSend s 3 [abrtWord eid 8]) 9
      else
        match armEdit s st eid true false c.toNat with
        | (s, 0) => { s with waits := s.waits.map fun x => if x = w then { x with kind := .edit a c true, hseq := some (rd s Reg.jrnHead) } else x }
        | (s, r) => fail (mgmtSend s 3 [abrtWord eid 8]) r
    | _, _ => s

end Sys2Proof.Machine
end

