-- ==== Sys2Proof/Machine/RingRx.lean ====
section
/-! DEFINITION. Frames received from the Shore ring: forwarding, stripping and wrap (R292 to R295), links and reports (R297 to
R300), time and beacons (R302 to R304), admission (R306 to R308), item copies (R312), twin and management frames (R247,
R268 to R279, R315). -/

namespace Sys2Proof.Machine

/-! ### The twin becomes unreachable (R276, R279) -/

/-- A START with the standby role waits at a device in Config. -/
def joinWaits (s : State) : Bool := decide (s.dev = .config) && s.waits.any fun w => decide (w.kind = .startStandby)

/-- The twin has left the settled set between two states. -/
def twinWatch (old s : State) : State :=
  if !(bound s && (reachSet old).contains (twNode s)) || (reachSet s).contains (twNode s) then s
  else if s.dev = .run ∧ (s.twin.live ∨ s.twin.joining) then twinLost (dropTwin s true)
  else if isSby s ∧ s.twin.lostAt.isNone then twinLost { s with twin := { s.twin with lostAt := some s.tb.now } }
  else if joinWaits s then joinFail s
  else s

/-! ### Forwarding -/

/-- Send a frame on out of the other port (R292, R295). -/
def forward (s : State) (p : Port) (ws : List Word) (bad : Bool) : State :=
  let ws := if fTyp ws = 5 ∧ !bad then resealFrame (putNth ws 7 (nth ws 7 + BitVec.ofNat 32 (16 * linkDelay s p))) else ws
  sendVia s (other p) { arr := s.tb.now, cls := typeClass (fTyp ws), transit := true, bad := bad, words := ws }

/-- A copy of this frame was taken within 1 ms (R292). -/
def sameCopy (ws : List Word) (c : SeenCopy) : Bool :=
  decide (c.src = fSrc ws ∧ c.typ = fTyp ws ∧ c.sub = fSub ws ∧ c.seq = fSeq ws)
def seenNow (s : State) : List SeenCopy := s.shr.seen.filter fun c => decide (s.tb.now.toNat < c.time.toNat + 1000000)

/-! ### Reports and time -/

def takeLink (s : State) (ws : List Word) (up : Bool) : State :=
  let o := fld (nth (fPay ws) 0) 5 0
  let portB := bit (nth (fPay ws) 0) 6
  let q := if portB then Port.a else Port.b
  let s := if !up && decide (o = nodeOf s) && portUp s q && decide (nbrOf s q = fSrc ws) then portDown s q (fTs ws) else s
  addReport s (.link (reportAt s (fTs ws)) (fTs ws) (fSrc ws) o portB up)

def takeTopo (s : State) (ws : List Word) : State :=
  let l := topoLinks (fSrc ws) (nth (fPay ws) 0)
  let s := if fSrc ws = 0 then sb s Reg.grvQstat 18 l.wit else s
  addReport s (.topo (reportAt s (fTs ws)) (fTs ws) l)

/-- A SYNC at a node with SRC = 0b01 (R303). -/
def takeSync (s : State) (p : Port) (ws : List Word) : State :=
  if tbSrc s ≠ 1 then s
  else
    let origin := dbl (fTs ws) (nth (fPay ws) 0)
    let e : Int := (origin.toNat : Int) + (nth (fPay ws) 1).toNat / 16 + linkDelay s p - s.tb.now.toNat
    let step := !s.shr.syncSeen && mayStep s
    tbMeasure { s with shr := { s.shr with syncSeen := true, syncLast := some s.tb.now } } e step

/-- The manager's own SYNC returns: the loop delay of its direction (R304). -/
def ownSync (s : State) (ws : List Word) : State :=
  if !s.shr.acting then s
  else
    let d := (s.tb.now - dbl (fTs ws) (nth (fPay ws) 0)).toNat
    dlySettle (if fDirB ws then wf s Reg.shrLoop 31 16 d else wf s Reg.shrLoop 15 0 d)

/-- The roster of a BEACON (R308). -/
def beaconRoster (s : State) (ws : List Word) : State :=
  if s.shr.acting then s
  else
    let m := fld (nth (fPay ws) 2) 6 1
    let s := rosterPut (wr (wr s Reg.shrRoster0 (nth (fPay ws) 3)) Reg.shrRoster1 (nth (fPay ws) 4 &&& 0x7FFFFFFF#32)) (m % 63) true
    trackOutside (if rosterBit s (nodeOf s) then s else sb s Reg.shrStat 26 false)

/-- The checks of a BEACON (R304). -/
def takeBeacon (s : State) (ws : List Word) : State :=
  let s := beaconRoster s ws
  let s := if fSrc ws = 0 then sb s Reg.grvQstat 18 (bit (nth (fPay ws) 2) 0) else s
  let s := if s.shr.acting then s else dlySettle (wr s Reg.shrLoop (nth (fPay ws) 5))
  if dbl (fCyc ws) (nth (fPay ws) 0) = dbl (rd s Reg.schedCycl) (rd s Reg.schedCych) ∧ nth (fPay ws) 1 = ringDigest s then
    { s with shr := { s.shr with bcnBad := 0 } }
  else
    let n := s.shr.bcnBad + 1
    let hold := decide (n ≥ 2) && (decide (s.dev = .run) || decide (s.dev = .tracking))
    let s := record (sb s Reg.shrStat 3 true) { faultOf 0x11 (if hold then 3 else 0) with discard := hold }
    let s := { s with shr := { s.shr with bcnBad := n } }
    if hold then askSafeHold s 6 else s

/-- The acting manager answers a JOIN_REQ (R306, R307). -/
def takeJoinReq (s : State) (ws : List Word) : State :=
  if !s.shr.acting then s
  else
    let n := fSrc ws
    let answer (s : State) (r : Nat) : State := originate s 8 0 n n true true false (lo32 s.tb.now) [BitVec.ofNat 32 r]
    let refuse (s : State) (r : Nat) : State := answer (wf (wf s Reg.shrAdmstat 5 0 n) Reg.shrAdmstat 7 6 r) r
    if (rosterList s).length ≥ 63 then
      let s := record (sb s Reg.shrAdmstat 8 true) { faultOf 0x12 0 with info := BitVec.ofNat 32 n }
      pushEvent (refuse s 1) 3 0 n
    else if rosterBit s n then refuse s 2
    else if nth (fPay ws) 0 ≠ ringDigest s then refuse s 3
    else trackOutside (answer (rosterPut s n true) 0)

def takeJoinAck (s : State) (ws : List Word) : State :=
  let r := fld (nth (fPay ws) 0) 1 0
  let s := wf s Reg.shrStat 25 24 r
  if r = 0 then sb s Reg.shrStat 26 true else s

/-! ### Items (R312) -/

def rxMaster : Port → Nat
  | .a => 36
  | .b => 37

/-- A copy for an item of the table is accepted into its slot, or refused and counted. -/
def takeItem (s : State) (p : Port) (ws : List Word) : State :=
  match s.shr.items[fSub ws]? with
  | none => cntDrop s p
  | some e =>
    if fLenw ws ≠ itLen e then cntLen s p
    else
      let t := rf s Reg.shrItact 18 13
      let w := itSlot e
      let m := rxMaster p
      match readWords s t w m 3 with
      | (s, none) => cntDrop s p
      | (s, some sl) =>
        let partner := decide (itPartner e ≠ 0x3F)
        let late := decide (fld (nth sl 1) 9 6 ≠ 4) || decide ((rd s Reg.schedCycl - nth sl 2).toNat ≥ 2)
        let d := (fSeq ws - nth sl 0).toNat
        let ok := itemRx e && (decide (fSrc ws = itProd e) || (partner && decide (fSrc ws = itPartner e))) &&
          (!partner || decide (fState ws = 4) || late) && (decide (fSrc ws ≠ fld (nth sl 1) 5 0) || decide (1 ≤ d ∧ d < 2 ^ 31))
        if !ok then cntDrop s p
        else
          match checkMem s (hwReq m) (tarnAddr t w) needW spData with
          | some d => logDenial s d
          | none =>
            let body := BitVec.ofNat 32 (fSrc ws + fState ws * 64) :: fCyc ws :: fPay ws
            let s := (indexed 1 body).foldl (fun st x => writeTarnW st t (w + x.1) m x.2) s
            sourceUpdated (writeTarnW s t w m (fSeq ws)) fun r => decide (r.kind = 2 ∧ r.item = fSub ws)

/-- The payload exceeds the slot it is meant for (R294). -/
def itemTooLong (s : State) (ws : List Word) : Bool :=
  decide (fTyp ws = 0x10) &&
  (match s.shr.items[fSub ws]? with
   | some e => itemRx e && decide (fLenw ws > itLen e)
   | none => false)

/-! ### Twin frames -/

def snapOf (s : State) (a : Nat) : SnapRx := (s.twin.snaps.find? fun x => decide (x.app = a)).getD { app := a, got := 0, reg := 0, want := none }
def putSnap (s : State) (x : SnapRx) : State :=
  { s with twin := { s.twin with snaps := s.twin.snaps.filter (fun y => decide (y.app ≠ x.app)) ++ [x] } }

/-- Every snapshot due at this boundary is whole (R274). -/
def snapsHere (s : State) : Bool :=
  (snapApps s).all fun a => (snapOf s a).want.isSome && decide ((snapOf s a).got = inLen s a)

/-- The standby's own value of one inlet side, and whether it and the digest agree; the value is kept. -/
def snapAgrees (s : State) (a : Nat) : State × Bool :=
  match bankNow s, (snapOf s a).want with
  | some b, some (cv, dg) =>
    let c := appCvch s b a
    if inLen s a = 0 then (s, decide (dg = bankDigest s b))
    else
      let (t, w) := fillSide s a
      match hwJob s c 2 a (lo32 s.bnd.cyc) t w (inLen s a) with
      | (s, none) => (s, false)
      | (s, some v) => (putApp (putVin s c v) a { app s a with cvIn := v }, decide (v = cv ∧ dg = bankDigest s b))
  | _, _ => (s, false)
def snapsAgree (s : State) : List Nat → State × Option Nat
  | [] => (s, none)
  | a :: r =>
    match snapAgrees s a with
    | (s, true) => snapsAgree s r
    | (s, false) => (s, some a)

/-- The standby's edit is ready to commit at this boundary with the primary's (R245). -/
def edReady (s : State) : Bool := edArmed s && edTwin s && decide (edCyc s = bndCyc s) && s.edit.ego && decide (s.edit.fail = 0)

/-- All snapshots are in: AGREE and steps 5 to 7, or REFUSE and Safe Hold (R274). -/
def snapJudge (s : State) : State :=
  match snapsAgree s (snapApps s) with
  | (s, none) =>
    let ok := edReady s
    let s := twinSend s 2 [BitVec.ofNat 32 (edEid s + b2n ok * 65536)]
    steps57 { s with edit := { s.edit with commit := ok } }
  | (s, some a) =>
    let s := twStat (twinSend s 3 []) 5 a
    if s.dev = .config then steps57 (joinFail s)
    else
      let s := enterSafeHold s 6
      { s with bnd := { s.bnd with phase := .idle } }

/-- A SNAP frame: words of an inlet side, or the closing frame with the check value, the digest and the edit's fields. -/
def takeSnap (s : State) (p : Port) (ws : List Word) : State :=
  let w := nth (fPay ws) 0
  let a := fld w 19 15
  if s.bnd.phase ≠ .snapshots ∨ !(snapApps s).contains a then s
  else if bit w 31 then
    let x := nth (fPay ws) 4
    let ego := bit x 0 && decide (fld x 31 16 = edEid s)
    let s := putSnap s { snapOf s a with want := some (dbl (nth (fPay ws) 1) (nth (fPay ws) 2), nth (fPay ws) 3) }
    let s := if ego then { s with edit := { s.edit with ego := true } } else s
    if snapsHere s then snapJudge s else s
  else
    let off := fld w 14 0
    let d := (fPay ws).drop 1
    if off + d.length > inLen s a then cntLen s p
    else
      let (t, k) := fillSide s a
      match routeCheck s t (k + off) needW with
      | some n => logDenial s n
      | none =>
        let s := putSnap (fabricWrite s t (k + off) d) { snapOf s a with got := (snapOf s a).got + d.length }
        if snapsHere s then snapJudge s else s

def takeAgree (s : State) (ws : List Word) : State :=
  let w := nth (fPay ws) 0
  if s.bnd.phase = .agree ∧ isPri s then
    steps57 { s with twin := { s.twin with agreed := some (bit w 16, BitVec.ofNat 32 (fld w 15 0)) } }
  else s
def takeRefuse (s : State) : State :=
  if s.bnd.phase = .agree ∧ isPri s then agreeFails (twStat s 5 ((snapApps s).headD 0)) else s

def takeRecord (s : State) (ws : List Word) : State :=
  let s := { s with twin := { s.twin with recs := putRec s.twin.recs (recOf (fPay ws)) } }
  if s.bnd.phase = .records ∧ recsHere s then recsJudge s else s

def takeHandoffFrame (s : State) : State :=
  if s.bnd.phase = .handoff then takeHandoff s
  else if isSby s then { s with twin := { s.twin with handoff := true } } else s

/-- TWIN_DROP at a standby in MISS (R275) or at a joining device. -/
def takeDrop (s : State) : State :=
  if s.dev = .tracking ∧ s.twin.missAt.isSome then boundaryResume (enterSafeHold s 6)
  else if s.dev = .config ∧ s.twin.joining then joinFail s
  else s

/-- The twin has departed or left its part (R276, R279). -/
def takeLeft (s : State) : State :=
  if s.dev = .run ∧ (s.twin.live ∨ s.twin.joining) then twinLost (dropTwin s false)
  else if isSby s ∧ s.twin.lostAt.isNone then twinLost { s with twin := { s.twin with lostAt := some s.tb.now } }
  else if joinWaits s then joinFail s
  else s

def takeTwin (s : State) (p : Port) (ws : List Word) : State :=
  if !bound s ∨ fSrc ws ≠ twNode s then s
  else match fSub ws with
    | 1 => takeSnap s p ws
    | 2 => takeAgree s ws
    | 3 => takeRefuse s
    | 4 => takeRecord s ws
    | 5 => takeHandoffFrame s
    | 6 => takeDrop s
    | 7 => takeLeft s
    | 8 => takeLeft s
    | _ => s

/-! ### Management frames -/

/-- SW_PREP at the standby: for a switchover it arms; for a bank swap it checks the inactive bank and requests the same swap
(R265, R278). -/
def takeSwPrep (s : State) (ws : List Word) : State :=
  let d := dbl (nth ws 0) (nth ws 1)
  let kind := fld (nth ws 2) 0 0
  let fit := decide (s.dev = .tracking) && s.twin.live && s.twin.missAt.isNone
  let answer (s : State) (ok : Bool) : State := mgmtSend s 5 [BitVec.ofNat 32 (1 - b2n ok), BitVec.ofNat 32 kind]
  if kind = 0 then
    if fit && inStep s && !edArmed s && decide (d.toNat > cycNow s) then answer { s with twin := { s.twin with armed := some d } } true
    else answer s false
  else if fit && decide (bankDigest s (!aBank s) = nth ws 3) then
    match wspPuts 1 s [(Reg.schedSwapl, lo32 d), (Reg.schedSwaph, hi32 d), (Reg.schedCtl, rd s Reg.schedCtl ||| 8#32)] with
    | (s, 0) => answer s (swapPend s)
    | (s, _) => answer s false
  else answer s false

/-- The kind of a waiting command. -/
def isSwitch (w : WaitCmd) : Bool := match w.kind with | .switchover _ => true | _ => false
def isSwap (w : WaitCmd) : Bool := match w.kind with | .swap _ => true | _ => false

/-- CFGIDX and CFGAPP, the data of a failed validation (R433). -/
def cfgData (s : State) : List Word := [BitVec.ofNat 32 (rf s Reg.schedStat 13 8), BitVec.ofNat 32 (rf s Reg.schedStat 18 14)]

/-- SCHEDULE_SET has written SWAPREQ: it completes with the cycle, or with the failed validation (R433). -/
def swapEnd (s : State) (d : Dbl) : State :=
  (s.waits.filter isSwap).foldl (fun st w =>
    if swapPend st then complete (freeObj st w.chan) w.chan stOk 0 [lo32 d, hi32 d]
    else complete st w.chan stBadParam (rf st Reg.schedStat 7 4) (cfgData st)) s

/-- SW_PREPD at the primary (R278): it arms, or its command completes with BAD_STATE. A bank swap on a twin follows the same pattern
(R265). -/
def takeSwPrepd (s : State) (ws : List Word) : State :=
  let ok := decide (nth ws 0 = 0)
  if nth ws 1 = 0 then
    match s.twin.prep with
    | none => s
    | some d =>
      let s := { s with twin := { s.twin with prep := none } }
      if ok && decide (d.toNat > cycNow s + 1) then { s with twin := { s.twin with armed := some d } }
      else endWaits (if ok then mgmtSend s 6 [] else s) isSwitch stBadState 0
  else
    match s.twin.swapPrep with
    | none => s
    | some d =>
      let s := { s with twin := { s.twin with swapPrep := none } }
      if ok && decide (d.toNat > cycNow s + 1) then
        match wspPut s Reg.schedCtl (rd s Reg.schedCtl ||| 8#32) with
        | .done s => swapEnd { s with waits := s.waits.map fun w => if isSwap w then { w with hseq := some (rd s Reg.jrnHead) } else w } d
        | .full s => endWaits s isSwap stJournal 0
        | o => endWaits o.state isSwap stBadState 0
      else endWaits (if ok then mgmtSend s 6 [] else s) isSwap stBadState 0

/-- A join request at the primary: the items are compared, and the join starts (R268, R270). The words: the joining device's
digest, and the node it names as its twin. -/
def joinRequest (s : State) (ws : List Word) : State :=
  let ok := decide (s.dev = .run) && !s.twin.live && joinFit s && decide (nth ws 1 = joinDigest s) &&
    decide (fld (nth ws 2) 5 0 = nodeOf s) && decide (joinLoad s ≤ 130 * rf s Reg.schedMcyc 19 0)
  let s := if ok then { s with twin := { State.twinReset with joining := true } } else s
  mgmtSend s 7 [jcWord jcResult 0 true, BitVec.ofNat 32 (1 - b2n ok)]

/-- JOIN_COPY by its kind (log 20). -/
def takeJoinCopy (s : State) (ws : List Word) : State :=
  let w := nth ws 0
  let a := fld w 12 8
  let k := fld w 7 0
  if k = jcRequest then joinRequest s ws
  else if k = jcResult then
    if s.dev = .config ∧ s.waits.any (fun x => decide (x.kind = .startStandby)) then
      if nth ws 1 = 0 then { s with twin := { State.twinReset with joining := true } } else joinFail s
    else s
  else if k = jcData then copyTake s a (bit w 16) (nth ws 1).toNat (ws.drop 2)
  else if k = jcFail then (if s.dev = .config ∧ s.twin.joining then joinFail s else s)
  else if k = jcAck then
    if s.dev = .run ∧ s.twin.joining ∧ s.twin.jOut = some a then
      { s with twin := { s.twin with jOut := none, tries := 0, joined := if s.twin.joined.contains a then s.twin.joined else s.twin.joined ++ [a] } }
    else s
  else s

/-- Management frames from the twin reach the Wellspring while it runs. -/
def takeMgmt (s : State) (ws : List Word) : State :=
  let pay := fPay ws
  let w := nth pay 0
  if s.wspStopped ∨ !bound s ∨ fSrc ws ≠ twNode s then s
  else match fSub ws with
    | 1 =>
      let (s, r) := prepAnswer s pay
      mgmtSend s 2 [abrtWord (fld w 15 0) r]
    | 2 => prepResult s (fld w 15 0) (fld w 31 16)
    | 3 => if edArmed s ∧ fld w 15 0 = edEid s then editAbandon s (fld w 20 16) else s
    | 4 => takeSwPrep s pay
    | 5 => takeSwPrepd s pay
    | 6 => if s.dev = .tracking then { s with twin := { s.twin with armed := none } } else s
    | 7 => takeJoinCopy s pay
    | _ => s

/-! ### The order of R292 -/

/-- Use a local copy. A node that is not admitted takes JOIN_ACK, and the roster of a BEACON (R306). -/
def takeCopy (s : State) (p : Port) (ws : List Word) : State :=
  if !ringAdmitted s then
    if fTyp ws = 8 then takeJoinAck s ws else if fTyp ws = 6 then beaconRoster s ws else s
  else match fTyp ws with
    | 2 => takeLink s ws false
    | 3 => takeLink s ws true
    | 4 => takeTopo s ws
    | 5 => takeSync s p ws
    | 6 => takeBeacon s ws
    | 7 => takeJoinReq s ws
    | 8 => takeJoinAck s ws
    | 0x10 => takeItem s p ws
    | 0x20 => takeTwin s p ws
    | 0x30 => takeMgmt s ws
    | _ => s

/-- Take a copy unless the same frame was taken within 1 ms. -/
def takeOnce (s : State) (p : Port) (ws : List Word) : State :=
  let seen := seenNow s
  if seen.any (sameCopy ws) then s
  else takeCopy { s with shr := { s.shr with seen := ⟨fSrc ws, fTyp ws, fSub ws, fSeq ws, s.tb.now⟩ :: seen } } p ws

/-- This node is to take a copy. -/
def forMe (s : State) (ws : List Word) : Bool :=
  decide (fDst ws = nodeOf s) || decide (fDst ws = 0x3F) ||
  (decide (fTyp ws = 0x10) && (match s.shr.items[fSub ws]? with | some e => itemRx e | none => false))

/-- A heartbeat is used on this link. -/
def takeHeartbeat (s : State) (p : Port) (ws : List Word) : State :=
  if lengthBad ws then heartbeatBad (cntLen s p) p
  else if pcrcBad ws then heartbeatBad (cntPcrc s p) p
  else heartbeatTake s p ws

/-- A frame whose HCRC has passed and whose type is known, but HEARTBEAT. -/
def route292 (s : State) (p : Port) (ws0 : List Word) : State :=
  let ws := putNth ws0 0 (putFld (nth ws0 0) 30 24 (fHops ws0 + 127))
  let lenBad := lengthBad ws || (forMe s ws && itemTooLong s ws)
  let pBad := !lenBad && pcrcBad ws
  let bad := lenBad || pBad
  let s := if lenBad then cntLen s p else if pBad then cntPcrc s p else s
  if fWraps ws = 1 then forward s p ws bad
  else if fSrc ws = nodeOf s then (if fTyp ws = 5 ∧ !bad then ownSync s ws else s)
  else
    let s := if forMe s ws && !bad then takeOnce s p ws else s
    if fDst ws = nodeOf s then s
    else if fHops ws = 0 then cntDrop s p
    else forward s p ws bad

/-- A frame arrives on a port (R292). -/
def receive (s : State) (p : Port) (ws : List Word) : State :=
  if !(ringRuns s && hasLock s p) then s
  else if ws.length < 6 ∨ hcrcOf ws ≠ nth ws 5 then cntHcrc s p
  else if !knownType (fTyp ws) then cntDrop s p
  else if fTyp ws = 1 then takeHeartbeat s p ws
  else if ringAdmitted s && !inRoster s (fSrc ws) && !decide (fTyp ws = 6 ∨ fTyp ws = 7 ∨ fTyp ws = 8) then s
  else twinWatch s (route292 s p ws)

/-- A frame of this step's kind: its header is intact and `is` holds. -/
def receiveIf (is : List Word → Bool) (s : State) (p : Port) (f : Frame) : State :=
  let ws := f.words
  if decide (ws.length ≥ 6) && decide (hcrcOf ws = nth ws 5) && is ws then receive s p ws else s
def typIs (t : Nat) (ws : List Word) : Bool := decide (fTyp ws = t)
def subIs (t n : Nat) (ws : List Word) : Bool := decide (fTyp ws = t ∧ fSub ws = n)

/-- A frame that no other step receives: header damaged, type unknown, or a subtype that R315 does not list. -/
def isUnknown (ws : List Word) : Bool :=
  decide (ws.length < 6) || decide (hcrcOf ws ≠ nth ws 5) || !knownType (fTyp ws) ||
  (decide (fTyp ws = 0x20) && !decide (1 ≤ fSub ws ∧ fSub ws ≤ 8)) || (decide (fTyp ws = 0x30) && !decide (1 ≤ fSub ws ∧ fSub ws ≤ 7))

/-- REPORT_APPLY (R299). -/
def reportApply (s : State) : State := if ringRuns s then twinWatch s (reportDue s).1 else s

/-! ### Rows -/

/-- HEARTBEAT (R297). -/
def execHeartbeat (p : Port) (f : Frame) (s : State) : Host.Outcome State Fault Refusal := .next (receiveIf (typIs 1) s p f)
/-- LINK_DOWN (R298). -/
def execLinkDown (p : Port) (f : Frame) (s : State) : Host.Outcome State Fault Refusal := .next (receiveIf (typIs 2) s p f)
/-- LINK_UP (R297). -/
def execLinkUp (p : Port) (f : Frame) (s : State) : Host.Outcome State Fault Refusal := .next (receiveIf (typIs 3) s p f)
/-- TOPO (R299). -/
def execTopo (p : Port) (f : Frame) (s : State) : Host.Outcome State Fault Refusal := .next (receiveIf (typIs 4) s p f)
/-- REPORT_APPLY (R299). -/
def execReportApply (s : State) : Host.Outcome State Fault Refusal := .next (reportApply s)
/-- SYNC_FRAME (R303). -/
def execSyncFrame (p : Port) (f : Frame) (s : State) : Host.Outcome State Fault Refusal := .next (receiveIf (typIs 5) s p f)
/-- BEACON (R304). -/
def execBeacon (p : Port) (f : Frame) (s : State) : Host.Outcome State Fault Refusal := .next (receiveIf (typIs 6) s p f)
/-- JOIN_REQ (R306). -/
def execJoinReq (p : Port) (f : Frame) (s : State) : Host.Outcome State Fault Refusal := .next (receiveIf (typIs 7) s p f)
/-- JOIN_ACK (R306). -/
def execJoinAck (p : Port) (f : Frame) (s : State) : Host.Outcome State Fault Refusal := .next (receiveIf (typIs 8) s p f)
/-- ITEM (R312). -/
def execItem (p : Port) (f : Frame) (s : State) : Host.Outcome State Fault Refusal := .next (receiveIf (typIs 0x10) s p f)
/-- UNKNOWN_FRAME (R290). -/
def execUnknownFrame (p : Port) (f : Frame) (s : State) : Host.Outcome State Fault Refusal :=
  .next (if isUnknown f.words then receive s p f.words else s)
/-- SNAP (R274). -/
def execSnap (p : Port) (f : Frame) (s : State) : Host.Outcome State Fault Refusal := .next (receiveIf (subIs 0x20 1) s p f)
/-- AGREE (R274). -/
def execAgree (p : Port) (f : Frame) (s : State) : Host.Outcome State Fault Refusal := .next (receiveIf (subIs 0x20 2) s p f)
/-- REFUSE (R274). -/
def execRefuse (p : Port) (f : Frame) (s : State) : Host.Outcome State Fault Refusal := .next (receiveIf (subIs 0x20 3) s p f)
/-- RECORD (R273). -/
def execRecord (p : Port) (f : Frame) (s : State) : Host.Outcome State Fault Refusal := .next (receiveIf (subIs 0x20 4) s p f)
/-- HANDOFF (R278). -/
def execHandoff (p : Port) (f : Frame) (s : State) : Host.Outcome State Fault Refusal := .next (receiveIf (subIs 0x20 5) s p f)
/-- TWIN_DROP (R275). -/
def execTwinDrop (p : Port) (f : Frame) (s : State) : Host.Outcome State Fault Refusal := .next (receiveIf (subIs 0x20 6) s p f)
/-- DEPART (R279). -/
def execDepart (p : Port) (f : Frame) (s : State) : Host.Outcome State Fault Refusal := .next (receiveIf (subIs 0x20 7) s p f)
/-- LEFT (R279). -/
def execLeft (p : Port) (f : Frame) (s : State) : Host.Outcome State Fault Refusal := .next (receiveIf (subIs 0x20 8) s p f)
/-- EDIT_PREP (R247). -/
def execEditPrep (p : Port) (f : Frame) (s : State) : Host.Outcome State Fault Refusal := .next (receiveIf (subIs 0x30 1) s p f)
/-- EDIT_PREPD (R247). -/
def execEditPrepd (p : Port) (f : Frame) (s : State) : Host.Outcome State Fault Refusal := .next (receiveIf (subIs 0x30 2) s p f)
/-- EDIT_ABRT (R247). -/
def execEditAbrt (p : Port) (f : Frame) (s : State) : Host.Outcome State Fault Refusal := .next (receiveIf (subIs 0x30 3) s p f)
/-- SW_PREP (R278). -/
def execSwPrep (p : Port) (f : Frame) (s : State) : Host.Outcome State Fault Refusal := .next (receiveIf (subIs 0x30 4) s p f)
/-- SW_PREPD (R278). -/
def execSwPrepd (p : Port) (f : Frame) (s : State) : Host.Outcome State Fault Refusal := .next (receiveIf (subIs 0x30 5) s p f)
/-- SW_ABRT (R278). -/
def execSwAbrt (p : Port) (f : Frame) (s : State) : Host.Outcome State Fault Refusal := .next (receiveIf (subIs 0x30 6) s p f)
/-- JOIN_COPY (R270). -/
def execJoinCopy (p : Port) (f : Frame) (s : State) : Host.Outcome State Fault Refusal := .next (receiveIf (subIs 0x30 7) s p f)

end Sys2Proof.Machine
end

