-- ==== Sys2Proof/Machine/Pwr.lean ====
section
/-! DEFINITION. Supply levels and the order of events at a power loss (R415 to R418), and the power of Grove domains (R509). -/

namespace Sys2Proof.Machine

/-! ### Supply levels -/

/-- Trace stops at SAG1 or lower (R416, R487). -/
def sagStop (s : State) : State := dbgWr s 0x030 (putBit (putBit (dbgRd s 0x030) 4 false) 5 true)

/-- Groves that run an Auxiliary Glade. -/
def auxGroves (s : State) : List Nat :=
  (List.range 16).filter fun g => match (grv s g).glade with | some r => !appIsVital s r.app | none => false

/-- SAG2 or lower: Auxiliary Glades stop, and none starts (R417). -/
def shedAux (s : State) : State := { (auxGroves s).foldl forceStop s with auxHeld := true }

/-- The device enters Safe Hold on LOSS (R26, R418), from Boot as from any state that R26 lists. -/
def lossEntry (s : State) : State :=
  let s := { s with pwr := { s.pwr with lossAt := some s.tb.now, lossSent := false, marked := false } }
  lossSend (settle (if s.dev = .boot then setDev s .safeHold 9 else enterSafeHold s 9))

/-- What the fall to a level sheds. -/
def shed (s : State) (l : Nat) : State :=
  let s := sagStop s
  let s := if l ≤ 1 then shedAux s else s
  if l = 0 ∧ s.dev ≠ .reset then lossEntry s else settle s

/-- Some cycle in progress before is discarded after. -/
def discards (old s : State) : Bool := appsAll.any fun a => (app old a).active && !(app s a).active && decide ((app s a).ended = .discarded)

/-- A lower level is accepted (R415; RAW alone moves where the accepted level is already at or below it): the level and its counts, the record of R413, then the shedding of every level it passes. -/
def vmonFall (s : State) (l : Nat) : State :=
  let was := vmonLevel s
  if s.dev = .off then s
  else if was ≤ l then (if l < rf s Reg.pwrVstat 1 0 then wf s Reg.pwrVstat 1 0 l else s)
  else
    let s := sb (wf (wf s Reg.pwrVstat 1 0 l) Reg.pwrVstat 3 2 l) Reg.pwrVstat 6 true
    let s := if was = 3 then bump s Reg.pwrVcnt 7 0 1 else s
    let s := if was ≥ 2 ∧ l ≤ 1 then bump s Reg.pwrVcnt 15 8 1 else s
    let s := if l = 0 then sb s Reg.pwrVstat 4 true else s
    let d := discards s (shed s l)
    shed (record s { faultOf 0x16 (if l = 0 then 3 else 0) with discard := d, info := BitVec.ofNat 32 l }) l

/-- A gated Grove is asked for. -/
def wantGrove (s : State) (g : Nat) : State := { s with pwr := { s.pwr with upReq := s.pwr.upReq ||| (1#16 <<< g) } }

def VLevel.code : VLevel → Nat
  | .loss => 0 | .sag2 => 1 | .sag1 => 2 | .normal => 3

/-- A higher level has been accepted for 1 ms (R415), which RAW shows even where an accepted LOSS keeps the level; leaving SAG2 powers the gated Split Groves (R417). -/
def vmonRise (s : State) (l : Nat) : State :=
  let was := vmonLevel s
  if s.dev = .off then s
  else if l ≤ was ∨ rb s Reg.pwrVstat 4 then
    (if rf s Reg.pwrVstat 1 0 < l then wf s Reg.pwrVstat 1 0 l else s)
  else
    let s := wf (wf s Reg.pwrVstat 1 0 l) Reg.pwrVstat 3 2 l
    let s := if was ≤ 1 ∧ l ≥ 2 then
        (List.range 16).foldl (fun st g => if isSplit st g && gated st g then wantGrove st g else st) s
      else s
    settle s

/-- PWR_SAFE: after the safe images and the journal mark, or 22 us after the acceptance (R418). -/
def pwrSafeAssert (s : State) : State :=
  match s.pwr.lossAt with
  | none => s
  | some t =>
    let s := lossSend s
    if s.dev ≠ .off ∧ s.dev ≠ .reset ∧
       ((s.pwr.lossSent ∧ (s.pwr.marked ∨ jrnFull s)) ∨ t.toNat + 22000 ≤ s.tb.now.toNat)
    then { s with pwr := { s.pwr with safe := true } }
    else s

/-! ### Grove domains (R509) -/

def setGb (w : BitVec 16) (g : Nat) (b : Bool) : BitVec 16 := if b then w ||| (1#16 <<< g) else w &&& ~~~ (1#16 <<< g)
def inReset (s : State) : Bool := decide (s.dev = .off) || decide (s.dev = .reset)
/-- ON and TRANS of a Grove. -/
def putOn (s : State) (g : Nat) (on trans : Bool) : State := sb (sb s Reg.pwrGstat g on) Reg.pwrGstat (16 + g) trans

/-- The Wellspring fences both engines of a Grove through GRV_FENCE. -/
def wspFence (s : State) (g : Nat) : State :=
  if s.wspStopped then s else (wspPut s Reg.grvFence (BitVec.ofNat 32 (3 * 2 ^ (2 * g)))).state

/-- Down 1: PWR_GEN falls for an idle Grove that software or SAG2 gates (R417, R509, R511). -/
def powerDown (s : State) (g : Nat) : State :=
  if !inReset s && grvIdle s g && rb s Reg.pwrGstat g && !rb s Reg.pwrGstat (16 + g) && !s.pwr.upReq.getLsbD g &&
     (rb s Reg.pwrGctl g || (isSplit s g && decide (vmonLevel s ≤ 1))) then
    { putOn s g false true with pwr := { s.pwr with gen := setGb s.pwr.gen g false } }
  else s

/-- PWR_GOK rises. -/
def gokRise (s : State) (g : Nat) : State :=
  { s with pwr := { s.pwr with gok := setGb s.pwr.gok g true, gokRise := Sparse.set none s.pwr.gokRise g (some s.tb.now) } }

/-- PWR_GOK falls: the domain is off, or, while PWR_GEN asks for power, its Grove is fenced. -/
def gokFall (s : State) (g : Nat) : State :=
  if !s.pwr.gok.getLsbD g then s
  else
    let s := { s with pwr := { s.pwr with gok := setGb s.pwr.gok g false, gokRise := Sparse.set none s.pwr.gokRise g none } }
    if s.pwr.gen.getLsbD g then (if inReset s then s else wspFence s g)
    else sb s Reg.pwrGstat (16 + g) false

/-- Up 1: PWR_GEN rises once PWR_GOK is 0. -/
def powerUp (s : State) (g : Nat) : State :=
  if !inReset s && s.pwr.upReq.getLsbD g && !s.pwr.gen.getLsbD g && !s.pwr.gok.getLsbD g then
    { putOn s g false true with
      pwr := { s.pwr with gen := setGb s.pwr.gen g true, genRise := Sparse.set none s.pwr.genRise g (some s.tb.now) } }
  else s

/-- An engine after a Grove reset: registers 0x10 to 0x1B and the terminal lie in other domains (R119, R470, R509); an engine that a
fence stopped stays stopped. -/
def engineRestart (s : State) (e : Nat) : State :=
  let x := eng s e
  putEng s e { State.engReset with ers := x.ers, term := x.term, run := if engFenced s e then .stopped else .idle }

/-- Up 2: the Grove is reset, its caches are empty and its Ponds hold 0. -/
def powerUpDone (s : State) (g : Nat) : State :=
  match Sparse.get none s.pwr.gokRise g with
  | none => s
  | some t =>
    if !inReset s && s.pwr.gen.getLsbD g && s.pwr.gok.getLsbD g && !rb s Reg.pwrGstat g && decide (t.toNat + 500 ≤ s.tb.now.toNat) then
      let old := s
      let s := engineRestart (engineRestart s (2 * g)) (2 * g + 1)
      let s := putGrv s g { grv s g with
        l1i := [], l1d := [], victim := [], ipond := [], dpond := [], pondBad := [], pondBusy := false }
      let s := { putOn s g true false with pwr := { s.pwr with upReq := setGb s.pwr.upReq g false } }
      icuSettle old s
    else s

/-- No PWR_GOK 20 us after PWR_GEN rose. -/
def powerUpTimeout (s : State) (g : Nat) : State :=
  match Sparse.get none s.pwr.genRise g with
  | none => s
  | some t =>
    if !inReset s && s.pwr.gen.getLsbD g && !s.pwr.gok.getLsbD g && !rb s Reg.pwrGstat g && decide (t.toNat + 20000 ≤ s.tb.now.toNat) then
      let s := { putOn s g false false with pwr := { s.pwr with gen := setGb s.pwr.gen g false, upReq := setGb s.pwr.upReq g false } }
      wspFence (wf (sb s Reg.pwrStat 0 true) Reg.pwrStat 7 4 g) g
    else s

/-! ### Rows -/

/-- VMON_SAG1 (R416). -/
def execVmonSag1 (s : State) : Host.Outcome State Fault Refusal := .next (vmonFall s 2)
/-- VMON_SAG2 (R417). -/
def execVmonSag2 (s : State) : Host.Outcome State Fault Refusal := .next (vmonFall s 1)
/-- VMON_LOSS (R418). -/
def execVmonLoss (s : State) : Host.Outcome State Fault Refusal := .next (vmonFall s 0)
/-- VMON_RISE (R415). -/
def execVmonRise (l : VLevel) (s : State) : Host.Outcome State Fault Refusal := .next (vmonRise s (VLevel.code l))
/-- PWR_SAFE_ASSERT (R418). -/
def execPwrSafeAssert (s : State) : Host.Outcome State Fault Refusal := .next (pwrSafeAssert s)
/-- GROVE_POWER_DOWN (R509). -/
def execGrovePowerDown (g : Grv) (s : State) : Host.Outcome State Fault Refusal := .next (powerDown s g.val)
/-- GROVE_POWER_UP (R509). -/
def execGrovePowerUp (g : Grv) (s : State) : Host.Outcome State Fault Refusal := .next (powerUp s g.val)
/-- PWR_GOK_RISE (R509). -/
def execPwrGokRise (g : Grv) (s : State) : Host.Outcome State Fault Refusal := .next (gokRise s g.val)
/-- PWR_GOK_FALL (R509). -/
def execPwrGokFall (g : Grv) (s : State) : Host.Outcome State Fault Refusal := .next (gokFall s g.val)
/-- GROVE_POWER_UP_DONE (R509). -/
def execGrovePowerUpDone (g : Grv) (s : State) : Host.Outcome State Fault Refusal := .next (powerUpDone s g.val)
/-- POWER_UP_TIMEOUT (R509). -/
def execPowerUpTimeout (g : Grv) (s : State) : Host.Outcome State Fault Refusal := .next (powerUpTimeout s g.val)

end Sys2Proof.Machine
end

