-- ==== Sys2Proof/Machine/Reset.lean ====
section
/-! DEFINITION. Resets and power (R26, R28, R446, R470, R494, R495), the fuse load (R512, R513) and clock faults (R403). -/

namespace Sys2Proof.Machine

/-! ### What a Reset leaves -/

/-- Addresses of a tarn's words in D-space. -/
def inTarn (t a : Nat) : Bool := decide (tarnAddr t 0 ≤ a ∧ a < tarnAddr t 0 + 0x20000)

/-- A store without the keys that satisfy `p`. -/
def dropKeys {α : Type} (m : Sparse α) (p : Nat → Bool) : Sparse α := m.filter fun x => !p x.1

def fwBase (s : State) : Nat := (fuseWord s 0x106).toNat
def flcBase (s : State) : Nat := (fuseWord s 0x107).toNat

/-- A flash operation cut short leaves its sector in an unknown state (R451). -/
def flashCut (s : State) : FlashOp → State
  | .erase a => freeBytes s (fwBase s + a / 4096 * 4096) 4096
  | .program a _ => freeBytes s (fwBase s + a / 4096 * 4096) 4096
def flashCuts (s : State) : State := match s.flash with | some op => flashCut s op | none => s

/-- Debug registers of DBGV in IO-space, which lie in PD_DBG (R470). -/
def dbgvKey (k : Nat) : Bool := inRange k Reg.dbgvCmpa 512

/-- Engines keep only their terminal pairs (R470). -/
def keepTerms (s t : State) : State :=
  s.engs.foldl (fun st p => putEng st p.1 { eng st p.1 with term := p.2.term }) t

/-- What stands outside the complex or outlives every reset: the queue, the port's last answer, outer memory, tarn contents, ROM
errors, the free counter, the supply pins. -/
def outlive (s t : State) : State :=
  { t with pending := s.pending, outResp := s.outResp, outData := s.outData, free := s.free, mem := s.mem, tarnErr := s.tarnErr,
           outerErr := s.outerErr, ucErr := s.ucErr.filter fun p => decide (p.1 % 16384 < 0x2000),
           pwr := { t.pwr with gok := s.pwr.gok, rok := s.pwr.rok } }

/-- AON_POR_N (R494): everything starts as at AON power-up. -/
def porReset (s : State) : State := outlive (flashCuts s) State.reset

/-- Bit of ID_RSTSRC (R446). -/
def srcBit : RstSrc → Nat
  | .por => 0 | .pin => 1 | .clock => 2 | .cmd => 3 | .debug => 4

/-- Any other reset source (R494): TB_NOW, FLT_CKSTAT, the fuse shadow until its reload, and PD_DBG but for halts stay in place. A
source that joins a Reset in progress adds its bit. -/
def devReset (s : State) (r : RstSrc) : State :=
  let joins := decide (s.dev = .reset) && decide (s.rstSrc ≠ 0)
  let t := keepTerms s (outlive (flashCuts s) State.reset)
  let bits := (if joins then rd s Reg.idRstsrc else 0#32) ||| BitVec.ofNat 32 (2 ^ srcBit r)
  let por := joins && bit bits 0
  let t := { t with
    io := s.io.filter fun p => dbgvKey p.1 || decide (p.1 = Reg.fltCkstat)
    tb := { State.tbReset with now := s.tb.now }
    prevDev := if s.dev = .reset then s.prevDev else BitVec.ofNat 4 s.dev.code
    cause := if por then 0 else 1
    dbg := s.dbg, dbgSt := s.dbgSt, fuse := s.fuse
    rstSrc := (if joins then s.rstSrc else 0) ||| (1#5 <<< srcBit r) }
  wr t Reg.idRstsrc bits

/-- A reset source is asserted (R26, R494). -/
def resetAssert (s : State) (r : RstSrc) : State :=
  if s.dev = .off then s
  else
    match r with
    | .por => porReset s
    | _ => devReset s r

/-- Power is removed (R26): tarn contents are lost. What the tarns hold at the next power-up reads as memory that nothing has written
(log 2). -/
def powerRemoval (s : State) : State :=
  let t := porReset s
  { t with dev := .off, io := [], rstSrc := 0, prevDev := BitVec.ofNat 4 s.dev.code, mem := dropKeys t.mem (fun a => decide (0x80000000 ≤ a)), tarnErr := [],
           pwr := { t.pwr with gen := 0, gok := 0, rok := 0 } }

/-- AON power-up (R26, R494). -/
def aonPowerUp (s : State) : State :=
  let t := porReset s
  if s.dev = .off then { t with pwr := { t.pwr with gok := 0xFFFF } } else t

/-- Every source releases: WITNESS is sampled, and the fuse load follows (R282, R495). -/
def resetRelease (s : State) (witness : Bool) : State :=
  if s.dev = .reset ∧ s.rstSrc ≠ 0 then sb { s with rstSrc := 0 } Reg.grvQstat 17 witness else s

/-! ### Fuse load -/

/-- Words that are read and discarded (R513). -/
def fuseSkipped (i : Nat) : Bool := decide (0x10C ≤ i ∧ i ≤ 0x10F) || decide (0x11C ≤ i ∧ i ≤ 0x11F)
def fuseErr (i : Nat) : Word := if i = 0x108 ∨ i = 0x109 then 0xFFFF#32 else 0#32

/-- Take the 328 words in order; one that does not arrive is taken as an error (R512). -/
def fuseTake (m : Sparse Word) : Nat → Nat → List FuseWord → Sparse Word
  | 0, _, _ => m
  | n + 1, i, ws =>
    let w := match ws with
      | [] => fuseErr i
      | f :: _ => if f.err then fuseErr i else f.data
    fuseTake (if fuseSkipped i then m else Sparse.set 0#32 m i w) n (i + 1) (ws.drop 1)

def bootStep (s : State) (n : Nat) : State := { wf s Reg.idBoot 6 4 n with boot := { s.boot with step := n } }

/-- The Wellspring as it starts its ROM, in the Vital world at Supervisor level (R421; its first address is log 6). -/
def wspBoot : Engine := { State.engReset with pc := 0xA0000000#32, stat := putBit (putBit 0#32 stS true) stW true, run := .running }

/-- Does a repair word hold a valid entry that names no column (R349)? -/
def repairBad (w : Word) : Bool := (List.range 4).any fun e => bit w (8 * e + 6) && decide (38 < fld w (8 * e + 5) (8 * e))

/-- FUSE_LOAD: the shadow is loaded, the device enters Boot and the ROM arms the clock monitors (R447, R448). A LOSS accepted during
the Reset acts now (R418). -/
def fuseLoad (s : State) (ws : List FuseWord) : State :=
  if !(decide (s.dev = .reset) && decide (s.rstSrc = 0)) then s
  else
    let s := { s with fuse := fuseTake [] 328 0 ws, fuseDone := true }
    let s := setDev s .boot s.cause.toNat
    let s := (List.range 6).foldl (fun st c => (wspPut st (Reg.fltCknom + c) (fuseWord st (0x100 + c))).state) s
    let s := if (List.range 256).any fun i => repairBad (fuseWord s i) then sb s Reg.tarnStat 1 true else s
    let s := bootStep (putEng s 32 wspBoot) 2
    if rb s Reg.pwrVstat 4 then lossEntry s else s

/-! ### Clock monitors (R402, R403) -/

/-- A monitor finds a fault and takes its action. -/
def clockFault (s : State) (c : Nat) : State :=
  if s.dev = .off ∨ !rb s (Reg.fltCknom + c) 12 then s
  else
    let s := sb s Reg.fltCkstat c true
    if c = 0 then devReset s .clock
    else if c = 2 ∨ c = 3 then
      let s := record s { faultOf 0x0A 4 with info := BitVec.ofNat 32 c }
      portDown s (if c = 2 then .a else .b) (lo32 s.tb.now)
    else askSafeHold (record s { faultOf 0x0A 3 with discard := true, info := BitVec.ofNat 32 c }) 6

/-! ### Rows -/

/-- AON_POWER_UP (R494). -/
def execAonPowerUp (s : State) : Host.Outcome State Fault Refusal := .next (aonPowerUp s)
/-- POWER_REMOVAL (R26). -/
def execPowerRemoval (s : State) : Host.Outcome State Fault Refusal := .next (powerRemoval s)
/-- RESET_ASSERT (R494). -/
def execResetAssert (r : RstSrc) (s : State) : Host.Outcome State Fault Refusal := .next (resetAssert s r)
/-- RESET_RELEASE (R495). -/
def execResetRelease (witness : Bool) (s : State) : Host.Outcome State Fault Refusal := .next (resetRelease s witness)
/-- FUSE_LOAD (R512). -/
def execFuseLoad (ws : List FuseWord) (s : State) : Host.Outcome State Fault Refusal := .next (fuseLoad s ws)
/-- CLOCK_FAULT (R403). -/
def execClockFault (c : Fin 6) (s : State) : Host.Outcome State Fault Refusal := .next (clockFault s c.val)

end Sys2Proof.Machine
end

