-- ==== Sys2Proof/Machine/Boot.lean ====
section
/-! DEFINITION. The boot order from the commit record to OMI ready (R447 to R456, R227 to R229): flash records and slots, patch load,
tarn BIST. -/

namespace Sys2Proof.Machine

/-! ### Flash (R451, R452) -/

def slotOff (slotB : Bool) : Nat := if slotB then 0x50000 else 0x10000
def copyOff (copyB : Bool) : Nat := if copyB then 0x1000 else 0

/-- Bytes of the boot area by plain reads: none on an error response. -/
def flashRead (s : State) (off n : Nat) : State × Option (List Byte) :=
  let a := fwBase s + off
  match readOuterN s (a / 4 * 4) ((a % 4 + n + 3) / 4) with
  | (s, none) => (s, none)
  | (s, some ws) => (s, some (((wordsBytes ws).drop (a % 4)).take n))

/-- What a finished operation leaves in the flash: an erased sector, or a page in which a program clears bits (PRESUMED, log 28). -/
def programBytes (s : State) (a : Nat) : List Byte → State
  | [] => s
  | b :: r => programBytes (putByte s a (byteAt s a &&& b)) (a + 1) r
def flashApply (s : State) : FlashOp → State
  | .erase a => putBytes s (fwBase s + a / 4096 * 4096) (List.replicate 4096 0xFF#8)
  | .program a d => programBytes s (fwBase s + a) d

/-! ### Commit record (R453) -/

structure CommitRec where
  gen     : Word
  active  : Byte
  commit  : Byte
  pend    : Byte
  trials  : Byte
  bootcnt : Word
deriving DecidableEq, Repr

def recMagic : Word := 0x54434D43#32
def slotMagicFw : Word := 0x57464C53#32
def CommitRec.words (r : CommitRec) : List Word :=
  let ws := [recMagic, r.gen, bytesWord r.active r.commit r.pend r.trials, r.bootcnt] ++ List.replicate 11 0#32
  ws ++ [crc32c ws]
def recIntact (ws : List Word) : Bool := decide (ws.length = 16) && decide (nth ws 0 = recMagic) && decide (nth ws 15 = crc32c (ws.take 15))
def toRec (ws : List Word) : CommitRec :=
  let w := nth ws 2
  { gen := nth ws 1, active := w.extractLsb' 0 8, commit := w.extractLsb' 8 8, pend := w.extractLsb' 16 8, trials := w.extractLsb' 24 8,
    bootcnt := nth ws 3 }

/-- The later of two generations, modulo 2^32. -/
def genLater (a b : Word) : Bool := decide (a ≠ b) && decide ((a - b).toNat < 2 ^ 31)

/-- A copy, if it is intact. -/
def readCopy (s : State) (copyB : Bool) : State × Option (List Word) :=
  match readOuterN s (fwBase s + copyOff copyB) 16 with
  | (s, some ws) => (s, if recIntact ws then some ws else none)
  | (s, none) => (s, none)

/-- The record in force and the copy that holds it. -/
def readRecord (s : State) : State :=
  match readCopy s false with
  | (s, a) =>
    match readCopy s true with
    | (s, b) =>
      let (r, c) := match a, b with
        | some x, some y => if genLater (nth y 1) (nth x 1) then (some y, true) else (some x, false)
        | some x, none => (some x, false)
        | none, some y => (some y, true)
        | none, none => (none, true)
      { s with boot := { s.boot with record := r, copyB := c } }

/-- The record in force, and the words of its successor: GEN one above. With none, GEN is 1 (R454). -/
def recNow (s : State) : Option CommitRec := s.boot.record.map toRec
def recNext (s : State) (r : CommitRec) : List Word :=
  CommitRec.words { r with gen := match recNow s with | some x => x.gen + 1 | none => 1#32 }

/-- The record written to the other copy stands in force. -/
def recTake (s : State) (ws : List Word) : State := { s with boot := { s.boot with record := some ws, copyB := !s.boot.copyB } }

/-- The operations that write a record: the other copy is erased and programmed. -/
def recOps (s : State) (ws : List Word) : List FlashOp :=
  [.erase (copyOff (!s.boot.copyB)), .program (copyOff (!s.boot.copyB)) (wordsBytes ws)]

/-- A record write of the boot order, made whole. -/
def recWrite (s : State) (r : CommitRec) : State :=
  let ws := recNext s r
  recTake ((recOps s ws).foldl flashApply s) ws

/-! ### Slots (R455, R456) -/

/-- A slot that passes: its header and its firmware. -/
structure SlotImage where
  hdr  : List Byte
  code : List Byte
deriving DecidableEq, Repr

def getB (bs : List Byte) (i : Nat) : Nat := (bs.getD i 0).toNat
/-- Little-endian field of a header. -/
def leField (bs : List Byte) (i n : Nat) : Nat := leNat ((bs.drop i).take n)
def fwLen (h : List Byte) : Nat := leField h 0x10 4
def fwPcOff (h : List Byte) : Nat := leField h 0x14 4
def fwPub (h : List Byte) : List Byte := (h.drop 0x40).take 96

/-- The bytes of a key or digest held in consecutive fuse words (R513). -/
def fuseBytes (s : State) (i n : Nat) : List Byte := wordsBytes ((List.range n).map fun k => fuseWord s (i + k))

/-- Size of a patch container from its counts (R227). -/
def patchSize (p : List Byte) : Nat := 0x30 + 4 * getB p 0x0A + 16 * leField p 0x0C 2 + 96

/-- The format checks: the slot's header and the bounds of what it names. -/
def slotFormat (s : State) (slotB : Bool) (h : List Byte) : State × Option Nat :=
  let n := fwLen h
  let pc := fwPcOff h
  let sigEnd := 0xA0 + n + 96
  if leField h 0 4 ≠ slotMagicFw.toNat ∨ leField h 4 2 ≠ 1 ∨ n < 4 ∨ n > 0x20000 ∨ n % 4 ≠ 0 ∨ sigEnd > 0x40000 then (s, some 6)
  else if pc = 0 then (s, none)
  else if pc < sigEnd ∨ pc + 0x30 > 0x40000 then (s, some 6)
  else
    match flashRead s (slotOff slotB + pc) 0x30 with
    | (s, none) => (s, some 7)
    | (s, some p) => (s, if pc + patchSize p > 0x40000 then some 6 else none)

/-- Signature r, s over bytes, by a public key x, y: numbers of 48 bytes, little-endian (R455; DEDUCED, log 27). -/
def sigOk (pub sig msg : List Byte) : Bool :=
  ecdsaOk (leNat (pub.take 48)) (leNat (pub.drop 48)) (leNat (sig.take 48)) (leNat (sig.drop 48)) (sha384 msg)

/-- The checks of R456 in order. -/
def slotCheck (s : State) (slotB : Bool) : State × Except Nat SlotImage :=
  let base := slotOff slotB
  match flashRead s base 0xA0 with
  | (s, none) => (s, .error 7)
  | (s, some h) =>
    match slotFormat s slotB h with
    | (s, some c) => (s, .error c)
    | (s, none) =>
      match flashRead s (base + 0xA0) (fwLen h + 96) with
      | (s, none) => (s, .error 7)
      | (s, some body) =>
        let ct := body.take (fwLen h)
        let sig := body.drop (fwLen h)
        if sha384 (fwPub h) ≠ fuseBytes s 0x110 12 || !sigOk (fwPub h) sig (h ++ ct) then (s, .error 2)
        else if getB h 8 ≠ 3 ∨ getB h 9 ≠ 0 then (s, .error 3)
        else if leField h 6 2 < fld (fuseWord s 0x108) 15 0 then (s, .error 4)
        else
          match gcmOpen (fuseBytes s 0x128 8) ((h.drop 0x18).take 12) (h.take 0x28 ++ (h.drop 0x40).take 0x60) ((h.drop 0x28).take 16) ct with
          | none => (s, .error 5)
          | some code => (s, .ok ⟨h, code⟩)

/-- A check and its code in CODEA or CODEB. -/
def slotTry (s : State) (slotB : Bool) : State × Except Nat SlotImage :=
  match slotCheck s slotB with
  | (s, r) =>
    let c := match r with | .ok _ => 0 | .error c => c
    (if slotB then wf s Reg.idBoot 15 12 c else wf s Reg.idBoot 11 8 c, r)

/-- The first slot of an order that passes. -/
def slotFirst (s : State) : List Bool → State × Option (Bool × SlotImage)
  | [] => (s, none)
  | b :: r =>
    match slotTry s b with
    | (s, .ok im) => (s, some (b, im))
    | (s, .error _) => slotFirst s r

/-! ### Steps 3 and 4 -/

/-- A boot failure (R447): Safe Hold with CAUSE 0x03 and the code in ID_BOOT.FAIL. -/
def bootFail (s : State) (code : Nat) : State := setDev (wf s Reg.idBoot 19 16 code) .safeHold 3

/-- The ROM enables the regions of the boot area and the flash controller before its first flash read (R386; regions 14 and 15: DESIGN
CHOICE, log 29). -/
def putRegion (s : State) (r first last : Nat) : State :=
  let s := (wspPut s (Reg.actRbase + 2 * r) (BitVec.ofNat 32 (first % 0x80000 * 4096))).state
  (wspPut s (Reg.actRlim + 2 * r) (BitVec.ofNat 32 (last % 0x80000 * 4096 + 2 ^ 31))).state
def bootRegions (s : State) : State :=
  let b := fwBase s
  let f := flcBase s
  putRegion (putRegion s 14 (b / 4096) ((b + 0x1FFFFF) / 4096)) 15 (f / 4096) ((f + 0x1FF) / 4096)

/-- COMMIT_RECORD_READ: step 3. -/
def commitRead (s : State) : State :=
  if s.dev = .boot ∧ s.boot.step = 2 then bootStep (readRecord (bootRegions s)) 3 else s

/-- The record of R454 that this boot writes, and the order in which slots are tried. -/
def bootRecord (s : State) : CommitRec × List Bool :=
  match recNow s with
  | none => (⟨1#32, 0#8, 0#8, 0xFF#8, 0xFF#8, 1#32⟩, [false, true])
  | some r =>
    let slot := if r.pend ≠ 0xFF#8 then r.pend else r.active
    let b := slot.getLsbD 0
    let r2 := { r with pend := 0xFF#8, trials := if r.pend ≠ 0xFF#8 then r.pend else 0xFF#8, bootcnt := r.bootcnt + 1 }
    (r2, if r.commit &&& 3#8 = 0#8 then [false, true] else if r.commit.getLsbD (if b then 0 else 1) then [b, !b] else [b])

/-- SLOT_SELECTION (R454). -/
def slotSelect (s : State) : State :=
  if !(decide (s.dev = .boot) && decide (s.boot.step = 3) && decide (s.boot.fwLen = 0)) then s
  else
    let s := if (recNow s).isNone then sb s Reg.idBoot 3 true else s
    let (r, order) := bootRecord s
    let s := wr (recWrite s r) Reg.idBootcnt r.bootcnt
    match slotFirst s order with
    | (s, none) => bootFail s 1
    | (s, some (b, im)) =>
      let ws := bytesWords im.code
      let s := storeWords s 60 0 ws
      let s := sb (sb s Reg.idBoot 0 b) Reg.idBoot 2 (decide (order.head? ≠ some b))
      let s := sb s Reg.idBoot 1 (decide (r.trials = BitVec.ofNat 8 (b2n b)))
      let s := { s with boot := { s.boot with fwLen := fwLen im.hdr, crc := crc32c ws, version := BitVec.ofNat 32 (leField im.hdr 0x0C 4) } }
      if r.commit &&& 3#8 = 0#8 then recWrite s { r with active := BitVec.ofNat 8 (b2n b), commit := BitVec.ofNat 8 (if b then 2 else 1) } else s

/-! ### Patch load (R227 to R229) -/

/-- The patch load ends: RESULT and LEVEL, then LOCK (R226, R228). -/
def patchEnd (s : State) (level result : Nat) : State :=
  let s := (wspPut s Reg.idUpstat (BitVec.ofNat 32 (level + result * 2 ^ 16))).state
  (wspPut s Reg.idUpctl 1#32).state
def patchFail (s : State) (code : Nat) : State :=
  bootFail (patchEnd (wspPut s Reg.idUpctl 2#32).state 0 code) 2

/-- Patch words written through ID_UPDATA, and the matches. -/
def patchWrite (s : State) (matches' words : List Word) : State :=
  let s := (wspPut s Reg.idUpaddr 0#32).state
  let s := words.foldl (fun st w => (wspPut st Reg.idUpdata w).state) s
  (matches'.zip (List.range 16)).foldl (fun st p => (wspPut st (Reg.idUmatch + p.2) p.1).state) s
/-- Every word and match reads back as written. -/
def patchBack (s : State) (matches' words : List Word) : Bool :=
  ((words.zip (List.range 1024)).all fun p => decide (Sparse.get 0#32 s.upatch p.2 = p.1)) &&
  ((matches'.zip (List.range 16)).all fun p => decide (rd s (Reg.idUmatch + p.2) = p.1 &&& 0x80FF1FFF#32))

/-- The checks on a container in order: a code of R229, or its matches and words. -/
def patchCheck (s : State) (pub p : List Byte) : Except Nat (List Word × List Word) :=
  let nm := getB p 0x0A
  let nw := leField p 0x0C 2
  let n := patchSize p
  let ct := (p.drop 0x30).take (4 * nm + 16 * nw)
  if leField p 0 4 ≠ 0x54504355 ∨ leField p 4 2 ≠ 1 ∨ nm > 16 ∨ nw > 256 ∨ p.length < n then .error 6
  else if !sigOk pub ((p.drop (n - 96)).take 96) (p.take (n - 96)) then .error 2
  else if getB p 8 ≠ 3 ∨ getB p 9 ≠ 0 ∨ BitVec.ofNat 32 (leField p 0x10 4) ≠ Config.romId then .error 3
  else if leField p 6 2 < fld (fuseWord s 0x109) 15 0 then .error 4
  else
    match gcmOpen (fuseBytes s 0x120 8) ((p.drop 0x14).take 12) (p.take 0x20) ((p.drop 0x20).take 16) ct with
    | none => .error 5
    | some pt =>
      let ws := bytesWords pt
      let ms := ws.take nm
      if ms.any fun m => bit m 31 && decide (fld m 23 16 ≥ nw) then .error 6 else .ok (ms, ws.drop nm)

/-- PATCH_LOAD (R228). A read error in the container is a format error (DESIGN CHOICE, log 30). -/
def patchLoad (s : State) : State :=
  if !(decide (s.dev = .boot) && decide (s.boot.step = 3) && decide (s.boot.fwLen ≠ 0)) then s
  else
    let base := slotOff (rb s Reg.idBoot 0)
    match flashRead s base 0xA0 with
    | (s, none) => patchFail s 6
    | (s, some h) =>
      if fwPcOff h = 0 then
        if fld (fuseWord s 0x109) 15 0 > 0 then patchFail s 7 else bootStep (patchEnd s 0 0) 4
      else
        match flashRead s (base + fwPcOff h) 0x30 with
        | (s, none) => patchFail s 6
        | (s, some p0) =>
          match flashRead s (base + fwPcOff h) (min (patchSize p0) (0x40000 - fwPcOff h)) with
          | (s, none) => patchFail s 6
          | (s, some p) =>
            match patchCheck s (fwPub h) p with
            | .error c => patchFail s c
            | .ok (ms, ws) =>
              let s := patchWrite s ms ws
              if patchBack s ms ws then bootStep (patchEnd s (leField p 6 2) 1) 4 else patchFail s 8

/-! ### Steps 5 and 6 -/

/-- Tarns that the march test leaves at 0: T0 to T59 and T61, and after AON power-up T62 and T63 (R449). -/
def marched (s : State) (t : Nat) : Bool := decide (t < 60 ∨ t = 61) || (decide (t ≥ 62) && rb s Reg.idRstsrc 0)
def marchTest (s : State) : State :=
  let dead := (List.range 64).filter (marched s)
  { s with mem := dropKeys s.mem (fun a => dead.any fun t => inTarn t a)
           tarnErr := dropKeys s.tarnErr (fun k => dead.contains (k / 32768)), corrQ := [] }

/-- No word of a tarn is beyond correction. -/
def tarnSound (s : State) (t : Nat) : Bool :=
  s.tarnErr.all fun p => decide (p.1 / 32768 ≠ t) || decide (p.2 = .good) || decide (p.2 = .single)

/-- The firmware in T60 is as it was loaded. -/
def fwSound (s : State) : Bool := tarnSound s 60 && decide (crc32c (tarnRawN s 60 0 (s.boot.fwLen / 4)) = s.boot.crc)

/-- TARN_BIST: step 5 (R449). -/
def tarnBist (s : State) (r : BistResult) : State :=
  if !(decide (s.dev = .boot) && decide (s.boot.step = 4)) then s
  else
    let s := marchTest s
    let bad (t : Nat) : Bool := r.tarnsBad.getLsbD t
    let s := (List.range 15).foldl (fun st k =>
      if (groupTarns k).any bad then
        record { st with pwr := { st.pwr with dead := setG st.pwr.dead k true } } { faultOf 0x1A 0 with info := BitVec.ofNat 32 k }
      else st) s
    let s := (List.range 16).foldl (fun st g => if r.grovesBad.getLsbD g then
        fenceGrove (record st { faultOf 0x1A 2 with grove := BitVec.ofNat 4 g }) g [2 * g, 2 * g + 1]
      else st) s
    if bad 60 || bad 61 || bad 62 || bad 63 || !fwSound s || !tarnSound s 62 || !tarnSound s 63 then bootFail s 3
    else if !r.selfOk then bootFail s 4
    else bootStep s 5

/-- OMI_READY: step 6, then Config (R393, R397, R398). -/
def omiReady (s : State) : State :=
  if !(decide (s.dev = .boot) && decide (s.boot.step = 5)) then s
  else
    let s := sb (jrnRecover s) Reg.jrnStat 4 true
    let s := jrnEvent s 3 Reg.idUpstat 0x60 0#32 (rd s Reg.idUpstat)
    bootStep (setDev (bootStep s 6) .config 2) 7

/-! ### Rows -/

/-- COMMIT_RECORD_READ (R447). -/
def execCommitRecordRead (s : State) : Host.Outcome State Fault Refusal := .next (commitRead s)
/-- SLOT_SELECTION (R454). -/
def execSlotSelection (s : State) : Host.Outcome State Fault Refusal := .next (slotSelect s)
/-- PATCH_LOAD (R228). -/
def execPatchLoad (s : State) : Host.Outcome State Fault Refusal := .next (patchLoad s)
/-- TARN_BIST (R449). -/
def execTarnBist (r : BistResult) (s : State) : Host.Outcome State Fault Refusal := .next (tarnBist s r)
/-- OMI_READY (R447). -/
def execOmiReady (s : State) : Host.Outcome State Fault Refusal := .next (omiReady s)

end Sys2Proof.Machine
end

