-- ==== Sys2Proof/Machine/EngSys.lean ====
section
/-! DEFINITION. System instructions (R165 to R168, R191, R201, R210, R211), reserved opcodes and interrupts. -/

namespace Sys2Proof.Machine

/-! ### Gates (R208 to R212) -/

def gateCtl (s : State) (g : Nat) : Word := rd s (Reg.grvGctl + 8 * g)

/-- The conditions of a gate call that raise Gate Fault before the return-address check (R210). -/
def gateRefused (s : State) (e g : Nat) : Bool :=
  let c := gateCtl s g
  let x := eng s e
  decide (g ≥ 32) || !bit c 0 || decide (bit c 1 ≠ xVital x) || decide (bit c 2 = bit c 1) || (!xSup x && !bit c 4) ||
  (match engApp s e with | some a => !bit (rd s (Reg.grvGapp + 8 * g)) a | none => true) || x.gate.isSome

/-- WGATE with an index other than 0xFFFF: a gate call (R210). -/
def gateCall (e : Nat) (g : Nat) : EM Unit := do
  let s ← get
  let x0 ← getE e
  if gateRefused s e g then raise vGate
  let c := gateCtl s g
  let tow := bit c 2
  let tos := bit c 3
  let rsp := ersGet x0 (rspReg tow tos) - 4#32
  if rsp.toNat < (ersGet x0 (rslReg tow tos)).toNat then raise vGate
  if (engCheckAs s e { engReq s e with vital := tow, sup := tos } rsp.toNat needW).isSome then raise vGate
  let args ← popN e (fld c 8 5) 0
  checkFullSpill e
  fullSpill e
  let x ← getE e
  modE e fun x => { x with
    gate := some { gate := g, stat := x.stat, dsp := x.dsp, dsl := x.dsl, ddepth := x.ddepth, ret := x.pc, tow := tow, tos := tos,
                   nret := fld c 12 9 }
    stat := putBit (putBit (putBit (x.stat &&& 0xFFFFFF00#32) stW tow) stS tos) stRPA false
    dsp := rd s (Reg.grvGdsp + 8 * g), dsl := rd s (Reg.grvGdsl + 8 * g), ddepth := 0, cells := [] }
  pushN e args
  writeRaw e rsp.toNat 4 x.pc
  modE e fun x => { ersPut x (rspReg tow tos) rsp with lskd := 0, rsv := putBit x.rsv 0 false }
  jump e 3 (rd s (Reg.grvGpc + 8 * g))

/-- WGATE 0xFFFF: the return from the open gate (R211). -/
def gateReturn (e : Nat) : EM Unit := do
  let x ← getE e
  match x.gate with
  | none => raise vGate
  | some c => do
    if xVital x ≠ c.tow || xSup x ≠ c.tos then raise vGate
    let sp := rspOf x
    applyHits e (cmpHits (← get) e [1, 3] sp.toNat)
    let s ← get
    let denied := engCheck s e sp.toNat needR
    if denied.isNone then do
      let r ← readRaw e sp.toNat 4
      if r ≠ c.ret then raise vGate
    let res ← popN e c.nret 0
    checkFullSpill e
    match denied with
    | some d => raise vData (some d)
    | none => pure ()
    fullSpill e
    modE e fun x => { ersPut x (rspReg (xVital x) (xSup x)) (sp + 4#32) with
      stat := c.stat, dsp := c.dsp, dsl := c.dsl, ddepth := c.ddepth, cells := [], lskd := 0, rsv := putBit x.rsv 0 false,
      gate := none }
    pushN e res
    jump e 3 c.ret

/-! ### Prefetch (R168) -/

/-- Is a line in the cache that a prefetch names? -/
def pfhPresent (s : State) (e line : Nat) (icache : Bool) : Bool :=
  let x := grv s (e / 2)
  if icache then (l1Way x.l1i (4 - iWays s (e / 2)) line).isSome
  else (l1Way x.l1d (4 - dWays s (e / 2)) line).isSome || x.victim.any fun l => decide (l.tag = line)

/-- Does a prefetch of `a` take place? -/
def pfhActs (s : State) (e a : Nat) (icache : Bool) : Bool :=
  decide (e < 32) && decide (a < 0x80000000) && decide (vmonLevel s = 3) &&
  (match regionOf s a with
   | some r => regCached s r && granted s (0x40 + r) (engReq s e) (if icache then needX else needR)
   | none => false) &&
  !pfhPresent s e (a / 64) icache

/-- Put a line that a prefetch asked for into an L1 cache: 4 beats (R69). -/
def pfhInstall (s : State) (e line : Nat) (icache : Bool) (d : Line) : State :=
  let g := e / 2
  let s := charge s e 0 4
  if pfhPresent s e line icache then s
  else if icache then
    if mayAlloc s 6 g line then
      let x := grv s g
      let (w, r) := pickWay (List.range (4 - iWays s g)) (fun w => (l1Slot x.l1i (line % 128) w).isSome) x.lfsrI
      putGrv s g { x with l1i := putL1 x.l1i (line % 128) w (some ⟨line, d, false, none, false, false⟩), lfsrI := r }
    else s
  else if mayAlloc s 5 g line then l1dInstall s e ⟨line, d, false, none, false, false⟩
  else s

/-- PFH: a Lake hit fills at once, a miss becomes an outstanding read on NCH-M. -/
def prefetch (e : Nat) (a : Word) : EM Unit := do
  let s ← get
  let icache := bit a 0
  let line := a.toNat / 64
  if pfhActs s e a.toNat icache then
    match lakeWay s line with
    | some (w, l) =>
      if l.bad then set (lakeDrop s e (line % 4096) w)
      else set (pfhInstall s e line icache l.data)
    | none =>
      match freeReadId s with
      | some i => set { s with nchm := s.nchm ++ [(⟨i, line, e, .pfh e icache, true, none⟩ : NchTxn)] }
      | none => fun s => .error (.wait s)
  else pure ()

/-! ### Interrupts (R141, R194, R362) -/

/-- The byte of I-space that the engine would fetch next, wherever it is held. -/
def peekI (s : State) (e a : Nat) : Byte :=
  if e ≥ 32 then (if a < 0xA0000000 then byteAt s a else Config.wspRom (a - 0xA0000000))
  else match placeOf a with
    | .pond off => match pondOff s e (iWays s (e / 2)) off with
      | some o => Sparse.get 0#8 (grv s (e / 2)).ipond o
      | none => 0
    | _ =>
      let x := grv s (e / 2)
      match l1Way x.l1i (4 - iWays s (e / 2)) (a / 64) with
      | some (_, l) => lineByte l.data (a % 64)
      | none => match lakeWay s (a / 64) with
        | some (_, l) => lineByte l.data (a % 64)
        | none => byteAt s a

/-- One-byte instructions of 0x00 to 0x3F that need an operand (R140, log 14). -/
def foldsSecond (op : Nat) : Bool :=
  (decide (1 ≤ op ∧ op ≤ 0x0B) && decide (op ≠ 0x08)) || (decide (0x10 ≤ op ∧ op ≤ 0x36) && !decide (0x31 ≤ op ∧ op ≤ 0x34))

/-- The engine stands inside a folded pair, where no interrupt is recognised (R141). -/
def insidePair (s : State) (e : Nat) : Bool :=
  let x := eng s e
  decide (x.foldAt = some x.pc) && foldsSecond (peekI s e x.pc.toNat).toNat

/-- Take the interrupt that the ICU presents, if the engine may. -/
def takeInterrupt (s : State) (e : Nat) : State :=
  let x := eng s e
  if canIssue s e && x.dueTrap.isNone && bit x.stat stIE && !insidePair s e then
    match icuLine s e with
    | some (lvl, n) =>
      let s1 := runEntry s e (.irq lvl) x.pc x.stat 8
      mirror (stepDone (countEmpty (startHold s1 n) e) e) e
    | none => s
  else s

/-- INTERRUPT_ENTRY (R362): an engine takes a presented interrupt and starts the hold-off of the group. -/
def execInterruptEntry (e : Eng) (s : State) : Out := .next (takeInterrupt s e.val)

/-! ### Reserved opcodes (R146) -/

/-- Does the pair of bytes name no instruction, or PICK with an operand above 7 (R146)? -/
def illegalCode (op op2 : Nat) : Bool :=
  decide (0x37 ≤ op ∧ op ≤ 0x3F) || decide (0x5A ≤ op ∧ op ≤ 0x5F) || decide (0x7B ≤ op ∧ op ≤ 0x7F) ||
  decide (0xAF ≤ op ∧ op ≤ 0xBF) || decide (0xCD ≤ op ∧ op ≤ 0xCF) || decide (0xE4 ≤ op ∧ op ≤ 0xE7) || decide (op ≥ 0xF1) ||
  (decide (op = 0xF0) && decide (op2 > 8)) || (decide (op = 0x08) && decide (op2 > 7))

def insnSys (len cyc : Nat) : Insn := { len := len, cyc := cyc }

/-- SVC (R191): a supervisor call, due when the instruction has retired. -/
def bodySvc (e : Nat) (i : BitVec 8) : EM Unit := modE e fun x => { x with dueTrap := some (0x100 + i.toNat) }
def execSvc (e : Eng) (i : BitVec 8) (s : State) : Out := .next (runInsn e.val (insnSys 2 6) (bodySvc e.val i) s)

/-- RETX (R201): returns from an exception frame. -/
def bodyRetx (e : Nat) : EM Unit := do
  let x ← getE e
  doRetx e
  let y ← getE e
  modS fun s => traceRec s e (x.pc - 1) y.pc
def execRetx (e : Eng) (s : State) : Out := .next (runInsn e.val { len := 1, cyc := 6, keepRpa := true } (bodyRetx e.val) s)

/-- WGATE (R210): calls a gate, or returns from one with 0xFFFF. -/
def bodyWgate (e : Nat) (i : BitVec 16) : EM Unit := if i.toNat = 0xFFFF then gateReturn e else gateCall e i.toNat
def execWgate (e : Eng) (i : BitVec 16) (s : State) : Out := .next (runInsn e.val { len := 3, cyc := 12, entry := some 0xEA } (bodyWgate e.val i) s)

/-- WGATE_RETURN (R211): returns from the open gate. -/
def bodyWgateReturn (e : Nat) : EM Unit := gateReturn e
def execWgateReturn (e : Eng) (s : State) : Out := .next (runInsn e.val { len := 3, cyc := 12, entry := some 0xEA } (bodyWgateReturn e.val) s)

/-- RDC (R119): pushes a control register. -/
def bodyRdc (e : Nat) (i : BitVec 8) : EM Unit := do
  let x ← getE e
  if !crListed i.toNat then raise vIllegal
  if !crReadable x i.toNat then raise vPriv
  let v := crRead (← get) e i.toNat
  let _ ← popN e 0 1
  pushN e [v]
def execRdc (e : Eng) (i : BitVec 8) (s : State) : Out := .next (runInsn e.val (insnSys 2 2) (bodyRdc e.val i) s)

/-- WRC (R119): writes a control register, after a full spill for DSP, DSL and DDEPTH (R129). -/
def bodyWrc (e : Nat) (i : BitVec 8) : EM Unit := do
  let x ← getE e
  let n := i.toNat
  if !crListed n || decide (n = 0) then raise vIllegal
  if !crWritable x n then raise vPriv
  let v ← pop1 e 0
  if n = 3 ∨ n = 4 ∨ n = 5 then do
    checkFullSpill e
    fullSpill e
  modE e fun x => crWrite x n v
def execWrc (e : Eng) (i : BitVec 8) (s : State) : Out := .next (runInsn e.val (insnSys 2 2) (bodyWrc e.val i) s)

/-- WAIT (R166): stops issue until a line or a wake. -/
def bodyWait (e : Nat) : EM Unit := do
  let s ← get
  if wakeFor s e || (icuLine s e).isSome then pure ()
  else modE e fun x => { x with run := .waiting }
def execWait (e : Eng) (s : State) : Out := .next (runInsn e.val (insnSys 1 1) (bodyWait e.val) s)

/-- SYNC (R167): retires once every earlier write is acknowledged and every earlier read has returned. -/
def bodySync (e : Nat) : EM Unit := do
  let s ← get
  if s.nchm.any fun t => decide (t.master = (engReq s e).master) && t.done.isNone then fun s => .error (.wait s)
  else modS fun s => chargeWait s e
def execSync (e : Eng) (s : State) : Out := .next (runInsn e.val (insnSys 1 1) (bodySync e.val) s)

/-- PFH (R168): requests the fill of a line. -/
def bodyPfh (e : Nat) : EM Unit := do
  let a ← pop1 e 0
  prefetch e a
def execPfh (e : Eng) (s : State) : Out := .next (runInsn e.val (insnSys 1 1) (bodyPfh e.val) s)

/-- RESERVED_OPCODE (R146): bytes that name an instruction are no reserved opcode, and the command does nothing. -/
def execReservedOpcode (e : Eng) (op : Byte) (op2 : Byte) (s : State) : Out :=
  if illegalCode op.toNat op2.toNat then
    .next (runInsn e.val (insnSys (if op.toNat = 0xF0 ∨ op.toNat = 0x08 then 2 else 1) 1) (raise vIllegal) s)
  else .next s

end Sys2Proof.Machine
end

