-- ==== Sys2Proof/Machine/NchPort.lean ====
section
/-! DEFINITION. The NCH-M and NCH-S ports: responses, acknowledges, time-outs (R503, R504), Lake fills (R329), refused host
requests (R500). -/

namespace Sys2Proof.Machine

def nchFind (s : State) (id : Nat) : Option NchTxn := s.nchm.find? fun t => decide (t.id = id)
def nchDrop (s : State) (id : Nat) : State := { s with nchm := s.nchm.filter fun t => decide (t.id ≠ id) }
def nchPut (s : State) (t : NchTxn) : State := { s with nchm := s.nchm.map fun x => if x.id = t.id then t else x }

/-- The outcome that an ERR on a read has for its requester (R504). -/
def readErr (s : State) (t : NchTxn) : State :=
  match t.use with
  | .preload => sb s Reg.cmxStat 5 true
  | _ => s

/-- The outcome of an ERR on a write: the record, and the discard of the Application recorded for it (R504). What the outer memory
then holds there is open: free values (log 44). -/
def writeErr (s : State) (t : NchTxn) : State :=
  match t.use with
  | .write a w n =>
    let s := record (freeBytes s w n) { faultOf 0x04 (b2n a.isSome) with
      app := BitVec.ofNat 5 (a.getD 0), discard := a.isSome, addr := BitVec.ofNat 32 w, master := BitVec.ofNat 6 t.master
      grove := BitVec.ofNat 4 (if t.master < 32 then t.master / 2 else 0) }
    discardOpt s a
  | _ => s

/-- NCHM_READ_RESPONSE: what the outer memory answers for the line is noted, and the requester has its outcome. The late
response of a transaction that timed out only frees its ID (R503). -/
def readResponse (s : State) (t : NchTxn) (ok : Bool) (data : Line) : State :=
  if t.done = some false then nchDrop s t.id
  else if ok then
    let s := { putLine s t.line data with outerErr := s.outerErr.filter (· ≠ t.line) }
    nchPut s { t with done := some true }
  else
    let s := { s with outerErr := if s.outerErr.contains t.line then s.outerErr else s.outerErr ++ [t.line] }
    preloadGo (nchDrop (readErr s t) t.id)

/-- LAKE_FILL (R329): the line whose response has come is installed, and the requester has it. -/
def lakeFill (s : State) (t : NchTxn) : State :=
  let s := nchDrop s t.id
  let s :=
    if (lakeWay s t.line).isSome then s
    else if t.alloc && mayAlloc s 4 0 t.line then lakeInstall s t.master ⟨t.line, lineAt s t.line, false, none, false, false⟩
    else s
  match t.use with
  | .pfh e i => pfhInstall s e t.line i (match lakeWay s t.line with | some (_, l) => l.data | none => lineAt s t.line)
  | .preload =>
    match lakeWay s t.line with
    | some (w, l) => preloadGo (if l.locked then s else lkCount (putLake s (t.line % 4096) w (some { l with locked := true })) true)
    | none => preloadGo s
  | .write _ _ _ => s

/-- NCHM_TIMEOUT (R503): no response for 1 ms; the ID stays out of use until the late response. -/
def nchTimeout (s : State) (id : Nat) : State :=
  match nchFind s id with
  | some t =>
    if t.done.isNone then preloadGo (nchPut (writeErr (readErr s t) t) { t with done := some false }) else s
  | none => s

/-- A host request that R500 refuses. -/
def badRequest (addr : BitVec 20) (len : BitVec 4) : Bool :=
  decide (addr.toNat % 16 ≠ 0 ∨ addr.toNat % 4096 + 16 * (len.toNat + 1) > 4096)

/-! ### Rows -/

/-- NCHM_READ_RESPONSE (R504). -/
def execNchmReadResponse (id : Fin 128) (resp : BitVec 2) (data : Line) (s : State) : Host.Outcome State Fault Refusal :=
  match nchFind s id.val with
  | none => .fault .brokenContract
  | some t => if t.done = some true then .fault .brokenContract else .next (readResponse s t (decide (resp = 0)) data)

/-- NCHM_WRITE_ACK (R504). -/
def execNchmWriteAck (id : Fin 64) (resp : BitVec 2) (s : State) : Host.Outcome State Fault Refusal :=
  match nchFind s (0x80 + id.val) with
  | none => .fault .brokenContract
  | some t => .next (nchDrop (if resp = 0 ∨ t.done = some false then s else writeErr s t) t.id)

/-- NCHM_TIMEOUT (R503). -/
def execNchmTimeout (id : Byte) (s : State) : Host.Outcome State Fault Refusal := .next (nchTimeout s id.toNat)

/-- LAKE_FILL (R329). -/
def execLakeFill (id : Fin 128) (s : State) : Host.Outcome State Fault Refusal :=
  .next (match nchFind s id.val with
    | some t => if t.done = some true ∧ blocksRun s then lakeFill s t else s
    | none => s)

/-- NCHS_BAD_REQUEST (R500). -/
def execNchsBadRequest (addr : BitVec 20) (len : BitVec 4) (wr : Bool) (s : State) : Host.Outcome State Fault Refusal :=
  .next (if s.dev = .off ∨ s.dev = .reset ∨ !badRequest addr len then s else answerErr s (if wr then 0 else len.toNat + 1))

end Sys2Proof.Machine
end

