-- ==== Sys2Proof/Machine/HostPort.lean ====
section
/-! DEFINITION. The slave port as hosts see it: registers (R422 to R424), mailbox channels (R425, R426), the expert window
(R439, R440) and the host tarn windows (R507). -/

namespace Sys2Proof.Machine

/-- What a host request presents (R19, R20). -/
def hostReq (h : Nat) : Req := ⟨38 + h, false, false⟩

/-- The slave port answers (R498). -/
def portRuns (s : State) : Bool := decide (s.dev ≠ .off) && decide (s.dev ≠ .reset)

/-! ### Registers -/

/-- MBX_PAGEh.EN: the master holds an open expert session (R439). -/
def expertOpen (s : State) (m : Nat) : Bool := s.sessions.any fun x => decide (x.master = m) && x.expert && x.authed

/-- The oldest event as MBX_EVENT returns it. -/
def eventWord (s : State) : Word := s.evq.headD 0#32
def evstatWord (s : State) : Word := hostRd s offEvstat ||| BitVec.ofNat 32 s.evq.length
def hintWord (s : State) : Word :=
  (hostRd s offHintstat &&& 0xFF#32) ||| BitVec.ofNat 32 (256 * b2n (!s.evq.isEmpty) + 512 * b2n s.wspStopped)
/-- HOST_IRQ (R423). -/
def hostIrq (s : State) : Bool := decide (hintWord s &&& hostRd s offHinten ≠ 0)

/-- MBX_STATc (R425). -/
def mbxStat (s : State) (c : Nat) : Word :=
  let x := chan s c
  BitVec.ofNat 32 (x.st + 4 * b2n x.rej + 8 * b2n x.abt + 256 * x.master)

/-- Channel and offset within it of a slave offset. -/
def chanOf (off : Nat) : Option (Nat × Nat) := if 0x1000 ≤ off ∧ off < 0x9000 then some (off / 0x1000 - 1, off % 0x1000) else none

/-- A word of the OMI areas for a reader; undefined offsets read 0 (R422). -/
def slaveValue (s : State) (off : Nat) : Word :=
  match chanOf off with
  | some (c, o) =>
    if o = 4 then mbxStat s c
    else if 0x400 ≤ o ∧ o < 0x800 then Sparse.get 0#32 (chan s c).cmd ((o - 0x400) / 4)
    else if 0x800 ≤ o ∧ o < 0xC00 then Sparse.get 0#32 (chan s c).rsp ((o - 0x800) / 4)
    else 0#32
  | none =>
    if off = 0 then ipverWord
    else if off = 4 then ipcfgWord
    else if off = 8 then idStateWord s
    else if off = 0xC then rd s Reg.idRstsrc
    else if off = offHintstat then hintWord s
    else if off = offHinten then hostRd s offHinten
    else if off = 0x18 then eventWord s
    else if off = offEvstat then evstatWord s
    else if 0x20 ≤ off ∧ off < 0x40 then putBit (hostRd s off) 8 (expertOpen s (38 + (off - 0x20) / 4))
    else if off = offWinstat then hostRd s offWinstat
    else if 0x20000 ≤ off ∧ off < 0x20018 then hostRd s off
    else 0#32

/-- What a host read of it changes: MBX_EVENT pops, LOST and REJ clear (R424, R439). -/
def slaveAfterRead (s : State) (off : Nat) : State :=
  if off = 0x18 then { s with evq := s.evq.drop 1 }
  else if off = offEvstat then hostWr s offEvstat (hostRd s offEvstat &&& 0xFFFF#32)
  else if off = offWinstat then hostWr s offWinstat 0#32
  else s

def slaveRead (s : State) (off : Nat) : State :=
  if portRuns s then answerOk (slaveAfterRead s off) [slaveValue s off] else s

/-! ### Channels (R426) -/

def mbxRej (s : State) (c : Nat) : State := putChan s c { chan s c with rej := true }

/-- ACK, then GO. -/
def mbxAck (s : State) (m c : Nat) : State :=
  let x := chan s c
  if x.st = 2 ∧ x.master = m then putChan s c { x with st := 0 } else mbxRej s c
def mbxGo (s : State) (m c : Nat) : State :=
  let x := chan s c
  if x.st = 0 then { putChan s c { x with st := 1, master := m, abt := false } with goQ := s.goQ ++ [c] } else mbxRej s c
def mbxCtl (s : State) (m c : Nat) (v : Word) : State :=
  let s := if bit v 1 then mbxAck s m c else s
  if bit v 0 then mbxGo s m c else s

/-- A write to the command buffer. -/
def mbxBuf (s : State) (c i : Nat) (v : Word) : State :=
  let x := chan s c
  if x.st = 1 then mbxRej s c else putChan s c { x with cmd := Sparse.set 0#32 x.cmd i v }

/-- A whole-word write by master `m`, a host. -/
def slaveWrite (s : State) (m off : Nat) (v : Word) : State :=
  match chanOf off with
  | some (c, o) =>
    if o = 0 then mbxCtl s m c v
    else if o = 4 then (if bit v 2 then putChan s c { chan s c with rej := false } else s)
    else if 0x400 ≤ o ∧ o < 0x800 then mbxBuf s c ((o - 0x400) / 4) v
    else s
  | none =>
    if off = offHintstat then hostWr s off (hostRd s off &&& ~~~ (v &&& 0xFF#32))
    else if off = offHinten then hostWr s off (v &&& 0x3FF#32)
    else if off = offEvstat then hostWr s off (putBit (hostRd s off) 6 (bit (hostRd s off) 6 && !bit v 6))
    else if 0x20 ≤ off ∧ off < 0x40 then (if m = 38 + (off - 0x20) / 4 then hostWr s off (v &&& 0xF#32) else s)
    else if off = 0x100 then doorbell s false v
    else if 0x20000 ≤ off ∧ off < 0x20018 then hostWr s off (v &&& 0x7F#32)
    else s

/-- A host's register write with its byte enables (R422). -/
def slaveWriteBe (s : State) (h off : Nat) (be : BitVec 4) (v : Word) : State :=
  if !portRuns s then s
  else if off % 4 ≠ 0 ∨ be ≠ 0xF#4 then answerErr s 0
  else answerOk (slaveWrite s (38 + h) off v) []

/-! ### Bursts -/

/-- A burst that R500 admits in a window of `size` bytes. -/
def burstOk (x : BusReq) (size : Nat) : Bool :=
  decide (x.off % 16 = 0 ∧ 1 ≤ x.beats ∧ x.beats ≤ 16 ∧ x.off % 4096 + 16 * x.beats ≤ 4096 ∧ x.off + 16 * x.beats ≤ size)

/-- The byte enables of lane `i` of a burst: for a read the bytes wanted of every beat (R498). -/
def laneBe (x : BusReq) (i : Nat) : BitVec 4 :=
  let b := if x.wr then x.be.getD (i / 4) 0 else x.be.headD 0xFFFF#16
  b.extractLsb' (4 * (i % 4)) 4

/-- One lane's outcome: its data, or an error; `none` where a check-value unit holds the write (R374). -/
structure Lane where
  st   : State
  ok   : Bool
  data : Word

/-- A lane of the expert window as one IO access (R440). -/
def expertLane (s : State) (h a : Nat) (wr : Bool) (be : BitVec 4) (v : Word) : Option Lane :=
  if be = 0 then some ⟨s, true, 0⟩
  else if !expertOpen s (38 + h) then
    let w := hostRd s offWinstat
    some ⟨hostWr s offWinstat (putFld w 15 0 (satAdd 0xFFFF (fld w 15 0) 1)), false, 0⟩
  else if be ≠ 0xF#4 then some ⟨s, false, 0⟩
  else if wr then
    match ioPut s (hostReq h) a v false with
    | .done s => some ⟨s, true, 0⟩
    | .refused s => some ⟨s, true, 0⟩
    | .full s => some ⟨s, false, 0⟩
    | .denied s d => some ⟨logDenial s d, false, 0⟩
    | .held _ => none
  else
    match ioDenied s (hostReq h) a needR with
    | some d => some ⟨logDenial s d, false, 0⟩
    | none => some ⟨ioAfterRead s (hostReq h) a, true, ioValue s (hostReq h) a⟩

/-- Lanes in ascending address. -/
def runLanes (f : State → Nat → Option Lane) (s : State) : Nat → Nat → Option (State × Bool × List Word)
  | 0, _ => some (s, true, [])
  | n + 1, i =>
    match f s i with
    | none => none
    | some l =>
      match runLanes f l.st n (i + 1) with
      | none => none
      | some (s, ok, ws) => some (s, ok && l.ok, l.data :: ws)

/-- Answer a burst: an error on a lane makes the whole response an error (R502). A burst that is held leaves the state as it is. -/
def answerBurst (s : State) (x : BusReq) : Option (State × Bool × List Word) → State
  | none => s
  | some (t, true, ws) => answerOk t (if x.wr then [] else ws)
  | some (t, false, _) => answerErr t (if x.wr then 0 else x.beats)

/-- EXPERT_WINDOW_ACCESS. -/
def expertAccess (s : State) (h : Nat) (x : BusReq) : State :=
  if !portRuns s then s
  else if !burstOk x 0x4000 then answerErr s (if x.wr then 0 else x.beats)
  else
    let page := fld (hostRd s (offPage h)) 3 0
    answerBurst s x (runLanes (fun s i =>
      expertLane s h (page * 0x1000 + x.off / 4 + i) x.wr (laneBe x i) (nth x.words i)) s (4 * x.beats) 0)

/-- Mask of a lane's bytes. -/
def beMask (be : BitVec 4) : Word :=
  BitVec.ofNat 32 ((List.range 4).foldl (fun n i => if be.getLsbD i then n + 0xFF * 256 ^ i else n) 0)

/-- A lane of a tarn window: the access has been granted. -/
def tarnLane (s : State) (m t w : Nat) (wr : Bool) (be : BitVec 4) (v : Word) : Lane :=
  if be = 0 then ⟨s, true, 0⟩
  else if wr then
    match writeTarn s t w m (beMask be) v with
    | (s, some _) => ⟨s, true, 0⟩
    | (s, none) => ⟨s, false, 0⟩
  else
    match readTarn s t w m with
    | (s, some v) => ⟨s, true, v⟩
    | (s, none) => ⟨s, false, 0⟩

/-- HOST_TARN_WINDOW_ACCESS (R507). A denial is logged with the slave-port offset (log 33). A tarn that sleeps is woken, and the
access is made when it answers. -/
def tarnWindow (s : State) (h w : Nat) (x : BusReq) : State :=
  if !portRuns s then s
  else
    let err (s : State) : State := answerErr s (if x.wr then 0 else x.beats)
    let sel := hostRd s (0x20000 + 4 * w)
    let t := fld sel 5 0
    if !burstOk x 0x20000 || !bit sel 6 then err s
    else
      match checkMem s (hostReq h) (tarnAddr t 0 + x.off) (if x.wr then needW else needR) spSlave with
      | some d => err (logDenial s { d with addr := BitVec.ofNat 32 (0x40000 + 0x20000 * w + x.off) })
      | none =>
        if !tarnUp s t then askWake s t
        else answerBurst s x (runLanes (fun s i => some (tarnLane s (38 + h) t (x.off / 4 + i) x.wr (laneBe x i) (nth x.words i))) s (4 * x.beats) 0)

/-! ### Rows -/

/-- HOST_TARN_WINDOW_ACCESS (R507). -/
def execHostTarnWindowAccess (h : Chan) (w : Fin 6) (x : BusReq) (s : State) : Host.Outcome State Fault Refusal :=
  .next (tarnWindow s h.val w.val x)
/-- EXPERT_WINDOW_ACCESS (R440). -/
def execExpertWindowAccess (h : Chan) (x : BusReq) (s : State) : Host.Outcome State Fault Refusal := .next (expertAccess s h.val x)
/-- MBX_GO (R426): a write of MBX_CTLc with GO. -/
def execMbxGo (h : Chan) (c : Chan) (v : Word) (s : State) : Host.Outcome State Fault Refusal :=
  .next (if portRuns s && bit v 0 then answerOk (mbxCtl s (38 + h.val) c.val v) [] else s)
/-- MBX_ACK (R426): a write of MBX_CTLc with ACK. -/
def execMbxAck (h : Chan) (c : Chan) (v : Word) (s : State) : Host.Outcome State Fault Refusal :=
  .next (if portRuns s && bit v 1 then answerOk (mbxCtl s (38 + h.val) c.val v) [] else s)
/-- MBX_EVENT_READ (R424). -/
def execMbxEventRead (_h : Chan) (s : State) : Host.Outcome State Fault Refusal := .next (slaveRead s 0x18)
/-- MBX_EVSTAT_READ (R424). -/
def execMbxEvstatRead (_h : Chan) (s : State) : Host.Outcome State Fault Refusal := .next (slaveRead s offEvstat)
/-- MBX_WINSTAT_READ (R439). -/
def execMbxWinstatRead (_h : Chan) (s : State) : Host.Outcome State Fault Refusal := .next (slaveRead s offWinstat)

end Sys2Proof.Machine
end

