-- ==== Sys2Proof/Machine/Debug.lean ====
section
/-! DEFINITION. The debug port (R470 to R475): levels, authentication, halts and releases (R476 to R482), the virtual terminal
(R486). A debugger's access leaves its RESP in `outResp` and its data in `outData`. -/

namespace Sys2Proof.Machine

/-! ### The port -/

/-- PD_DBG is powered. -/
def dbgLive (s : State) : Bool := decide (s.dev ≠ .off)

/-- RESP codes (R471). -/
def respOk : BitVec 2 := 0
def respBusy : BitVec 2 := 1
def respLevel : BitVec 2 := 2
def respErr : BitVec 2 := 3

/-- The end of an operation of DACC: the TAP holds DACC with RNW and ADDR, and captures data and result. -/
def dacc (s : State) (rnw : Bool) (a : Nat) (r : BitVec 2) (v : Word) : State :=
  { s with dbgSt := { s.dbgSt with tapIr := 8, rnw := rnw, addr := BitVec.ofNat 10 a }, outResp := r, outData := [v] }

/-- The level a debug register needs (R472). ESEL, MADDR, MCTL and the trace registers serve what level non-invasive permits
(DEDUCED, log 37). -/
def dbgNeed (a : Nat) : Nat :=
  if a ≤ 0x005 ∨ (0x008 ≤ a ∧ a ≤ 0x00F) then 0
  else if a = 0x012 ∨ a = 0x013 ∨ a = 0x014 ∨ a = 0x019 ∨ a = 0x01A ∨ (0x020 ≤ a ∧ a ≤ 0x022) ∨ (0x030 ≤ a ∧ a ≤ 0x034) then 1
  else if (0x010 ≤ a ∧ a ≤ 0x018) ∨ a = 0x03F then 2
  else 0

/-- Make an access at its level: refused with RESP 0b10 below it. -/
def atLevel (s : State) (rnw : Bool) (a need : Nat) (f : State → State) : State :=
  if !dbgLive s then s
  else if dbgLevel s < need then dacc s rnw a respLevel 0
  else f s

/-- Set a flag of DBG_STAT. -/
def dbgFlag (s : State) (i : Nat) : State := dbgWr s 0 (putBit (dbgRd s 0) i true)

/-- The engine of DBG_ESEL: a Lockstep checker's commands run on its leader, which the checker follows (R479). -/
def dbgEng (s : State) : Nat :=
  let e := fld (dbgRd s 0x013) 4 0
  if isLockstep s (e / 2) then e / 2 * 2 else e

/-- The engine is halted, by its Grove or with the device. -/
def engHalted (s : State) (e : Nat) : Bool := decide (s.dev = .halted) || (grv s (e / 2)).halted

/-- DBG_HSTAT (R475). -/
def hstat (s : State) : Word :=
  BitVec.ofNat 32 (ofBits ((List.range 16).map fun g => (grv s g).halted) + 65536 * b2n (decide (s.dev = .halted)))

/-- The challenge (R474): the time words are those of the last GO (DESIGN CHOICE, log 31). -/
def challenge (s : State) : List Word := [s.dbgSt.counter, dbgRd s 0x002, dbgRd s 0x003, rd s Reg.idBootcnt]

/-- What a debug register returns, its level permitting (R475). -/
def dbgValue (s : State) (a : Nat) : Word :=
  if a = 0 then
    BitVec.ofNat 32 (dbgLevel s + 4 * b2n (decide (s.dbgSt.granted ≠ 0))) ||| (dbgRd s 0 &&& 0x00FF01F8#32)
  else if 1 ≤ a ∧ a ≤ 4 then nth (challenge s) (a - 1)
  else if a = 0x012 then hstat s
  else if a = 0x014 then
    (let e := fld (dbgRd s 0x013) 4 0
     if engHalted s e then (eng s e).pc else 0xFFFFFFFF#32)
  else if a = 0x013 ∨ a = 0x015 ∨ a = 0x016 ∨ a = 0x017 ∨ (0x020 ≤ a ∧ a ≤ 0x021) ∨ (0x030 ≤ a ∧ a ≤ 0x034) then dbgRd s a
  else 0

/-! ### Authentication (R474) -/

/-- One second. -/
def oneSecond : Dbl := 1000000000#64

/-- The response that the device key asks for. -/
def dbgAnswer (s : State) (lvl : Nat) : List Byte :=
  hmac256 (fuseBytes s 0x140 8) (wordsBytes (challenge s) ++ [BitVec.ofNat 8 lvl])

/-- The debugger's response. -/
def dbgResponse (s : State) : List Byte := wordsBytes ((List.range 8).map fun w => dbgRd s (0x008 + w))

/-- DBG_AUTH with GO: every GO makes a new challenge. -/
def authGo (s : State) (v : Word) : State :=
  let lvl := lvlCap (fld v 1 0)
  let next (s : State) : State :=
    dbgWr (dbgWr { s with dbgSt := { s.dbgSt with counter := s.dbgSt.counter + 1 } } 0x002 (lo32 s.tb.now)) 0x003 (hi32 s.tb.now)
  if bit (dbgRd s 0) 3 then dacc (next s) false 0x005 respLevel 0
  else if lvl = 0 then dacc (next { s with dbgSt := { s.dbgSt with granted := 0 } }) false 0x005 respOk 0
  else
    let key := fuseBytes s 0x140 8
    if key.any (· ≠ 0) && decide (dbgAnswer s lvl = dbgResponse s) then
      let s := dbgWr { s with dbgSt := { s.dbgSt with granted := min lvl (dbgLvlSvc s) } } 0 (putFld (dbgRd s 0) 23 16 0)
      dacc (next s) false 0x005 respOk 0
    else
      let n := satAdd 0xFF (fld (dbgRd s 0) 23 16) 1
      let s := dbgWr s 0 (putFld (dbgRd s 0) 23 16 n)
      let s := if n ≥ 3 then { dbgFlag s 3 with dbgSt := { s.dbgSt with lockEnd := some (s.tb.now + oneSecond) } } else s
      dacc (next s) false 0x005 respOk 0
def authWrite (s : State) (v : Word) : State :=
  if !dbgLive s then s else if bit v 2 then authGo s v else dacc s false 0x005 respOk 0

/-- The lockout ends after 1 s. -/
def lockoutEnd (s : State) : State :=
  match s.dbgSt.lockEnd with
  | none => s
  | some t =>
    if t.toNat ≤ s.tb.now.toNat ∧ s.dev ≠ .off then
      { dbgWr s 0 (putBit (dbgRd s 0) 3 false) with dbgSt := { s.dbgSt with lockEnd := none } }
    else s

/-! ### Halts -/

/-- What a halt does to an engine: its reservation clears (R138), and a WAIT runs again at release (R477). -/
def haltEngine (s : State) (e : Nat) : State :=
  let x := eng s e
  let x := if x.run = .waiting then { x with run := .running, pc := x.pc - 1 } else x
  putEng s e { x with rsv := putBit x.rsv 0 false, foldAt := none }

/-- A Grove is halted. -/
def haltGrove (s : State) (g : Nat) : State :=
  let s := putGrv s g { grv s g with haltReq := false, halted := true }
  haltEngine (haltEngine s (2 * g)) (2 * g + 1)

/-- A halt request for one Grove (R476): an idle Grove halts at once (R477). -/
def haltOne (s : State) (g : Nat) : State :=
  if !haltAllowed s g then dbgFlag s 8
  else if (grv s g).halted then s
  else if grvIdle s g then haltGrove s g
  else putGrv s g { grv s g with haltReq := true }

/-- A device-wide halt is allowed (R476). -/
def devHaltAllowed (s : State) : Bool :=
  decide (dbgLevel s = 2) && (decide (s.dev = .config) || decide (s.dev = .safeHold) || decide (s.dev = .maintenance))

/-- A write of DBG_HALT. -/
def haltWrite (s : State) (v : Word) : State :=
  atLevel s false 0x010 2 fun s =>
    let s := (List.range 16).foldl (fun st g => if bit v g then haltOne st g else st) s
    let s := if bit v 16 then (if devHaltAllowed s then { s with devHalt := true } else dbgFlag s 8) else s
    dacc (holdSettle s) false 0x010 respOk 0

/-- The device enters Halted once no boundary step is in progress (R478). A cause of Safe Hold of the same cycle wins (R482). -/
def deviceHalted (s : State) : State :=
  if !s.devHalt || decide (s.bnd.phase ≠ .idle) then s
  else if s.safeReq.isSome || !devHaltAllowed s then holdSettle (dbgFlag { s with devHalt := false } 8)
  else
    let s := (List.range 33).foldl haltEngine { s with devHalt := false }
    setDev s .halted 0xB

/-! ### Releases (R480) -/

/-- Release one Grove, for one step if `step`. -/
def releaseGrove (step : Bool) (s : State) (g : Nat) : State :=
  let x := grv s g
  if step then (if x.halted then putGrv s g { x with halted := false, stepping := true } else s)
  else putGrv s g { x with haltReq := false, halted := false, stepping := false }

/-- State that a code names. -/
def devOfCode (n : Nat) : Dev := if n = 7 then .maintenance else if n = 6 then .safeHold else .config

/-- A port that must qualify its link again (R297, R478). -/
def relink (p : ShrPort) : ShrPort := { p with hbCnt := 0 }

/-- The device leaves Halted: SCHED resumes at the next boundary (R48), SHR qualifies its links again; a LOSS or WD_BITE accepted
meanwhile takes its effect (R418, R469; log 25). -/
def leaveHalted (s : State) : State :=
  let s := setDev s (devOfCode s.prevDev.toNat) 0xC
  let s := sb (sb s (pstat .a) 1 false) (pstat .b) 1 false
  let s := { s with shr := { s.shr with pa := relink s.shr.pa, pb := relink s.shr.pb },
                    bnd := { s.bnd with next := BitVec.ofNat 64 (nextCyc s) } }
  let s := if rb s Reg.pwrVstat 4 then lossEntry s else s
  if rb s Reg.wdiStat 2 then enterSafeHold s 0xA else s

/-- Release the device-wide halt, in force or awaited. -/
def releaseDev (s : State) : State :=
  let s := { s with devHalt := false }
  if s.dev = .halted then leaveHalted s else s

/-- A write of DBG_RUN. -/
def runWrite (s : State) (v : Word) : State :=
  atLevel s false 0x011 2 fun s =>
    let s := (List.range 16).foldl (fun st g => if bit v g then releaseGrove (bit v 17) st g else st) s
    let s := if bit v 16 then releaseDev s else s
    dacc (holdSettle s) false 0x011 respOk 0

/-- Every halt is released (R482). -/
def releaseAll (s : State) : State := holdSettle (releaseDev ((List.range 16).foldl (releaseGrove false) s))

/-! ### Resets of the debug domain (R470) -/

/-- DBG_RST_N. -/
def dbgRstN (s : State) : State :=
  if !dbgLive s then s
  else
    let s := releaseAll s
    { s.engs.foldl (fun st p => putEng st p.1 { eng st p.1 with term := State.engReset.term }) s with
      dbg := [], dbgSt := State.dbgReset, io := s.io.filter fun p => !dbgvKey p.1 }

/-! ### Virtual terminal (R486) -/

def putDbgTerm (s : State) (e : Nat) (t : Terminal) : State := putEng s e { eng s e with term := t }

/-- DBG_VTX takes the word. -/
def vtxRead (s : State) : State :=
  atLevel s true 0x019 1 fun s =>
    let e := dbgEng s
    let t := (eng s e).term
    dacc (putDbgTerm s e { t with txFull := false }) true 0x019 respOk (if t.txFull then t.tx else 0)

/-- DBG_VRX fills the receive word. -/
def vrxWrite (s : State) (v : Word) : State :=
  atLevel s false 0x01A 1 fun s =>
    let e := dbgEng s
    let t := (eng s e).term
    if t.rxValid then dacc s false 0x01A respBusy 0
    else dacc (putDbgTerm s e { t with rx := v, rxValid := true }) false 0x01A respOk 0

/-! ### Rows -/

/-- DEBUG_RESET (R470). -/
def execDebugReset (s : State) : Host.Outcome State Fault Refusal := .next (dbgRstN s)
/-- TAP_RESET (R470): TRST_N resets the TAP controller only. -/
def execTapReset (s : State) : Host.Outcome State Fault Refusal :=
  .next (if dbgLive s then { s with dbgSt := { s.dbgSt with tapIr := 1 } } else s)
/-- DEBUG_AUTH (R474). -/
def execDebugAuth (v : Word) (s : State) : Host.Outcome State Fault Refusal := .next (authWrite s v)
/-- DEBUG_LOCKOUT_END (R474). -/
def execDebugLockoutEnd (s : State) : Host.Outcome State Fault Refusal := .next (lockoutEnd s)
/-- HALT_GROVE (R476): a write of DBG_HALT. -/
def execHaltGrove (v : Word) (s : State) : Host.Outcome State Fault Refusal := .next (haltWrite s v)
/-- HALT_DEVICE (R476): a write of DBG_HALT with DEV. -/
def execHaltDevice (v : Word) (s : State) : Host.Outcome State Fault Refusal := .next (if bit v 16 then haltWrite s v else s)
/-- GROVE_HALTED (R477). -/
def execGroveHalted (g : Grv) (s : State) : Host.Outcome State Fault Refusal :=
  .next (if (grv s g.val).haltReq && !(grv s g.val).halted then haltGrove s g.val else s)
/-- DEVICE_HALTED (R478). -/
def execDeviceHalted (s : State) : Host.Outcome State Fault Refusal := .next (deviceHalted s)
/-- RELEASE_GROVE (R480): a write of DBG_RUN. -/
def execReleaseGrove (v : Word) (s : State) : Host.Outcome State Fault Refusal := .next (if bit v 17 then s else runWrite s v)
/-- RELEASE_DEVICE (R480): a write of DBG_RUN with DEV. -/
def execReleaseDevice (v : Word) (s : State) : Host.Outcome State Fault Refusal := .next (if bit v 16 then runWrite s v else s)
/-- STEP (R480): a write of DBG_RUN with STEP. -/
def execStep (v : Word) (s : State) : Host.Outcome State Fault Refusal := .next (if bit v 17 then runWrite s v else s)
/-- VTX_READ (R486). -/
def execVtxRead (s : State) : Host.Outcome State Fault Refusal := .next (vtxRead s)
/-- VRX_WRITE (R486). -/
def execVrxWrite (v : Word) (s : State) : Host.Outcome State Fault Refusal := .next (vrxWrite s v)
/-- DEBUG_RESET_REQUEST (R475): RSTREQ asserts the debug reset source. -/
def execDebugResetRequest (v : Word) (s : State) : Host.Outcome State Fault Refusal :=
  .next (atLevel s false 0x03F 2 fun s => let s := dacc s false 0x03F respOk 0; if bit v 0 then resetAssert s .debug else s)
/-- DBG_TRCDROP_READ (R475): the count leaves, and clears. -/
def execDbgTrcdropRead (s : State) : Host.Outcome State Fault Refusal :=
  .next (atLevel s true 0x034 1 fun s => dacc (dbgWr s 0x034 0) true 0x034 respOk (dbgRd s 0x034))

end Sys2Proof.Machine
end

