-- ==== Sys2Proof/Machine/DbgMem.lean ====
section
/-! DEFINITION. The memory master (R483, R484) and the trace writer (R487). -/

namespace Sys2Proof.Machine

/-- How an access by master 46 ends: its data; a failure of a MKIND (1 denied, 2 uncorrectable, 3 error response); or not yet, for a
tarn that sleeps or a check-value unit that holds the write. -/
inductive MEnd where
  | ok (v : Word)
  | fail (kind : Nat)
  | later
deriving DecidableEq, Repr

abbrev MRes := State × MEnd

/-- A denial is recorded under R389. -/
def mDenied (s : State) (d : Denial) : MRes := (logDenial s d, .fail 1)
def mOuter (s : State) : LineErr → MRes
  | .lost => (s, .fail 2)
  | .nchErr => (s, .fail 3)

/-- What master 46 presents. -/
def mReq (s : State) : Req := reqOf s 46

/-! ### D-space -/

/-- The D-Pond of ENG's Grove: the whole converted part, both engines' halves (R133, R483; log 35). -/
def mPond (s : State) (off : Nat) : Option (Nat × Nat) :=
  let g := fld (dbgRd s 0x013) 4 0 / 2
  if off < dWays s g * 0x2000 then some (g, off) else none

/-- Read one aligned piece, its bytes in the low end of the word. -/
def mRead (s : State) (a n : Nat) : MRes :=
  match placeOf a with
  | .outer =>
    match regionOf s a with
    | none => mDenied s (mkDenial (mReq s) 0xFF needR spData false a)
    | some r =>
      match outerRead s 46 r a n with
      | (s, .ok bs) => (s, .ok (bytesVal bs))
      | (s, .error x) => mOuter s x
  | .tarn t w =>
    match checkMem s (mReq s) a needR spData with
    | some d => mDenied s d
    | none =>
      if !tarnUp s t then (askWake s t, .later)
      else
        match readTarn s t w 46 with
        | (s, some v) => (s, .ok (bytesVal (((wordBytes v).drop (a % 4)).take n)))
        | (s, none) => (s, .fail 2)
  | .pond off =>
    match mPond s off with
    | none => mDenied s (mkDenial (mReq s) 0xFF needR spData false a)
    | some (g, o) =>
      if pondIsBad s g (o + 0x4000) then (s, .fail 2)
      else (s, .ok (bytesVal ((List.range n).map fun i => Sparse.get 0#8 (grv s g).dpond (o + i))))
  | .none => mDenied s (mkDenial (mReq s) 0xFF needR spData false a)

/-- Write one aligned piece. A Spare whose Pond is written is no longer prepared (R263). -/
def mWrite (s : State) (a : Nat) (bs : List Byte) : MRes :=
  match placeOf a with
  | .outer =>
    match regionOf s a with
    | none => mDenied s (mkDenial (mReq s) 0xFF needW spData false a)
    | some r =>
      match outerWrite s 46 r a bs with
      | (s, .ok _) => (clearRsv s 46 a, .ok 0)
      | (s, .error x) => mOuter s x
  | .tarn t w =>
    match checkMem s (mReq s) a needW spData with
    | some d => mDenied s d
    | none =>
      if !tarnUp s t then (askWake s t, .later)
      else
        let (m, v) := byteMask (a % 4) bs
        match writeTarn s t w 46 m v with
        | (s, some _) => (s, .ok 0)
        | (s, none) => (s, .fail 2)
  | .pond off =>
    match mPond s off with
    | none => mDenied s (mkDenial (mReq s) 0xFF needW spData false a)
    | some (g, o) =>
      if pondIsBad s g (o + 0x4000) && decide (bs.length < 4) then (s, .fail 2)
      else
        let s := putGrv s g { grv s g with pondBad := (grv s g).pondBad.filter (· ≠ (o + 0x4000) / 4 * 4) }
        let s := { s with prepared := s.prepared &&& ~~~ (1#16 <<< g) }
        (clearRsv (pondStore s g o bs) 46 a, .ok 0)
  | .none => mDenied s (mkDenial (mReq s) 0xFF needW spData false a)

/-- An access of `n` bytes as aligned pieces, the lower address first (R134); the first that does not end well ends it. -/
def mReads (s : State) (shift : Nat) (acc : Word) : List (Nat × Nat) → MRes
  | [] => (s, .ok acc)
  | (a, n) :: r =>
    match mRead s a n with
    | (s, .ok v) => mReads s (shift + 8 * n) (acc ||| (v <<< shift)) r
    | x => x
def mWrites (s : State) (bs : List Byte) : List (Nat × Nat) → MRes
  | [] => (s, .ok 0)
  | (a, n) :: r =>
    match mWrite s a (bs.take n) with
    | (s, .ok _) => mWrites s (bs.drop n) r
    | x => x

/-! ### IO-space and B-space -/

/-- A write in IO-space; one that the journal refuses ends with an error response (R396). -/
def mIoWrite (s : State) (a : Nat) (v : Word) : MRes :=
  match ioPut s (mReq s) a v false with
  | .done s => (s, .ok 0)
  | .refused s => (s, .ok 0)
  | .full s => (s, .fail 3)
  | .denied s d => mDenied s d
  | .held s => (s, .later)

/-- The bit of an address through the windows of DBG_MCTL.APP (R483). -/
def mBit (s : State) (b : Nat) : Nat × Option BPlace :=
  let a := fld (dbgRd s 0x021) 9 5
  (a, bitPlace s a (if appDiverse s a then .leader else .whole) b)

/-- One bit read, and one bit written (SIZE has no part in it: DESIGN CHOICE, log 34). -/
def mBitRead (s : State) (b : Nat) : MRes :=
  match mBit s b with
  | (_, none) => mDenied s (mkDenial (mReq s) 0xFF needR spBit false b)
  | (a, some (.status n)) => (s, .ok (BitVec.ofNat 32 (b2n (statusBit s a n))))
  | (a, some (.seg k t w i)) =>
    if tarnDead s t then mDenied s (mkDenial (mReq s) (bitTcode a (.seg k t w i)) needR spBit false b)
    else if !tarnUp s t then (askWake s t, .later)
    else
      match readTarn s t w 46 with
      | (s, some v) => (s, .ok (BitVec.ofNat 32 (b2n (bit v i))))
      | (s, none) => (s, .fail 2)
def mBitWrite (s : State) (b : Nat) (v : Word) : MRes :=
  match mBit s b with
  | (_, none) => mDenied s (mkDenial (mReq s) 0xFF needB spBit false b)
  | (a, some (.status n)) => mDenied s (mkDenial (mReq s) (bitTcode a (.status n)) needB spBit false b)
  | (a, some (.seg k t w i)) =>
    if tarnDead s t then mDenied s (mkDenial (mReq s) (bitTcode a (.seg k t w i)) needB spBit false b)
    else if !tarnUp s t then (askWake s t, .later)
    else
      match readTarn s t w 46 with
      | (s, none) => (s, .fail 2)
      | (s, some old) =>
        let m := if (bufIndex s t w).isSome then BitVec.ofNat 32 (1 <<< i) else BitVec.allOnes 32
        match writeTarn s t w 46 m (putBit old i (bit v 0)) with
        | (s, some _) => (s, .ok 0)
        | (s, none) => (s, .fail 2)

/-! ### The slave port (R422, R484, R507) -/

/-- A tarn window: offset within it and the window. -/
def mWin (o : Nat) : Option (Nat × Nat) :=
  if 0x40000 ≤ o ∧ o < 0x100000 then some ((o - 0x40000) / 0x20000, (o - 0x40000) % 0x20000) else none

/-- The D-space address behind an offset of an open window. -/
def mWinAddr (s : State) (w o : Nat) : Option Nat :=
  let sel := hostRd s (0x20000 + 4 * w)
  if bit sel 6 then some (tarnAddr (fld sel 5 0) 0 + o) else none

/-- The expert window refuses: master 46 holds no session (R440). -/
def mExpert (s : State) : MRes :=
  let w := hostRd s offWinstat
  (hostWr s offWinstat (putFld w 15 0 (satAdd 0xFFFF (fld w 15 0) 1)), .fail 3)

/-- A quiet read of a slave-port offset: the two pops return 0 and set NOQUIET. -/
def mSlaveRead (s : State) (o n : Nat) : MRes :=
  match mWin o with
  | some (w, k) =>
    (match mWinAddr s w k with
     | some a => mReads s 0 0 (piecesOf a n)
     | none => (s, .fail 3))
  | none =>
    if 0xC000 ≤ o ∧ o < 0x10000 then mExpert s
    else if 0x10000 ≤ o ∧ o < 0x20000 then (if o % 0x1000 = 0x800 then (dbgFlag s 4, .ok 0) else (s, .ok 0))
    else if o / 4 * 4 = 0x18 then (dbgFlag s 4, .ok 0)
    else (s, .ok ((slaveValue s (o / 4 * 4) >>> (8 * (o % 4))) &&& BitVec.ofNat 32 (256 ^ n - 1)))

/-- A write of a slave-port offset; a register takes whole words only. -/
def mSlaveWrite (s : State) (o n : Nat) (v : Word) : MRes :=
  match mWin o with
  | some (w, k) =>
    (match mWinAddr s w k with
     | some a => mWrites s (wordBytes v) (piecesOf a n)
     | none => (s, .fail 3))
  | none =>
    if 0xC000 ≤ o ∧ o < 0x10000 then mExpert s
    else if 0x10000 ≤ o ∧ o < 0x20000 then
      let t := deposit s ((o - 0x10000) / 0x1000) (o % 0x1000) [v]
      (t, if t.outResp = 0 then .ok 0 else .fail 3)
    else if o % 4 ≠ 0 ∨ n ≠ 4 then (s, .fail 3)
    else (slaveWrite s 46 o v, .ok 0)

/-! ### DBG_MDATA -/

/-- Bytes of an access by DBG_MCTL.SIZE. -/
def mSize (s : State) : Nat := 2 ^ fld (dbgRd s 0x021) 3 2

/-- How far DBG_MADDR advances (log 34): one word in IO-space, one bit in B-space, the size elsewhere. -/
def mStep (s : State) : Nat := match fld (dbgRd s 0x021) 1 0 with | 1 => 1 | 2 => 1 | _ => mSize s

/-- The blocks do not answer in Reset (DESIGN CHOICE, log 34). -/
def mAccessRead (s : State) : MRes :=
  let a := (dbgRd s 0x020).toNat
  if s.dev = .reset then (s, .fail 3)
  else
    match fld (dbgRd s 0x021) 1 0 with
    | 0 => mReads s 0 0 (piecesOf a (mSize s))
    | 1 => (s, .ok (ioValue s (mReq s) (a % 65536)))
    | 2 => mBitRead s (a % 2 ^ 24)
    | _ => mSlaveRead s (a % 2 ^ 20) (mSize s)
def mAccessWrite (s : State) (v : Word) : MRes :=
  let a := (dbgRd s 0x020).toNat
  if s.dev = .reset then (s, .fail 3)
  else
    match fld (dbgRd s 0x021) 1 0 with
    | 0 => mWrites s ((wordBytes v).take (mSize s)) (piecesOf a (mSize s))
    | 1 => mIoWrite s (a % 65536) v
    | 2 => mBitWrite s (a % 2 ^ 24) v
    | _ => mSlaveWrite s (a % 2 ^ 20) (mSize s) v

/-- Advance DBG_MADDR after an access. -/
def mAdvance (s : State) : State :=
  if bit (dbgRd s 0x021) 4 then dbgWr s 0x020 (dbgRd s 0x020 + BitVec.ofNat 32 (mStep s)) else s

/-- The end of an access: a failed one returns 0 and sets MERR and MKIND. -/
def mFinish (rnw : Bool) : MRes → State
  | (s, .ok v) => dacc (mAdvance s) rnw 0x022 respOk v
  | (s, .fail k) => dacc (mAdvance (dbgWr s 0 (putFld (putBit (dbgRd s 0) 5 true) 7 6 k))) rnw 0x022 respErr 0
  | (s, .later) => dacc s rnw 0x022 respBusy 0

def mdataRead (s : State) : State := atLevel s true 0x022 1 fun s => mFinish true (mAccessRead s)
def mdataWrite (s : State) (v : Word) : State := atLevel s false 0x022 2 fun s => mFinish false (mAccessWrite s v)

/-! ### Trace (R487) -/

/-- Offset of the next record, and the one after it. -/
def tracePtr (s : State) : Nat :=
  let p := (dbgRd s 0x033).toNat
  if p + 8 ≤ (dbgRd s 0x032).toNat then p else 0
def traceNext (s : State) : Nat :=
  let p := tracePtr s + 8
  if p + 8 ≤ (dbgRd s 0x032).toNat then p else 0

/-- The oldest record leaves the FIFO for the ring in outer memory. A ring with no room for one record takes none. -/
def traceWrite (s : State) : State :=
  match s.dbgSt.trace with
  | [] => s
  | (x, y) :: r =>
    if s.dev = .off ∨ s.dev = .reset then s
    else
      let p := tracePtr s
      let a := ((dbgRd s 0x031 &&& 0xFFFFFFF8#32) + BitVec.ofNat 32 p).toNat
      let t := { s with dbgSt := { s.dbgSt with trace := r } }
      if (dbgRd s 0x032).toNat < 8 then t
      else
        let t := dbgWr t 0x033 (BitVec.ofNat 32 (traceNext s))
        if a < 0x80000000 then (mWrites t (wordBytes x ++ wordBytes y) [(a, 4), (a + 4, 4)]).1
        else (mDenied t (mkDenial (mReq s) 0xFF needW spData false a)).1

/-! ### Rows -/

/-- MDATA_READ (R483). -/
def execMdataRead (s : State) : Host.Outcome State Fault Refusal := .next (mdataRead s)
/-- MDATA_WRITE (R483). -/
def execMdataWrite (v : Word) (s : State) : Host.Outcome State Fault Refusal := .next (mdataWrite s v)
/-- TRACE_WRITE (R487). -/
def execTraceWrite (s : State) : Host.Outcome State Fault Refusal := .next (traceWrite s)

end Sys2Proof.Machine
end

