-- ==== Sys2Proof/Machine/Eng64.lean ====
section
/-! DEFINITION. The 64-bit page 0xF0 (R169). -/

namespace Sys2Proof.Machine

/-- Instructions of page 0xF0: two bytes. -/
def insnPage (cyc : Nat) : Insn := { len := 2, cyc := cyc }

/-- ( da db -- ds ), ( da -- dr ) and ( da n -- dr ) with flags. -/
def dbl2 (e : Nat) (f : Dbl → Dbl → Dbl × Flagged) : EM Unit := do
  let ws ← popN e 4 2
  let (r, fl) := f (dbl (nth ws 2) (nth ws 3)) (dbl (nth ws 0) (nth ws 1))
  pushN e [lo32 r, hi32 r]
  writeF e fl
  trapOv e fl
def dblSh (e : Nat) (f : Dbl → Nat → Dbl × Flagged) : EM Unit := do
  let ws ← popN e 3 2
  let (r, fl) := f (dbl (nth ws 1) (nth ws 2)) (nth ws 0).toNat
  pushN e [lo32 r, hi32 r]
  writeF e fl

/-- DADD (R169): 64-bit sum. -/
def bodyDadd (e : Nat) : EM Unit := dbl2 e fun a b => addF a b false
def execDadd (e : Eng) (s : State) : Out := .next (runInsn e.val (insnPage 2) (bodyDadd e.val) s)

/-- DSUB (R169): 64-bit difference. -/
def bodyDsub (e : Nat) : EM Unit := dbl2 e fun a b => subF a b false
def execDsub (e : Eng) (s : State) : Out := .next (runInsn e.val (insnPage 2) (bodyDsub e.val) s)

/-- DNEG (R169): 64-bit negation. -/
def bodyDneg (e : Nat) : EM Unit := do
  let ws ← popN e 2 2
  let (r, fl) := subF (0 : Dbl) (dbl (nth ws 0) (nth ws 1)) false
  pushN e [lo32 r, hi32 r]
  writeF e fl
  trapOv e fl
def execDneg (e : Eng) (s : State) : Out := .next (runInsn e.val (insnPage 2) (bodyDneg e.val) s)

/-- DCMP (R169): flags of a 64-bit difference. -/
def bodyDcmp (e : Nat) : EM Unit := do
  let ws ← popN e 4 0
  writeF e (subF (dbl (nth ws 2) (nth ws 3)) (dbl (nth ws 0) (nth ws 1)) false).2
def execDcmp (e : Eng) (s : State) : Out := .next (runInsn e.val (insnPage 2) (bodyDcmp e.val) s)

/-- DSHL (R169): 64-bit shift left. -/
def bodyDshl (e : Nat) : EM Unit := dblSh e shlF
def execDshl (e : Eng) (s : State) : Out := .next (runInsn e.val (insnPage 2) (bodyDshl e.val) s)

/-- DSHR (R169): 64-bit logical shift right. -/
def bodyDshr (e : Nat) : EM Unit := dblSh e shrF
def execDshr (e : Eng) (s : State) : Out := .next (runInsn e.val (insnPage 2) (bodyDshr e.val) s)

/-- DSAR (R169): 64-bit arithmetic shift right. -/
def bodyDsar (e : Nat) : EM Unit := dblSh e sarF
def execDsar (e : Eng) (s : State) : Out := .next (runInsn e.val (insnPage 2) (bodyDsar e.val) s)

/-- DSEX (R169): sign-extends a cell to a double. -/
def bodyDsex (e : Nat) : EM Unit := do
  let a ← pop1 e 2
  pushN e [a, if a.msb then BitVec.allOnes 32 else 0]
def execDsex (e : Eng) (s : State) : Out := .next (runInsn e.val (insnPage 1) (bodyDsex e.val) s)

/-- DZEX (R169): zero-extends a cell to a double. -/
def bodyDzex (e : Nat) : EM Unit := do
  let a ← pop1 e 2
  pushN e [a, 0]
def execDzex (e : Eng) (s : State) : Out := .next (runInsn e.val (insnPage 1) (bodyDzex e.val) s)

end Sys2Proof.Machine
end

