-- ==== Sys2Proof/Machine/EngArith.lean ====
section
/-! DEFINITION. Arithmetic, logic, compare and shift instructions 0x10 to 0x36 (R151 to R153). -/

namespace Sys2Proof.Machine

/-- ( a b -- r ) with flags; `ov` where the row lists Overflow (R151, R152). -/
def flag2 (e : Nat) (ov : Bool) (f : Word → Word → Bool → Word × Flagged) : EM Unit := do
  let (a, b) ← pop2 e 1
  let x ← getE e
  let (r, fl) := f a b (bit x.stat stC)
  pushN e [r]
  writeF e fl
  if ov then trapOv e fl

/-- ( a -- r ) with flags. -/
def flag1 (e : Nat) (ov : Bool) (f : Word → Word × Flagged) : EM Unit := do
  let a ← pop1 e 1
  let (r, fl) := f a
  pushN e [r]
  writeF e fl
  if ov then trapOv e fl

/-- ( a b -- r ) and ( a -- r ) without flags. -/
def plain2 (e : Nat) (f : Word → Word → Word) : EM Unit := do
  let (a, b) ← pop2 e 1
  pushN e [f a b]
def plain1 (e : Nat) (f : Word → Word) : EM Unit := do
  let a ← pop1 e 1
  pushN e [f a]

/-- Immediate shifts: two bytes, not folded. -/
def insnShi : Insn := { len := 2, cyc := 1 }
/-- One-byte arithmetic. -/
def insnAr : Insn := { len := 1, cyc := 1, second := true }

/-- LIMIT (R151): min(max(x, mn), mx), signed. -/
def limitW (mn x mx : Word) : Word :=
  let y := if x.toInt < mn.toInt then mn else x
  if y.toInt > mx.toInt then mx else y

/-- ADD (R151): a + b. -/
def bodyAdd (e : Nat) : EM Unit := flag2 e true fun a b _ => addF a b false
def execAdd (e : Eng) (s : State) : Out := .next (runInsn e.val insnAr (bodyAdd e.val) s)

/-- SUB (R151): a - b. -/
def bodySub (e : Nat) : EM Unit := flag2 e true fun a b _ => subF a b false
def execSub (e : Eng) (s : State) : Out := .next (runInsn e.val insnAr (bodySub e.val) s)

/-- ADC (R151): a + b + C. -/
def bodyAdc (e : Nat) : EM Unit := flag2 e true addF
def execAdc (e : Eng) (s : State) : Out := .next (runInsn e.val insnAr (bodyAdc e.val) s)

/-- SBB (R151): a - b - C. -/
def bodySbb (e : Nat) : EM Unit := flag2 e true subF
def execSbb (e : Eng) (s : State) : Out := .next (runInsn e.val insnAr (bodySbb e.val) s)

/-- NEG (R151): 0 - a. -/
def bodyNeg (e : Nat) : EM Unit := flag1 e true fun a => subF 0#32 a false
def execNeg (e : Eng) (s : State) : Out := .next (runInsn e.val insnAr (bodyNeg e.val) s)

/-- ABS (R151): magnitude, C 0. -/
def bodyAbs (e : Nat) : EM Unit := flag1 e true fun a => absF a
def execAbs (e : Eng) (s : State) : Out := .next (runInsn e.val insnAr (bodyAbs e.val) s)

/-- INC (R151): a + 1, C unchanged. -/
def bodyInc (e : Nat) : EM Unit := flag1 e true fun a => keepC (addF a 1#32 false)
def execInc (e : Eng) (s : State) : Out := .next (runInsn e.val insnAr (bodyInc e.val) s)

/-- DEC (R151): a - 1, C unchanged. -/
def bodyDec (e : Nat) : EM Unit := flag1 e true fun a => keepC (subF a 1#32 false)
def execDec (e : Eng) (s : State) : Out := .next (runInsn e.val insnAr (bodyDec e.val) s)

/-- CMP (R151): flags of a - b, no result and no trap. -/
def bodyCmp (e : Nat) : EM Unit := do
  let (a, b) ← pop2 e 0
  writeF e (subF a b false).2
def execCmp (e : Eng) (s : State) : Out := .next (runInsn e.val insnAr (bodyCmp e.val) s)

/-- MIN (R151): signed minimum. -/
def bodyMin (e : Nat) : EM Unit := plain2 e fun a b => if a.toInt ≤ b.toInt then a else b
def execMin (e : Eng) (s : State) : Out := .next (runInsn e.val insnAr (bodyMin e.val) s)

/-- MAX (R151): signed maximum. -/
def bodyMax (e : Nat) : EM Unit := plain2 e fun a b => if a.toInt ≥ b.toInt then a else b
def execMax (e : Eng) (s : State) : Out := .next (runInsn e.val insnAr (bodyMax e.val) s)

/-- MINU (R151): unsigned minimum. -/
def bodyMinu (e : Nat) : EM Unit := plain2 e fun a b => if a.toNat ≤ b.toNat then a else b
def execMinu (e : Eng) (s : State) : Out := .next (runInsn e.val insnAr (bodyMinu e.val) s)

/-- MAXU (R151): unsigned maximum. -/
def bodyMaxu (e : Nat) : EM Unit := plain2 e fun a b => if a.toNat ≥ b.toNat then a else b
def execMaxu (e : Eng) (s : State) : Out := .next (runInsn e.val insnAr (bodyMaxu e.val) s)

/-- LIMIT (R151): ( mn x mx -- r ). -/
def bodyLimit (e : Nat) : EM Unit := do
  let ws ← popN e 3 1
  pushN e [limitW (nth ws 2) (nth ws 1) (nth ws 0)]
def execLimit (e : Eng) (s : State) : Out := .next (runInsn e.val insnAr (bodyLimit e.val) s)

/-- SEXB (R151): sign-extends a[7:0]. -/
def bodySexb (e : Nat) : EM Unit := plain1 e fun a => (a.extractLsb' 0 8).signExtend 32
def execSexb (e : Eng) (s : State) : Out := .next (runInsn e.val insnAr (bodySexb e.val) s)

/-- SEXH (R151): sign-extends a[15:0]. -/
def bodySexh (e : Nat) : EM Unit := plain1 e fun a => (a.extractLsb' 0 16).signExtend 32
def execSexh (e : Eng) (s : State) : Out := .next (runInsn e.val insnAr (bodySexh e.val) s)

/-- AND (R151): bitwise AND. -/
def bodyAnd (e : Nat) : EM Unit := flag2 e false fun a b _ => (a &&& b, logicF (a &&& b))
def execAnd (e : Eng) (s : State) : Out := .next (runInsn e.val insnAr (bodyAnd e.val) s)

/-- OR (R151): bitwise OR. -/
def bodyOr (e : Nat) : EM Unit := flag2 e false fun a b _ => (a ||| b, logicF (a ||| b))
def execOr (e : Eng) (s : State) : Out := .next (runInsn e.val insnAr (bodyOr e.val) s)

/-- XOR (R151): bitwise XOR. -/
def bodyXor (e : Nat) : EM Unit := flag2 e false fun a b _ => (a ^^^ b, logicF (a ^^^ b))
def execXor (e : Eng) (s : State) : Out := .next (runInsn e.val insnAr (bodyXor e.val) s)

/-- NOT (R151): bitwise complement. -/
def bodyNot (e : Nat) : EM Unit := flag1 e false fun a => (~~~ a, logicF (~~~ a))
def execNot (e : Eng) (s : State) : Out := .next (runInsn e.val insnAr (bodyNot e.val) s)

/-- TST (R151): flags of the top cell, which stays. -/
def bodyTst (e : Nat) : EM Unit := flag1 e false fun a => (a, logicF a)
def execTst (e : Eng) (s : State) : Out := .next (runInsn e.val insnAr (bodyTst e.val) s)

/-- EQZ (R151): a = 0. -/
def bodyEqz (e : Nat) : EM Unit := plain1 e fun a => b2w (decide (a = 0))
def execEqz (e : Eng) (s : State) : Out := .next (runInsn e.val insnAr (bodyEqz e.val) s)

/-- EQ (R151): a = b. -/
def bodyEq (e : Nat) : EM Unit := plain2 e fun a b => b2w (decide (a = b))
def execEq (e : Eng) (s : State) : Out := .next (runInsn e.val insnAr (bodyEq e.val) s)

/-- NE (R151): a ≠ b. -/
def bodyNe (e : Nat) : EM Unit := plain2 e fun a b => b2w (decide (a ≠ b))
def execNe (e : Eng) (s : State) : Out := .next (runInsn e.val insnAr (bodyNe e.val) s)

/-- LT (R151): a < b signed. -/
def bodyLt (e : Nat) : EM Unit := plain2 e fun a b => b2w (decide (a.toInt < b.toInt))
def execLt (e : Eng) (s : State) : Out := .next (runInsn e.val insnAr (bodyLt e.val) s)

/-- LE (R151): a ≤ b signed. -/
def bodyLe (e : Nat) : EM Unit := plain2 e fun a b => b2w (decide (a.toInt ≤ b.toInt))
def execLe (e : Eng) (s : State) : Out := .next (runInsn e.val insnAr (bodyLe e.val) s)

/-- LTU (R151): a < b unsigned. -/
def bodyLtu (e : Nat) : EM Unit := plain2 e fun a b => b2w (decide (a.toNat < b.toNat))
def execLtu (e : Eng) (s : State) : Out := .next (runInsn e.val insnAr (bodyLtu e.val) s)

/-- LEU (R151): a ≤ b unsigned. -/
def bodyLeu (e : Nat) : EM Unit := plain2 e fun a b => b2w (decide (a.toNat ≤ b.toNat))
def execLeu (e : Eng) (s : State) : Out := .next (runInsn e.val insnAr (bodyLeu e.val) s)

/-- SHL (R151): shift left by an unsigned count (R153). -/
def bodyShl (e : Nat) : EM Unit := flag2 e false fun a b _ => shlF a b.toNat
def execShl (e : Eng) (s : State) : Out := .next (runInsn e.val insnAr (bodyShl e.val) s)

/-- SHR (R151): logical shift right. -/
def bodyShr (e : Nat) : EM Unit := flag2 e false fun a b _ => shrF a b.toNat
def execShr (e : Eng) (s : State) : Out := .next (runInsn e.val insnAr (bodyShr e.val) s)

/-- SAR (R151): arithmetic shift right. -/
def bodySar (e : Nat) : EM Unit := flag2 e false fun a b _ => sarF a b.toNat
def execSar (e : Eng) (s : State) : Out := .next (runInsn e.val insnAr (bodySar e.val) s)

/-- ROL (R151): rotate left. -/
def bodyRol (e : Nat) : EM Unit := flag2 e false fun a b _ => rolF a b.toNat
def execRol (e : Eng) (s : State) : Out := .next (runInsn e.val insnAr (bodyRol e.val) s)

/-- ROR (R151): rotate right. -/
def bodyRor (e : Nat) : EM Unit := flag2 e false fun a b _ => rorF a b.toNat
def execRor (e : Eng) (s : State) : Out := .next (runInsn e.val insnAr (bodyRor e.val) s)

/-- SHLI (R153): shift left by u8. -/
def bodyShli (e : Nat) (i : BitVec 8) : EM Unit := flag1 e false fun a => shlF a i.toNat
def execShli (e : Eng) (i : BitVec 8) (s : State) : Out := .next (runInsn e.val insnShi (bodyShli e.val i) s)

/-- SHRI (R153): logical shift right by u8. -/
def bodyShri (e : Nat) (i : BitVec 8) : EM Unit := flag1 e false fun a => shrF a i.toNat
def execShri (e : Eng) (i : BitVec 8) (s : State) : Out := .next (runInsn e.val insnShi (bodyShri e.val i) s)

/-- SARI (R153): arithmetic shift right by u8. -/
def bodySari (e : Nat) (i : BitVec 8) : EM Unit := flag1 e false fun a => sarF a i.toNat
def execSari (e : Eng) (i : BitVec 8) (s : State) : Out := .next (runInsn e.val insnShi (bodySari e.val i) s)

/-- ROLI (R153): rotate left by u8. -/
def bodyRoli (e : Nat) (i : BitVec 8) : EM Unit := flag1 e false fun a => rolF a i.toNat
def execRoli (e : Eng) (i : BitVec 8) (s : State) : Out := .next (runInsn e.val insnShi (bodyRoli e.val i) s)

/-- ZEXB (R151): a[7:0]. -/
def bodyZexb (e : Nat) : EM Unit := plain1 e fun a => a &&& 0xFF#32
def execZexb (e : Eng) (s : State) : Out := .next (runInsn e.val insnAr (bodyZexb e.val) s)

/-- ZEXH (R151): a[15:0]. -/
def bodyZexh (e : Nat) : EM Unit := plain1 e fun a => a &&& 0xFFFF#32
def execZexh (e : Eng) (s : State) : Out := .next (runInsn e.val insnAr (bodyZexh e.val) s)

end Sys2Proof.Machine
end

