-- ==== Sys2Proof/Machine/EngBcd.lean ====
section
/-! DEFINITION. Multiply, divide, BCD and decimal adjust, 0xD0 to 0xDF (R154 to R158). -/

namespace Sys2Proof.Machine

/-- ( a b -- p ) with flags, 3 cycles; double products 4. -/
def mul1 (e : Nat) (ov : Bool) (f : Word → Word → Word × Flagged) : EM Unit := do
  let (a, b) ← pop2 e 1
  let (r, fl) := f a b
  pushN e [r]
  writeF e fl
  if ov then trapOv e fl
def mul2 (e : Nat) (f : Word → Word → Dbl × Flagged) : EM Unit := do
  let (a, b) ← pop2 e 2
  let (r, fl) := f a b
  pushN e [lo32 r, hi32 r]
  writeF e fl

/-- ( a b -- r q ), the quotient on top (R155). -/
def div2 (e : Nat) (f : Word → Word → (Word × Word) × Flagged) : EM Unit := do
  let (a, b) ← pop2 e 2
  let ((q, r), fl) := f a b
  pushN e [q, r]
  writeF e fl
  trapDiv e fl

/-- BCD and decimal instructions over one or two words; a double is two cells, its less significant word on top (R130). -/
def bcdWW (e : Nat) (f : Word → Word → Word × Flagged) : EM Unit := do
  let (a, b) ← pop2 e 1
  let (r, fl) := f a b
  pushN e [r]
  writeF e fl
  trapBf e fl
def bcdDD (e : Nat) (f : Dbl → Dbl → Dbl × Flagged) : EM Unit := do
  let ws ← popN e 4 2
  let (r, fl) := f (dbl (nth ws 2) (nth ws 3)) (dbl (nth ws 0) (nth ws 1))
  pushN e [lo32 r, hi32 r]
  writeF e fl
  trapBf e fl
def bcdW (e : Nat) (f : Word → Word × Flagged) : EM Unit := do
  let a ← pop1 e 1
  let (r, fl) := f a
  pushN e [r]
  writeF e fl
  trapBf e fl
  trapOv' e fl
where
  /-- V of a conversion raises Overflow (R157); the others write no V. -/
  trapOv' (e : Nat) (fl : Flagged) : EM Unit := if fl.bf then pure () else trapOv e fl
def bcdD (e : Nat) (f : Dbl → Dbl × Flagged) : EM Unit := do
  let ws ← popN e 2 2
  let (r, fl) := f (dbl (nth ws 0) (nth ws 1))
  pushN e [lo32 r, hi32 r]
  writeF e fl
  trapBf e fl
  if fl.bf then pure () else trapOv e fl

/-- A microcoded instruction of `cyc` cycles (R216). -/
def insnUc (op cyc : Nat) : Insn := { len := 1, cyc := cyc, entry := some op }

/-- MUL (R154): low word of the signed product. -/
def bodyMul (e : Nat) : EM Unit := mul1 e true mulF
def execMul (e : Eng) (s : State) : Out := .next (runInsn e.val { len := 1, cyc := 3 } (bodyMul e.val) s)

/-- MULU (R154): low word of the unsigned product. -/
def bodyMulu (e : Nat) : EM Unit := mul1 e false muluF
def execMulu (e : Eng) (s : State) : Out := .next (runInsn e.val { len := 1, cyc := 3 } (bodyMulu e.val) s)

/-- MULD (R154): signed 64-bit product. -/
def bodyMuld (e : Nat) : EM Unit := mul2 e muldF
def execMuld (e : Eng) (s : State) : Out := .next (runInsn e.val { len := 1, cyc := 4 } (bodyMuld e.val) s)

/-- MULUD (R154): unsigned 64-bit product. -/
def bodyMulud (e : Nat) : EM Unit := mul2 e muludF
def execMulud (e : Eng) (s : State) : Out := .next (runInsn e.val { len := 1, cyc := 4 } (bodyMulud e.val) s)

/-- DIVMOD (R155): signed quotient and remainder. -/
def bodyDivmod (e : Nat) : EM Unit := div2 e divF
def execDivmod (e : Eng) (s : State) : Out := .next (runInsn e.val (insnUc 0xD4 34) (bodyDivmod e.val) s)

/-- DIVMODU (R155): unsigned quotient and remainder. -/
def bodyDivmodu (e : Nat) : EM Unit := div2 e divuF
def execDivmodu (e : Eng) (s : State) : Out := .next (runInsn e.val (insnUc 0xD5 34) (bodyDivmodu e.val) s)

/-- DADJ (R158): decimal adjust of 8 digits. -/
def bodyDadj (e : Nat) : EM Unit := bcdW e (adjF 8)
def execDadj (e : Eng) (s : State) : Out := .next (runInsn e.val (insnUc 0xD6 4) (bodyDadj e.val) s)

/-- DADJD (R158): decimal adjust of 16 digits. -/
def bodyDadjd (e : Nat) : EM Unit := bcdD e (adjF 16)
def execDadjd (e : Eng) (s : State) : Out := .next (runInsn e.val (insnUc 0xD7 6) (bodyDadjd e.val) s)

/-- BADD (R156): 8-digit BCD sum. -/
def bodyBadd (e : Nat) : EM Unit := bcdWW e (bcdF false 8)
def execBadd (e : Eng) (s : State) : Out := .next (runInsn e.val (insnUc 0xD8 6) (bodyBadd e.val) s)

/-- BSUB (R156): 8-digit BCD difference. -/
def bodyBsub (e : Nat) : EM Unit := bcdWW e (bcdF true 8)
def execBsub (e : Eng) (s : State) : Out := .next (runInsn e.val (insnUc 0xD9 6) (bodyBsub e.val) s)

/-- BADDD (R156): 16-digit BCD sum. -/
def bodyBaddd (e : Nat) : EM Unit := bcdDD e (bcdF false 16)
def execBaddd (e : Eng) (s : State) : Out := .next (runInsn e.val (insnUc 0xDA 10) (bodyBaddd e.val) s)

/-- BSUBD (R156): 16-digit BCD difference. -/
def bodyBsubd (e : Nat) : EM Unit := bcdDD e (bcdF true 16)
def execBsubd (e : Eng) (s : State) : Out := .next (runInsn e.val (insnUc 0xDB 10) (bodyBsubd e.val) s)

/-- BCD2B (R157): 8 BCD digits to binary. -/
def bodyBcd2b (e : Nat) : EM Unit := bcdW e (bcdToBin 8)
def execBcd2b (e : Eng) (s : State) : Out := .next (runInsn e.val (insnUc 0xDC 12) (bodyBcd2b e.val) s)

/-- B2BCD (R157): binary to 8 BCD digits. -/
def bodyB2bcd (e : Nat) : EM Unit := bcdW e (binToBcd 8)
def execB2bcd (e : Eng) (s : State) : Out := .next (runInsn e.val (insnUc 0xDD 20) (bodyB2bcd e.val) s)

/-- BCD2BD (R157): 16 BCD digits to binary. -/
def bodyBcd2bd (e : Nat) : EM Unit := bcdD e (bcdToBin 16)
def execBcd2bd (e : Eng) (s : State) : Out := .next (runInsn e.val (insnUc 0xDE 20) (bodyBcd2bd e.val) s)

/-- B2BCDD (R157): binary to 16 BCD digits. -/
def bodyB2bcdd (e : Nat) : EM Unit := bcdD e (binToBcd 16)
def execB2bcdd (e : Eng) (s : State) : Out := .next (runInsn e.val (insnUc 0xDF 36) (bodyB2bcdd e.val) s)

end Sys2Proof.Machine
end

