-- ==== Sys2Proof/Machine/EngBit.lean ====
section
/-! DEFINITION. Bit, logic-stack and edge instructions 0x80 to 0xA7 (R174, R175). -/

namespace Sys2Proof.Machine

/-- Bit instructions (R174): the costs of R172 come with the accesses. -/
def insnBit (len : Nat) : Insn := { len := len, cyc := 1 }

/-- ( x -- f x bit ) with the bit read at an address, or ( -- bit ) where nothing is taken. -/
def bitLoad (e : Nat) (a : Word) (n : Bool) : EM Unit := do
  lskNeed e 0 1
  let b ← bRead e a
  modE e (lskPush (b ^^ n))
def bitOp (e : Nat) (a : Word) (f : Bool → Bool → Bool) : EM Unit := do
  lskNeed e 1 1
  let b ← bRead e a
  modE e fun x => lskTop (f (lskBit x 0) b) x

/-- bit := x, possibly complemented; x stays. -/
def bitStore (e : Nat) (a : Word) (n : Bool) : EM Unit := do
  lskNeed e 1 1
  let x ← getE e
  bWrite e a (lskBit x 0 ^^ n)

/-- If x = 1, bit := v; the address is checked either way (R174). -/
def bitIf (e : Nat) (a : Word) (v : Bool) : EM Unit := do
  lskNeed e 1 1
  let x ← getE e
  let p ← bitNeed e (bitAddr a) needB
  if lskBit x 0 then do
    let _ ← bitUpdate e p fun _ => v

/-- Edge detection with its edge memory (R175). -/
def edge (e : Nat) (a : Word) (rising : Bool) : EM Unit := do
  lskNeed e 1 1
  let x ← getE e
  let b := lskBit x 0
  let m ← bModify e a fun _ => b
  modE e (lskTop (if rising then b && !m else m && !b))

/-- Operations on the logic stack alone. -/
def logic2 (e : Nat) (f : Bool → Bool → Bool) : EM Unit := do
  lskNeed e 2 1
  modE e fun x => lskTop (f (lskBit x 1) (lskBit x 0)) (lskPop 1 x)
def logicBranch (e : Nat) (i : BitVec 8) (v : Bool) : EM Unit := do
  lskNeed e 1 0
  let x ← getE e
  modE e (lskPop 1)
  if lskBit x 0 == v then do
    extra e 3
    let x ← getE e
    jump e 2 (x.pc + i.signExtend 32)

/-- BLD (R174): pushes a bit. -/
def bodyBld (e : Nat) (i : Word) : EM Unit := bitLoad e i false
def execBld (e : Eng) (i : Word) (s : State) : Out := .next (runInsn e.val (insnBit 5) (bodyBld e.val i) s)

/-- BLDN (R174): pushes the complement of a bit. -/
def bodyBldn (e : Nat) (i : Word) : EM Unit := bitLoad e i true
def execBldn (e : Eng) (i : Word) (s : State) : Out := .next (runInsn e.val (insnBit 5) (bodyBldn e.val i) s)

/-- BAND (R174): x AND bit. -/
def bodyBand (e : Nat) (i : Word) : EM Unit := bitOp e i fun x b => x && b
def execBand (e : Eng) (i : Word) (s : State) : Out := .next (runInsn e.val (insnBit 5) (bodyBand e.val i) s)

/-- BANDN (R174): x AND NOT bit. -/
def bodyBandn (e : Nat) (i : Word) : EM Unit := bitOp e i fun x b => x && !b
def execBandn (e : Eng) (i : Word) (s : State) : Out := .next (runInsn e.val (insnBit 5) (bodyBandn e.val i) s)

/-- BOR (R174): x OR bit. -/
def bodyBor (e : Nat) (i : Word) : EM Unit := bitOp e i fun x b => x || b
def execBor (e : Eng) (i : Word) (s : State) : Out := .next (runInsn e.val (insnBit 5) (bodyBor e.val i) s)

/-- BORN (R174): x OR NOT bit. -/
def bodyBorn (e : Nat) (i : Word) : EM Unit := bitOp e i fun x b => x || !b
def execBorn (e : Eng) (i : Word) (s : State) : Out := .next (runInsn e.val (insnBit 5) (bodyBorn e.val i) s)

/-- BXOR (R174): x XOR bit. -/
def bodyBxor (e : Nat) (i : Word) : EM Unit := bitOp e i fun x b => x ^^ b
def execBxor (e : Eng) (i : Word) (s : State) : Out := .next (runInsn e.val (insnBit 5) (bodyBxor e.val i) s)

/-- BXORN (R174): x XOR NOT bit. -/
def bodyBxorn (e : Nat) (i : Word) : EM Unit := bitOp e i fun x b => x ^^ !b
def execBxorn (e : Eng) (i : Word) (s : State) : Out := .next (runInsn e.val (insnBit 5) (bodyBxorn e.val i) s)

/-- BST (R174): bit := x. -/
def bodyBst (e : Nat) (i : Word) : EM Unit := bitStore e i false
def execBst (e : Eng) (i : Word) (s : State) : Out := .next (runInsn e.val (insnBit 5) (bodyBst e.val i) s)

/-- BSTN (R174): bit := NOT x. -/
def bodyBstn (e : Nat) (i : Word) : EM Unit := bitStore e i true
def execBstn (e : Eng) (i : Word) (s : State) : Out := .next (runInsn e.val (insnBit 5) (bodyBstn e.val i) s)

/-- BSET (R174): if x = 1, bit := 1. -/
def bodyBset (e : Nat) (i : Word) : EM Unit := bitIf e i true
def execBset (e : Eng) (i : Word) (s : State) : Out := .next (runInsn e.val (insnBit 5) (bodyBset e.val i) s)

/-- BRST (R174): if x = 1, bit := 0. -/
def bodyBrst (e : Nat) (i : Word) : EM Unit := bitIf e i false
def execBrst (e : Eng) (i : Word) (s : State) : Out := .next (runInsn e.val (insnBit 5) (bodyBrst e.val i) s)

/-- BLDS (R174): pushes a bit at a popped address. -/
def bodyBlds (e : Nat) : EM Unit := do
  let a ← pop1 e 0
  bitLoad e a false
def execBlds (e : Eng) (s : State) : Out := .next (runInsn e.val (insnBit 1) (bodyBlds e.val) s)

/-- BSTS (R174): bit at a popped address := x. -/
def bodyBsts (e : Nat) : EM Unit := do
  let a ← pop1 e 0
  bitStore e a false
def execBsts (e : Eng) (s : State) : Out := .next (runInsn e.val (insnBit 1) (bodyBsts e.val) s)

/-- BANDS (R174): x AND the bit at a popped address. -/
def bodyBands (e : Nat) : EM Unit := do
  let a ← pop1 e 0
  bitOp e a fun x b => x && b
def execBands (e : Eng) (s : State) : Out := .next (runInsn e.val (insnBit 1) (bodyBands e.val) s)

/-- BORS (R174): x OR the bit at a popped address. -/
def bodyBors (e : Nat) : EM Unit := do
  let a ← pop1 e 0
  bitOp e a fun x b => x || b
def execBors (e : Eng) (s : State) : Out := .next (runInsn e.val (insnBit 1) (bodyBors e.val) s)

/-- SETB (R174): bit := 1. -/
def bodySetb (e : Nat) (i : Word) : EM Unit := bWrite e i true
def execSetb (e : Eng) (i : Word) (s : State) : Out := .next (runInsn e.val (insnBit 5) (bodySetb e.val i) s)

/-- CLRB (R174): bit := 0. -/
def bodyClrb (e : Nat) (i : Word) : EM Unit := bWrite e i false
def execClrb (e : Eng) (i : Word) (s : State) : Out := .next (runInsn e.val (insnBit 5) (bodyClrb e.val i) s)

/-- INVB (R174): bit := NOT bit. -/
def bodyInvb (e : Nat) (i : Word) : EM Unit := do
  let _ ← bModify e i fun b => !b
def execInvb (e : Eng) (i : Word) (s : State) : Out := .next (runInsn e.val (insnBit 5) (bodyInvb e.val i) s)

/-- TASB (R174): pushes the old bit; bit := 1. -/
def bodyTasb (e : Nat) (i : Word) : EM Unit := do
  lskNeed e 0 1
  let b ← bModify e i fun _ => true
  modE e (lskPush b)
def execTasb (e : Eng) (i : Word) (s : State) : Out := .next (runInsn e.val (insnBit 5) (bodyTasb e.val i) s)

/-- BRDC (R174): ( a -- f ). -/
def bodyBrdc (e : Nat) : EM Unit := do
  let a ← pop1 e 1
  let b ← bRead e a
  pushN e [b2w b]
def execBrdc (e : Eng) (s : State) : Out := .next (runInsn e.val (insnBit 1) (bodyBrdc e.val) s)

/-- BWRC (R174): ( f a -- ); bit := f[0]. -/
def bodyBwrc (e : Nat) : EM Unit := do
  let (f, a) ← pop2 e 0
  bWrite e a (bit f 0)
def execBwrc (e : Eng) (s : State) : Out := .next (runInsn e.val (insnBit 1) (bodyBwrc e.val) s)

/-- BRDW (R174): ( a -- x ), the 32 bits from a. -/
def bodyBrdw (e : Nat) : EM Unit := do
  let a ← pop1 e 1
  let v ← bitSpanRead e (← bitSpan e a needR)
  pushN e [v]
def execBrdw (e : Eng) (s : State) : Out := .next (runInsn e.val (insnBit 1) (bodyBrdw e.val) s)

/-- BWRW (R174): ( x a -- ), the 32 bits from a. -/
def bodyBwrw (e : Nat) : EM Unit := do
  let (x, a) ← pop2 e 0
  bitSpanWrite e (← bitSpan e a needB) x
def execBwrw (e : Eng) (s : State) : Out := .next (runInsn e.val (insnBit 1) (bodyBwrw e.val) s)

/-- LAND (R174): x AND y. -/
def bodyLand (e : Nat) : EM Unit := logic2 e fun x y => x && y
def execLand (e : Eng) (s : State) : Out := .next (runInsn e.val (insnBit 1) (bodyLand e.val) s)

/-- LOR (R174): x OR y. -/
def bodyLor (e : Nat) : EM Unit := logic2 e fun x y => x || y
def execLor (e : Eng) (s : State) : Out := .next (runInsn e.val (insnBit 1) (bodyLor e.val) s)

/-- LXOR (R174): x XOR y. -/
def bodyLxor (e : Nat) : EM Unit := logic2 e fun x y => x ^^ y
def execLxor (e : Eng) (s : State) : Out := .next (runInsn e.val (insnBit 1) (bodyLxor e.val) s)

/-- LNOT (R174): NOT x. -/
def bodyLnot (e : Nat) : EM Unit := do
  lskNeed e 1 1
  modE e fun x => lskTop (!lskBit x 0) x
def execLnot (e : Eng) (s : State) : Out := .next (runInsn e.val (insnBit 1) (bodyLnot e.val) s)

/-- LDUP (R174): ( x -- x x ). -/
def bodyLdup (e : Nat) : EM Unit := do
  lskNeed e 1 2
  modE e fun x => lskPush (lskBit x 0) x
def execLdup (e : Eng) (s : State) : Out := .next (runInsn e.val (insnBit 1) (bodyLdup e.val) s)

/-- LDROP (R174): ( x -- ). -/
def bodyLdrop (e : Nat) : EM Unit := do
  lskNeed e 1 0
  modE e (lskPop 1)
def execLdrop (e : Eng) (s : State) : Out := .next (runInsn e.val (insnBit 1) (bodyLdrop e.val) s)

/-- LSWAP (R174): ( x y -- y x ). -/
def bodyLswap (e : Nat) : EM Unit := do
  lskNeed e 2 2
  modE e fun x => lskPush (lskBit x 1) (lskTop (lskBit x 0) (lskPop 1 x))
def execLswap (e : Eng) (s : State) : Out := .next (runInsn e.val (insnBit 1) (bodyLswap e.val) s)

/-- LCLR (R174): LSKD := 0. -/
def bodyLclr (e : Nat) : EM Unit := modE e fun x => { x with lskd := 0 }
def execLclr (e : Eng) (s : State) : Out := .next (runInsn e.val (insnBit 1) (bodyLclr e.val) s)

/-- LPUSH (R174): ( f -- ), pushes f[0]. -/
def bodyLpush (e : Nat) : EM Unit := do
  let f ← pop1 e 0
  lskNeed e 0 1
  modE e (lskPush (bit f 0))
def execLpush (e : Eng) (s : State) : Out := .next (runInsn e.val (insnBit 1) (bodyLpush e.val) s)

/-- LPOP (R174): ( -- f ). -/
def bodyLpop (e : Nat) : EM Unit := do
  lskNeed e 1 0
  let _ ← popN e 0 1
  let x ← getE e
  modE e (lskPop 1)
  pushN e [b2w (lskBit x 0)]
def execLpop (e : Eng) (s : State) : Out := .next (runInsn e.val (insnBit 1) (bodyLpop e.val) s)

/-- LBZ (R174): branches if the popped bit is 0. -/
def bodyLbz (e : Nat) (i : BitVec 8) : EM Unit := logicBranch e i false
def execLbz (e : Eng) (i : BitVec 8) (s : State) : Out := .next (runInsn e.val (insnBit 2) (bodyLbz e.val i) s)

/-- LBNZ (R174): branches if the popped bit is 1. -/
def bodyLbnz (e : Nat) (i : BitVec 8) : EM Unit := logicBranch e i true
def execLbnz (e : Eng) (i : BitVec 8) (s : State) : Out := .next (runInsn e.val (insnBit 2) (bodyLbnz e.val i) s)

/-- EDGR (R174): rising edge. -/
def bodyEdgr (e : Nat) (i : Word) : EM Unit := edge e i true
def execEdgr (e : Eng) (i : Word) (s : State) : Out := .next (runInsn e.val (insnBit 5) (bodyEdgr e.val i) s)

/-- EDGF (R174): falling edge. -/
def bodyEdgf (e : Nat) (i : Word) : EM Unit := edge e i false
def execEdgf (e : Eng) (i : Word) (s : State) : Out := .next (runInsn e.val (insnBit 5) (bodyEdgf e.val i) s)

/-- EDGRS (R174): rising edge, popped address. -/
def bodyEdgrs (e : Nat) : EM Unit := do
  let a ← pop1 e 0
  edge e a true
def execEdgrs (e : Eng) (s : State) : Out := .next (runInsn e.val (insnBit 1) (bodyEdgrs e.val) s)

/-- EDGFS (R174): falling edge, popped address. -/
def bodyEdgfs (e : Nat) : EM Unit := do
  let a ← pop1 e 0
  edge e a false
def execEdgfs (e : Eng) (s : State) : Out := .next (runInsn e.val (insnBit 1) (bodyEdgfs e.val) s)

end Sys2Proof.Machine
end

