-- ==== Sys2Proof/Machine/EngBlock.lean ====
section
/-! DEFINITION. Block and string operations 0xC0 to 0xCC and the prefixes (R181 to R189). -/

namespace Sys2Proof.Machine

/-- Pointer updates (R181). -/
def advance (e : Nat) (src dst : Word) : EM Unit := modE e fun x => { x with srcp := x.srcp + src, dstp := x.dstp + dst }

/-- Move, store and compare elements (R181); `n` the element size in bytes. -/
def elMove (e n : Nat) (step : Word) : EM Unit := do
  let x ← getE e
  extra e 1
  let v ← load e x.srcp n
  store e x.dstp n v
  advance e step step
def elStore (e n : Nat) (v : Word) : EM Unit := do
  let x ← getE e
  extra e 1
  store e x.dstp n v
  advance e 0 (BitVec.ofNat 32 n)
def elCompare (e n : Nat) : EM Unit := do
  let x ← getE e
  extra e 1
  let a ← load e x.srcp n
  let b ← load e x.dstp n
  writeF e (subF a b false).2
  advance e (BitVec.ofNat 32 n) (BitVec.ofNat 32 n)
def elScan (e n : Nat) (v : Word) : EM Unit := do
  let x ← getE e
  extra e 1
  let a ← load e x.dstp n
  writeF e (subF a (if n = 1 then v &&& 0xFF#32 else v) false).2
  advance e 0 (BitVec.ofNat 32 n)
def elBitMove (e : Nat) : EM Unit := do
  let x ← getE e
  extra e 2
  let b ← bRead e x.srcp
  bWrite e x.dstp b
  advance e 1 1
def elBitStore (e : Nat) (f : Word) : EM Unit := do
  let x ← getE e
  extra e 1
  bWrite e x.dstp (bit f 0)
  advance e 0 1

/-- One element of opcode 0xC0 to 0xCA with the held operand (R181, R182). -/
def blockElem (e op : Nat) (v : Word) : EM Unit :=
  match op with
  | 0xC0 => elMove e 1 1
  | 0xC1 => elMove e 4 4
  | 0xC2 => elMove e 4 (0 - 4)
  | 0xC3 => elStore e 1 v
  | 0xC4 => elStore e 4 v
  | 0xC5 => elCompare e 1
  | 0xC6 => elCompare e 4
  | 0xC7 => elScan e 1 v
  | 0xC8 => elScan e 4 v
  | 0xC9 => elBitMove e
  | 0xCA => elBitStore e v
  | _ => raise vIllegal

/-- Opcodes that hold an operand (R182). -/
def blockHolds (op : Nat) : Bool := decide (op = 0xC3 ∨ op = 0xC4 ∨ op = 0xC7 ∨ op = 0xC8 ∨ op = 0xCA)

/-- An unprefixed block instruction: one element (R181). -/
def blockOnce (e op : Nat) : EM Unit := do
  let v ← if blockHolds op then pop1 e 0 else pure 0
  blockElem e op v
def insnBlock (op : Nat) : Insn := { len := 1, cyc := 2, entry := some op }

/-- XCHW and ADDW over the checked word (R181, R186). -/
def swapWord (e : Nat) (a : Word) (f : Word → Word) : EM Unit := do
  let y ← readRaw e a.toNat 4
  writeRaw e a.toNat 4 (f y)
  pushN e [y]
def rmwWord (e : Nat) (f : Word → Word → Word) : EM Unit := do
  let (x, a) ← pop2 e 1
  checkAccess e a.toNat 4 (needR + needW) [1, 2, 3]
  swapWord e a (f x)

/-- The LOCK form: strictly aligned, in a tarn or Pond only (R134, R186). -/
def lockWord (e : Nat) (f : Word → Word → Word) : EM Unit := do
  let (x, a) ← pop2 e 1
  checkStrict e a.toNat (needR + needW) [1, 2, 3]
  let s ← get
  match placeOf a.toNat with
  | .outer => raise vData (some (mkDenial (engReq s e) (tcodeOf s a.toNat) (needR + needW) spData false a.toNat))
  | _ => swapWord e a (f x)

/-! ### Lengths and prefixes (R143, R183 to R185) -/

/-- Bytes of an instruction by its first byte (R143, R145). -/
def insnLen (op : Nat) : Nat :=
  if [0x08, 0x0C, 0x31, 0x32, 0x33, 0x34, 0x60, 0x68, 0x69, 0xA2, 0xA3, 0xE8, 0xEB, 0xEC, 0xF0].contains op then 2
  else if 0x6C ≤ op ∧ op ≤ 0x7A then 2
  else if [0x0D, 0x0F, 0x4E, 0x4F, 0x50, 0x51, 0x52, 0x53, 0x58, 0x59, 0x61, 0x64, 0x6A, 0x6B, 0xEA].contains op then 3
  else if [0x0E, 0x4A, 0x4B, 0x4C, 0x4D, 0x62, 0x65, 0x90, 0x91, 0x92, 0x93, 0xA4, 0xA5].contains op then 5
  else if 0x80 ≤ op ∧ op ≤ 0x8B then 5
  else 1

/-- Opcodes that each prefix accepts (R184). -/
def repAccepts (op : Nat) : Bool := [0xC0, 0xC1, 0xC2, 0xC3, 0xC4, 0xC9, 0xCA].contains op
def repzAccepts (op : Nat) : Bool := [0xC5, 0xC6, 0xC7, 0xC8].contains op
def lockAccepts (op : Nat) : Bool := decide (op = 0xCB ∨ op = 0xCC)

/-! ### Ranges (R188) -/

/-- Bytes `[lo, lo + n)` within one target, every element granted; the denial otherwise. -/
def rangeDenied (s : State) (e need lo n : Nat) : Option Denial :=
  let hi := lo + n - 1
  let no := some (mkDenial (engReq s e) (tcodeOf s lo) need spData false lo)
  let same := match placeOf lo, placeOf hi with
    | .outer, .outer => decide (tcodeOf s lo = tcodeOf s hi)
    | .tarn t _, .tarn t' _ => decide (t = t')
    | .pond _, .pond _ => true
    | .none, .none => true
    | _, _ => false
  if hi ≥ 2 ^ 32 || !same then no
  else
    match engCheck s e lo need with
    | some d => some d
    | none =>
      match engCheck s e hi need with
      | some d => some d
      | none =>
        if hasBits need needW && decide (e < 32) && ((eng s e).xr.any fun r => decide (r.base ≤ hi / 64 ∧ lo / 64 ≤ r.limit)) then no
        else none

/-- Bits `[lo, lo + n)` within one B-space window. -/
def bitRangeDenied (s : State) (e need lo n : Nat) : Option Denial :=
  match bitCheck s e lo need, bitCheck s e (lo + n - 1) need with
  | .error d, _ => some d
  | _, .error d => some d
  | .ok (_, p), .ok (_, p') => if sameWindow p p' then none else some (mkDenial (engReq s e) 0xFF need spBit false lo)

/-- The range checks of a repeated instruction with `n` elements remaining. -/
def repRange (s : State) (e op n : Nat) : Option Denial :=
  let x := eng s e
  let src := x.srcp.toNat
  let dst := x.dstp.toNat
  let two (a b : Option Denial) : Option Denial := match a with | some d => some d | none => b
  let down (p : Nat) (need : Nat) : Option Denial :=
    if p < (n - 1) * 4 then some (mkDenial (engReq s e) (tcodeOf s p) need spData false p) else rangeDenied s e need (p - (n - 1) * 4) (n * 4)
  match op with
  | 0xC0 => two (rangeDenied s e needR src n) (rangeDenied s e needW dst n)
  | 0xC1 => two (rangeDenied s e needR src (4 * n)) (rangeDenied s e needW dst (4 * n))
  | 0xC2 => two (down src needR) (down dst needW)
  | 0xC3 => rangeDenied s e needW dst n
  | 0xC4 => rangeDenied s e needW dst (4 * n)
  | 0xC5 => two (rangeDenied s e needR src n) (rangeDenied s e needR dst n)
  | 0xC6 => two (rangeDenied s e needR src (4 * n)) (rangeDenied s e needR dst (4 * n))
  | 0xC7 => rangeDenied s e needR dst n
  | 0xC8 => rangeDenied s e needR dst (4 * n)
  | 0xC9 => two (bitRangeDenied s e needR (src % 2 ^ 24) n) (bitRangeDenied s e needB (dst % 2 ^ 24) n)
  | _ => bitRangeDenied s e needB (dst % 2 ^ 24) n

/-- Word elements with a misaligned pointer. -/
def repMisaligned (x : Engine) (op : Nat) : Bool :=
  let s := decide (x.srcp.toNat % 4 ≠ 0)
  let d := decide (x.dstp.toNat % 4 ≠ 0)
  if op = 0xC1 ∨ op = 0xC2 ∨ op = 0xC6 then s || d else if op = 0xC4 ∨ op = 0xC8 then d else false

/-! ### Repetition (R187, R189) -/

/-- How the loop of a repeated instruction ends. -/
inductive RepEnd where
  | finished
  | resumable
  | stopped (st : Stop)

/-- An interrupt the engine would take, a Weir stop or a debug halt is pending (R187). -/
def repPending (s : State) (e : Nat) : Bool :=
  (bit (eng s e).stat stIE && (icuLine s e).isSome) ||
  (decide (e < 32) && (tripped s (e / 2) || (grv s (e / 2)).haltReq))

/-- The loop: `zEnd` is the Z value that ends a REPZ or REPNZ; `fuel` the elements left; `k` the element counter. -/
def repLoop (e : Nat) (el : EM Unit) (zEnd : Option Bool) : Nat → Nat → State → State × RepEnd
  | 0, _, s => (s, .finished)
  | fuel + 1, k, s =>
    match el.run s with
    | .error st => (s, .stopped st)
    | .ok (_, s) =>
      let s := putEng s e { eng s e with rcnt := (eng s e).rcnt - 1 }
      if (eng s e).rcnt = 0 then (s, .finished)
      else if zEnd = some (bit (eng s e).stat stZ) then (s, .finished)
      else if k = 15 then
        if repPending s e then (s, .resumable) else repLoop e el zEnd fuel 0 s
      else repLoop e el zEnd fuel (k + 1) s

/-- Entry of a repeated instruction: comparators, fetch, decode, microcode, 4 cycles, the held operand, the range check. -/
def repEntry (e op : Nat) (ok : Bool) : EM Word := do
  let s ← get
  let x ← getE e
  applyHits e (cmpHits s e [0] x.pc.toNat)
  fetchInsn e x.pc (1 + insnLen op)
  if !ok then raise vIllegal
  ucEnter e (some op)
  extra e 4
  let v ← if blockHolds op then (do
      let x ← getE e
      if x.ddepth = 0 then raise vStack
      fillTo e 1
      let x ← getE e
      pure (nth x.cells 0))
    else pure 0
  let x ← getE e
  if x.rcnt = 0 then pure v
  else do
    if repMisaligned x op && bit x.trapen 3 then raise vAlign
    let s ← get
    match repRange s e op x.rcnt.toNat with
    | some d => raise vData (some d)
    | none => pure v

/-- The engine after a repeated instruction has finished: the held operand popped, RPA 0, PC past it. -/
def repFinish (x : Engine) (op : Nat) : Engine :=
  let x := if blockHolds op then { x with cells := x.cells.drop 1, ddepth := x.ddepth - 1 } else x
  { x with pc := x.pc + 2#32, stat := putBit x.stat stRPA false, foldAt := none }

/-- Run a REP, REPZ or REPNZ instruction from entry to its end, a resumable point or a stop. -/
def runRep (e op : Nat) (ok : Bool) (zEnd : Option Bool) (s : State) : State :=
  if !canIssue s e then s
  else if (eng s e).dueTrap.isSome then mirror (takeTrap s e) e
  else
    match (repEntry e op ok).run s with
    | .error st => finish s e (.error st)
    | .ok (v, s1) =>
      let n := (eng s1 e).rcnt
      match repLoop e (blockElem e op v) zEnd n.toNat 0 s1 with
      | (s2, .finished) => afterRetire (putEng s2 e (repFinish (eng s2 e) op)) e
      | (s2, .resumable) =>
        let x := eng s2 e
        mirror (stepDone (putEng s2 e { x with stat := putBit x.stat stRPA true, foldAt := none }) e) e
      | (s2, .stopped st) =>
        let x := eng s2 e
        let s2 := if x.rcnt = n then s2 else putEng s2 e { x with stat := putBit x.stat stRPA true }
        finish s2 e (.error st)

/-- REP (R187): repeats a move or store RCNT times; any other pairing is Illegal (R184, R185). -/
def execRep (e : Eng) (op : Byte) (_imm : Word) (s : State) : Out :=
  .next (runRep e.val op.toNat (repAccepts op.toNat) none s)
/-- REPZ (R187): repeats a compare or scan while Z = 1. -/
def execRepz (e : Eng) (op : Byte) (_imm : Word) (s : State) : Out :=
  .next (runRep e.val op.toNat (repzAccepts op.toNat) (some false) s)
/-- REPNZ (R187): repeats a compare or scan while Z = 0. -/
def execRepnz (e : Eng) (op : Byte) (_imm : Word) (s : State) : Out :=
  .next (runRep e.val op.toNat (repzAccepts op.toNat) (some true) s)

/-- LOCK (R186): XCHW or ADDW as one indivisible access. -/
def bodyLock (e : Nat) (op : Nat) : EM Unit :=
  if op = 0xCB then lockWord e fun x _ => x
  else if op = 0xCC then lockWord e fun x y => y + x
  else raise vIllegal
def execLock (e : Eng) (op : Byte) (_imm : Word) (s : State) : Out :=
  .next (runInsn e.val { len := 1 + insnLen op.toNat, cyc := 2,
                         entry := if lockAccepts op.toNat then some op.toNat else none } (bodyLock e.val op.toNat) s)

/-- MOVB (R181): one element. -/
def bodyMovb (e : Nat) : EM Unit := blockOnce e 0xC0
def execMovb (e : Eng) (s : State) : Out := .next (runInsn e.val (insnBlock 0xC0) (bodyMovb e.val) s)

/-- MOVW (R181): one element. -/
def bodyMovw (e : Nat) : EM Unit := blockOnce e 0xC1
def execMovw (e : Eng) (s : State) : Out := .next (runInsn e.val (insnBlock 0xC1) (bodyMovw e.val) s)

/-- MOVWD (R181): one element. -/
def bodyMovwd (e : Nat) : EM Unit := blockOnce e 0xC2
def execMovwd (e : Eng) (s : State) : Out := .next (runInsn e.val (insnBlock 0xC2) (bodyMovwd e.val) s)

/-- STOB (R181): one element. -/
def bodyStob (e : Nat) : EM Unit := blockOnce e 0xC3
def execStob (e : Eng) (s : State) : Out := .next (runInsn e.val (insnBlock 0xC3) (bodyStob e.val) s)

/-- STOW (R181): one element. -/
def bodyStow (e : Nat) : EM Unit := blockOnce e 0xC4
def execStow (e : Eng) (s : State) : Out := .next (runInsn e.val (insnBlock 0xC4) (bodyStow e.val) s)

/-- CMPB (R181): one element. -/
def bodyCmpb (e : Nat) : EM Unit := blockOnce e 0xC5
def execCmpb (e : Eng) (s : State) : Out := .next (runInsn e.val (insnBlock 0xC5) (bodyCmpb e.val) s)

/-- CMPW (R181): one element. -/
def bodyCmpw (e : Nat) : EM Unit := blockOnce e 0xC6
def execCmpw (e : Eng) (s : State) : Out := .next (runInsn e.val (insnBlock 0xC6) (bodyCmpw e.val) s)

/-- SCAB (R181): one element. -/
def bodyScab (e : Nat) : EM Unit := blockOnce e 0xC7
def execScab (e : Eng) (s : State) : Out := .next (runInsn e.val (insnBlock 0xC7) (bodyScab e.val) s)

/-- SCAW (R181): one element. -/
def bodyScaw (e : Nat) : EM Unit := blockOnce e 0xC8
def execScaw (e : Eng) (s : State) : Out := .next (runInsn e.val (insnBlock 0xC8) (bodyScaw e.val) s)

/-- BMOV (R181): one element. -/
def bodyBmov (e : Nat) : EM Unit := blockOnce e 0xC9
def execBmov (e : Eng) (s : State) : Out := .next (runInsn e.val (insnBlock 0xC9) (bodyBmov e.val) s)

/-- BSTO (R181): one element. -/
def bodyBsto (e : Nat) : EM Unit := blockOnce e 0xCA
def execBsto (e : Eng) (s : State) : Out := .next (runInsn e.val (insnBlock 0xCA) (bodyBsto e.val) s)

/-- XCHW (R181): ( x a -- y ), mem[a] := x. -/
def bodyXchw (e : Nat) : EM Unit := rmwWord e fun x _ => x
def execXchw (e : Eng) (s : State) : Out := .next (runInsn e.val (insnBlock 0xCB) (bodyXchw e.val) s)

/-- ADDW (R181): ( x a -- y ), mem[a] := y + x. -/
def bodyAddw (e : Nat) : EM Unit := rmwWord e fun x y => y + x
def execAddw (e : Eng) (s : State) : Out := .next (runInsn e.val (insnBlock 0xCC) (bodyAddw e.val) s)

end Sys2Proof.Machine
end

