-- ==== Sys2Proof/Machine/EngFlow.lean ====
section
/-! DEFINITION. Control-flow instructions 0x60 to 0x7A (R163, R164). -/

namespace Sys2Proof.Machine

/-- Control transfers: 1 cycle untaken, 4 taken, 5 indirect (R163). -/
def insnBr (len : Nat) : Insn := { len := len, cyc := 1 }

/-- Branch displacement from the following instruction (R144). -/
def branchIf (e len : Nat) (c : Bool) (d : Word) : EM Unit := do
  if c then do
    extra e 3
    let x ← getE e
    jump e len (x.pc + d)

/-- A branch on flags. -/
def flagBranch (e : Nat) (i : BitVec 8) (c : Word → Bool) : EM Unit := do
  let x ← getE e
  branchIf e 2 (c x.stat) (i.signExtend 32)

/-- Push the return address and transfer (R164). -/
def callTo (e len cyc : Nat) (dst : Word → Word) : EM Unit := do
  let x ← getE e
  pushRet e x.pc
  extra e cyc
  jump e len (dst x.pc)

/-- BRA (R163): branches always. -/
def bodyBra (e : Nat) (i : BitVec 8) : EM Unit := branchIf e 2 true (i.signExtend 32)
def execBra (e : Eng) (i : BitVec 8) (s : State) : Out := .next (runInsn e.val (insnBr 2) (bodyBra e.val i) s)

/-- BRAL (R163): branches always, d16. -/
def bodyBral (e : Nat) (i : BitVec 16) : EM Unit := branchIf e 3 true (i.signExtend 32)
def execBral (e : Eng) (i : BitVec 16) (s : State) : Out := .next (runInsn e.val (insnBr 3) (bodyBral e.val i) s)

/-- JMP (R163): to i32. -/
def bodyJmp (e : Nat) (i : Word) : EM Unit := do
  extra e 3
  jump e 5 i
def execJmp (e : Eng) (i : Word) (s : State) : Out := .next (runInsn e.val (insnBr 5) (bodyJmp e.val i) s)

/-- JMPS (R163): to a popped address. -/
def bodyJmps (e : Nat) : EM Unit := do
  let a ← pop1 e 0
  extra e 4
  jump e 1 a
def execJmps (e : Eng) (s : State) : Out := .next (runInsn e.val (insnBr 1) (bodyJmps e.val) s)

/-- CALL (R163): pushes the return address and branches. -/
def bodyCall (e : Nat) (i : BitVec 16) : EM Unit := callTo e 3 3 fun pc => pc + i.signExtend 32
def execCall (e : Eng) (i : BitVec 16) (s : State) : Out := .next (runInsn e.val (insnBr 3) (bodyCall e.val i) s)

/-- CALLA (R163): pushes the return address and goes to i32. -/
def bodyCalla (e : Nat) (i : Word) : EM Unit := callTo e 5 3 fun _ => i
def execCalla (e : Eng) (i : Word) (s : State) : Out := .next (runInsn e.val (insnBr 5) (bodyCalla e.val i) s)

/-- CALLS (R163): pushes the return address and goes to a popped address. -/
def bodyCalls (e : Nat) : EM Unit := do
  let a ← pop1 e 0
  callTo e 1 4 fun _ => a
def execCalls (e : Eng) (s : State) : Out := .next (runInsn e.val (insnBr 1) (bodyCalls e.val) s)

/-- RET (R163): pops the return address and transfers. -/
def bodyRet (e : Nat) : EM Unit := do
  let r ← popRet e
  extra e 3
  jump e 1 r
def execRet (e : Eng) (s : State) : Out := .next (runInsn e.val (insnBr 1) (bodyRet e.val) s)

/-- BZ (R163): if a popped cell is 0. -/
def bodyBz (e : Nat) (i : BitVec 8) : EM Unit := do
  let f ← pop1 e 0
  branchIf e 2 (decide (f = 0)) (i.signExtend 32)
def execBz (e : Eng) (i : BitVec 8) (s : State) : Out := .next (runInsn e.val (insnBr 2) (bodyBz e.val i) s)

/-- BNZ (R163): if a popped cell is not 0. -/
def bodyBnz (e : Nat) (i : BitVec 8) : EM Unit := do
  let f ← pop1 e 0
  branchIf e 2 (decide (f ≠ 0)) (i.signExtend 32)
def execBnz (e : Eng) (i : BitVec 8) (s : State) : Out := .next (runInsn e.val (insnBr 2) (bodyBnz e.val i) s)

/-- BZL (R163): if a popped cell is 0, d16. -/
def bodyBzl (e : Nat) (i : BitVec 16) : EM Unit := do
  let f ← pop1 e 0
  branchIf e 3 (decide (f = 0)) (i.signExtend 32)
def execBzl (e : Eng) (i : BitVec 16) (s : State) : Out := .next (runInsn e.val (insnBr 3) (bodyBzl e.val i) s)

/-- BNZL (R163): if a popped cell is not 0, d16. -/
def bodyBnzl (e : Nat) (i : BitVec 16) : EM Unit := do
  let f ← pop1 e 0
  branchIf e 3 (decide (f ≠ 0)) (i.signExtend 32)
def execBnzl (e : Eng) (i : BitVec 16) (s : State) : Out := .next (runInsn e.val (insnBr 3) (bodyBnzl e.val i) s)

/-- BEQ (R163): Z = 1. -/
def bodyBeq (e : Nat) (i : BitVec 8) : EM Unit := flagBranch e i fun st => bit st stZ
def execBeq (e : Eng) (i : BitVec 8) (s : State) : Out := .next (runInsn e.val (insnBr 2) (bodyBeq e.val i) s)

/-- BNE (R163): Z = 0. -/
def bodyBne (e : Nat) (i : BitVec 8) : EM Unit := flagBranch e i fun st => !bit st stZ
def execBne (e : Eng) (i : BitVec 8) (s : State) : Out := .next (runInsn e.val (insnBr 2) (bodyBne e.val i) s)

/-- BCS (R163): C = 1. -/
def bodyBcs (e : Nat) (i : BitVec 8) : EM Unit := flagBranch e i fun st => bit st stC
def execBcs (e : Eng) (i : BitVec 8) (s : State) : Out := .next (runInsn e.val (insnBr 2) (bodyBcs e.val i) s)

/-- BCC (R163): C = 0. -/
def bodyBcc (e : Nat) (i : BitVec 8) : EM Unit := flagBranch e i fun st => !bit st stC
def execBcc (e : Eng) (i : BitVec 8) (s : State) : Out := .next (runInsn e.val (insnBr 2) (bodyBcc e.val i) s)

/-- BMI (R163): N = 1. -/
def bodyBmi (e : Nat) (i : BitVec 8) : EM Unit := flagBranch e i fun st => bit st stN
def execBmi (e : Eng) (i : BitVec 8) (s : State) : Out := .next (runInsn e.val (insnBr 2) (bodyBmi e.val i) s)

/-- BPL (R163): N = 0. -/
def bodyBpl (e : Nat) (i : BitVec 8) : EM Unit := flagBranch e i fun st => !bit st stN
def execBpl (e : Eng) (i : BitVec 8) (s : State) : Out := .next (runInsn e.val (insnBr 2) (bodyBpl e.val i) s)

/-- BVS (R163): V = 1. -/
def bodyBvs (e : Nat) (i : BitVec 8) : EM Unit := flagBranch e i fun st => bit st stV
def execBvs (e : Eng) (i : BitVec 8) (s : State) : Out := .next (runInsn e.val (insnBr 2) (bodyBvs e.val i) s)

/-- BVC (R163): V = 0. -/
def bodyBvc (e : Nat) (i : BitVec 8) : EM Unit := flagBranch e i fun st => !bit st stV
def execBvc (e : Eng) (i : BitVec 8) (s : State) : Out := .next (runInsn e.val (insnBr 2) (bodyBvc e.val i) s)

/-- BLT (R163): N ≠ V. -/
def bodyBlt (e : Nat) (i : BitVec 8) : EM Unit := flagBranch e i fun st => bit st stN != bit st stV
def execBlt (e : Eng) (i : BitVec 8) (s : State) : Out := .next (runInsn e.val (insnBr 2) (bodyBlt e.val i) s)

/-- BGE (R163): N = V. -/
def bodyBge (e : Nat) (i : BitVec 8) : EM Unit := flagBranch e i fun st => bit st stN == bit st stV
def execBge (e : Eng) (i : BitVec 8) (s : State) : Out := .next (runInsn e.val (insnBr 2) (bodyBge e.val i) s)

/-- BLE (R163): Z = 1 or N ≠ V. -/
def bodyBle (e : Nat) (i : BitVec 8) : EM Unit := flagBranch e i fun st => bit st stZ || (bit st stN != bit st stV)
def execBle (e : Eng) (i : BitVec 8) (s : State) : Out := .next (runInsn e.val (insnBr 2) (bodyBle e.val i) s)

/-- BGT (R163): Z = 0 and N = V. -/
def bodyBgt (e : Nat) (i : BitVec 8) : EM Unit := flagBranch e i fun st => !bit st stZ && (bit st stN == bit st stV)
def execBgt (e : Eng) (i : BitVec 8) (s : State) : Out := .next (runInsn e.val (insnBr 2) (bodyBgt e.val i) s)

/-- BHI (R163): C = 0 and Z = 0. -/
def bodyBhi (e : Nat) (i : BitVec 8) : EM Unit := flagBranch e i fun st => !bit st stC && !bit st stZ
def execBhi (e : Eng) (i : BitVec 8) (s : State) : Out := .next (runInsn e.val (insnBr 2) (bodyBhi e.val i) s)

/-- BLS (R163): C = 1 or Z = 1. -/
def bodyBls (e : Nat) (i : BitVec 8) : EM Unit := flagBranch e i fun st => bit st stC || bit st stZ
def execBls (e : Eng) (i : BitVec 8) (s : State) : Out := .next (runInsn e.val (insnBr 2) (bodyBls e.val i) s)

/-- LOOP (R163): counts a cell down and branches while it is not 0. -/
def bodyLoop (e : Nat) (i : BitVec 8) : EM Unit := do
  let n ← pop1 e 1
  if n - 1 ≠ 0 then do
    pushN e [n - 1]
    branchIf e 2 true (i.signExtend 32)
def execLoop (e : Eng) (i : BitVec 8) (s : State) : Out := .next (runInsn e.val (insnBr 2) (bodyLoop e.val i) s)

end Sys2Proof.Machine
end

