-- ==== Sys2Proof/Machine/EngIo.lean ====
section
/-! DEFINITION. IO-space instructions 0x56 to 0x59 (R159, R160). -/

namespace Sys2Proof.Machine

/-- Read an IO word: 5 cycles more (R160). A denied read raises Data Access. -/
def ioLoad (e a : Nat) : EM Word := do
  let s ← get
  let q := engReq s e
  match ioDenied s q a needR with
  | some d => raise vData (some d)
  | none => do
    modS fun s => charge s e 5 0
    let s ← get
    let v := ioValue s q a
    modS fun s => ioAfterRead s q a
    pure v

/-- Write an IO word: 1 cycle more, and a journaled write retires with its effect (R160, R392). A refused write retires with no
exception; a held one waits (R374). -/
def ioStore (e a : Nat) (v : Word) : EM Unit := do
  modS fun s => charge s e 1 0
  let s ← get
  match ioPut s (engReq s e) a v false with
  | .denied _ d => raise vData (some d)
  | .held s => fun _ => .error (.wait s)
  | .done s => set s
  | .refused s => set s
  | .full s => set s

def insnIo (len : Nat) : Insn := { len := len, cyc := 1 }

/-- IORD (R159): reads an IO word at a popped address. -/
def bodyIord (e : Nat) : EM Unit := do
  let p ← pop1 e 1
  let v ← ioLoad e (p.toNat % 65536)
  pushN e [v]
def execIord (e : Eng) (s : State) : Out := .next (runInsn e.val (insnIo 1) (bodyIord e.val) s)

/-- IOWR (R159): writes an IO word at a popped address. -/
def bodyIowr (e : Nat) : EM Unit := do
  let (x, p) ← pop2 e 0
  ioStore e (p.toNat % 65536) x
def execIowr (e : Eng) (s : State) : Out := .next (runInsn e.val (insnIo 1) (bodyIowr e.val) s)

/-- IORDI (R159): reads an IO word at an immediate address. -/
def bodyIordi (e : Nat) (i : BitVec 16) : EM Unit := do
  let _ ← popN e 0 1
  let v ← ioLoad e i.toNat
  pushN e [v]
def execIordi (e : Eng) (i : BitVec 16) (s : State) : Out := .next (runInsn e.val (insnIo 3) (bodyIordi e.val i) s)

/-- IOWRI (R159): writes an IO word at an immediate address. -/
def bodyIowri (e : Nat) (i : BitVec 16) : EM Unit := do
  let x ← pop1 e 0
  ioStore e i.toNat x
def execIowri (e : Eng) (i : BitVec 16) (s : State) : Out := .next (runInsn e.val (insnIo 3) (bodyIowri e.val i) s)

end Sys2Proof.Machine
end

