-- ==== Sys2Proof/Machine/EngMem.lean ====
section
/-! DEFINITION. D-space instructions 0x40 to 0x55 (R159 to R161). -/

namespace Sys2Proof.Machine

/-- Loads and stores: one byte long, or with an immediate. `fold` for the loads that fold as first (R140). -/
def insnMem (len : Nat) (fold : Bool) : Insn := { len := len, cyc := 1, first := fold }

/-- ( a -- x ) from an address, with an extension of the loaded value. -/
def loadTop (e n : Nat) (ext : Word → Word) (off : Word) : EM Unit := do
  let a ← pop1 e 1
  let v ← load e (a + off) n
  pushN e [ext v]
/-- ( -- x ) from a fixed address. -/
def loadAt (e n : Nat) (a : Word) : EM Unit := do
  let _ ← popN e 0 1
  let v ← load e a n
  pushN e [v]
/-- ( x a -- ) and ( x -- ). -/
def storeTop (e n : Nat) (off : Word) : EM Unit := do
  let (x, a) ← pop2 e 0
  store e (a + off) n x
def storeAt (e n : Nat) (a : Word) : EM Unit := do
  let x ← pop1 e 0
  store e a n x

/-- Extensions of loaded bytes and half-words. -/
def sext8 (v : Word) : Word := (v.extractLsb' 0 8).signExtend 32
def sext16 (v : Word) : Word := (v.extractLsb' 0 16).signExtend 32

/-- DSP before the instruction's own spill or fill, plus s16 (R159). -/
def dspPlus (e : Nat) (i : BitVec 16) : EM Word := do
  let x ← getE e
  pure (x.dsp + i.signExtend 32)

/-- The reservation covers a word address (R161). -/
def rsvHolds (x : Engine) (a : Word) : Bool := bit x.rsv 0 && decide (a.toNat / 4 = x.rsv.toNat / 4)

/-- LDW (R159): loads a word. -/
def bodyLdw (e : Nat) : EM Unit := loadTop e 4 id 0
def execLdw (e : Eng) (s : State) : Out := .next (runInsn e.val (insnMem 1 false) (bodyLdw e.val) s)

/-- LDH (R159): loads a half-word, sign-extended. -/
def bodyLdh (e : Nat) : EM Unit := loadTop e 2 sext16 0
def execLdh (e : Eng) (s : State) : Out := .next (runInsn e.val (insnMem 1 false) (bodyLdh e.val) s)

/-- LDHU (R159): loads a half-word, zero-extended. -/
def bodyLdhu (e : Nat) : EM Unit := loadTop e 2 id 0
def execLdhu (e : Eng) (s : State) : Out := .next (runInsn e.val (insnMem 1 false) (bodyLdhu e.val) s)

/-- LDB (R159): loads a byte, sign-extended. -/
def bodyLdb (e : Nat) : EM Unit := loadTop e 1 sext8 0
def execLdb (e : Eng) (s : State) : Out := .next (runInsn e.val (insnMem 1 false) (bodyLdb e.val) s)

/-- LDBU (R159): loads a byte, zero-extended. -/
def bodyLdbu (e : Nat) : EM Unit := loadTop e 1 id 0
def execLdbu (e : Eng) (s : State) : Out := .next (runInsn e.val (insnMem 1 false) (bodyLdbu e.val) s)

/-- LDD (R159): loads a double. -/
def bodyLdd (e : Nat) : EM Unit := do
  let a ← pop1 e 2
  let (lo, hi) ← loadD e a
  pushN e [lo, hi]
def execLdd (e : Eng) (s : State) : Out := .next (runInsn e.val (insnMem 1 false) (bodyLdd e.val) s)

/-- STW (R159): stores a word. -/
def bodyStw (e : Nat) : EM Unit := storeTop e 4 0
def execStw (e : Eng) (s : State) : Out := .next (runInsn e.val (insnMem 1 false) (bodyStw e.val) s)

/-- STH (R159): stores x[15:0]. -/
def bodySth (e : Nat) : EM Unit := storeTop e 2 0
def execSth (e : Eng) (s : State) : Out := .next (runInsn e.val (insnMem 1 false) (bodySth e.val) s)

/-- STB (R159): stores x[7:0]. -/
def bodyStb (e : Nat) : EM Unit := storeTop e 1 0
def execStb (e : Eng) (s : State) : Out := .next (runInsn e.val (insnMem 1 false) (bodyStb e.val) s)

/-- STD (R159): stores a double. -/
def bodyStd (e : Nat) : EM Unit := do
  let ws ← popN e 3 0
  storeD e (nth ws 0) (nth ws 1) (nth ws 2)
def execStd (e : Eng) (s : State) : Out := .next (runInsn e.val (insnMem 1 false) (bodyStd e.val) s)

/-- LDWA (R159): loads a word at i32. -/
def bodyLdwa (e : Nat) (i : Word) : EM Unit := loadAt e 4 i
def execLdwa (e : Eng) (i : Word) (s : State) : Out := .next (runInsn e.val (insnMem 5 true) (bodyLdwa e.val i) s)

/-- LDBA (R159): loads a byte at i32. -/
def bodyLdba (e : Nat) (i : Word) : EM Unit := loadAt e 1 i
def execLdba (e : Eng) (i : Word) (s : State) : Out := .next (runInsn e.val (insnMem 5 true) (bodyLdba e.val i) s)

/-- STWA (R159): stores a word at i32. -/
def bodyStwa (e : Nat) (i : Word) : EM Unit := storeAt e 4 i
def execStwa (e : Eng) (i : Word) (s : State) : Out := .next (runInsn e.val (insnMem 5 false) (bodyStwa e.val i) s)

/-- STBA (R159): stores a byte at i32. -/
def bodyStba (e : Nat) (i : Word) : EM Unit := storeAt e 1 i
def execStba (e : Eng) (i : Word) (s : State) : Out := .next (runInsn e.val (insnMem 5 false) (bodyStba e.val i) s)

/-- LDWS (R159): loads a word at DSP + s16. -/
def bodyLdws (e : Nat) (i : BitVec 16) : EM Unit := do loadAt e 4 (← dspPlus e i)
def execLdws (e : Eng) (i : BitVec 16) (s : State) : Out := .next (runInsn e.val (insnMem 3 true) (bodyLdws e.val i) s)

/-- LDBS (R159): loads a byte at DSP + s16. -/
def bodyLdbs (e : Nat) (i : BitVec 16) : EM Unit := do loadAt e 1 (← dspPlus e i)
def execLdbs (e : Eng) (i : BitVec 16) (s : State) : Out := .next (runInsn e.val (insnMem 3 true) (bodyLdbs e.val i) s)

/-- STWS (R159): stores a word at DSP + s16. -/
def bodyStws (e : Nat) (i : BitVec 16) : EM Unit := do storeAt e 4 (← dspPlus e i)
def execStws (e : Eng) (i : BitVec 16) (s : State) : Out := .next (runInsn e.val (insnMem 3 false) (bodyStws e.val i) s)

/-- STBS (R159): stores a byte at DSP + s16. -/
def bodyStbs (e : Nat) (i : BitVec 16) : EM Unit := do storeAt e 1 (← dspPlus e i)
def execStbs (e : Eng) (i : BitVec 16) (s : State) : Out := .next (runInsn e.val (insnMem 3 false) (bodyStbs e.val i) s)

/-- LDWO (R159): loads a word at a + s16. -/
def bodyLdwo (e : Nat) (i : BitVec 16) : EM Unit := loadTop e 4 id (i.signExtend 32)
def execLdwo (e : Eng) (i : BitVec 16) (s : State) : Out := .next (runInsn e.val (insnMem 3 false) (bodyLdwo e.val i) s)

/-- STWO (R159): stores a word at a + s16. -/
def bodyStwo (e : Nat) (i : BitVec 16) : EM Unit := storeTop e 4 (i.signExtend 32)
def execStwo (e : Eng) (i : BitVec 16) (s : State) : Out := .next (runInsn e.val (insnMem 3 false) (bodyStwo e.val i) s)

/-- LDL (R161): loads a word and reserves it. -/
def bodyLdl (e : Nat) : EM Unit := do
  let a ← pop1 e 1
  checkStrict e a.toNat needR [1, 3]
  let v ← readRaw e a.toNat 4
  modE e fun x => { x with rsv := a ||| 1#32 }
  pushN e [v]
def execLdl (e : Eng) (s : State) : Out := .next (runInsn e.val (insnMem 1 false) (bodyLdl e.val) s)

/-- STC (R161): stores a word if it is still reserved. -/
def bodyStc (e : Nat) : EM Unit := do
  let (v, a) ← pop2 e 1
  checkStrict e a.toNat needW [2, 3]
  let x ← getE e
  if rsvHolds x a then do
    writeRaw e a.toNat 4 v
    modE e fun x => { x with rsv := putBit x.rsv 0 false }
    pushN e [1#32]
  else do
    modE e fun x => { x with rsv := putBit x.rsv 0 false }
    pushN e [0#32]
def execStc (e : Eng) (s : State) : Out := .next (runInsn e.val (insnMem 1 false) (bodyStc e.val) s)

end Sys2Proof.Machine
end

