-- ==== Sys2Proof/Machine/EngStack.lean ====
section
/-! DEFINITION. Stack and literal instructions 0x00 to 0x0F (R150). -/

namespace Sys2Proof.Machine

/-- One-byte instructions of 0x00 to 0x3F: those that need an operand fold as second (R140); NOP does not. -/
def insnOne : Insn := { len := 1, cyc := 1, second := true }
/-- Literals fold as first. -/
def insnLit (len : Nat) : Insn := { len := len, cyc := 1, first := true }

/-- Rearrange the `n` top cells into `f` of them (top first), which has `p` cells. -/
def shuffle (e n p : Nat) (f : List Word → List Word) : EM Unit := do
  let ws ← popN e n p
  pushN e (f ws)

/-- Push one literal. -/
def literal (e : Nat) (v : Word) : EM Unit := do
  let _ ← popN e 0 1
  pushN e [v]

/-- NOP (R150): does nothing. -/
def bodyNop (e : Nat) : EM Unit := pure ()
def execNop (e : Eng) (s : State) : Out := .next (runInsn e.val { len := 1, cyc := 1 } (bodyNop e.val) s)

/-- DUP (R150): ( a -- a a ). -/
def bodyDup (e : Nat) : EM Unit := shuffle e 1 2 fun ws => [nth ws 0, nth ws 0]
def execDup (e : Eng) (s : State) : Out := .next (runInsn e.val insnOne (bodyDup e.val) s)

/-- DROP (R150): ( a -- ). -/
def bodyDrop (e : Nat) : EM Unit := shuffle e 1 0 fun ws => []
def execDrop (e : Eng) (s : State) : Out := .next (runInsn e.val insnOne (bodyDrop e.val) s)

/-- SWAP (R150): ( a b -- b a ). -/
def bodySwap (e : Nat) : EM Unit := shuffle e 2 2 fun ws => [nth ws 1, nth ws 0]
def execSwap (e : Eng) (s : State) : Out := .next (runInsn e.val insnOne (bodySwap e.val) s)

/-- OVER (R150): ( a b -- a b a ). -/
def bodyOver (e : Nat) : EM Unit := shuffle e 2 3 fun ws => [nth ws 1, nth ws 0, nth ws 1]
def execOver (e : Eng) (s : State) : Out := .next (runInsn e.val insnOne (bodyOver e.val) s)

/-- ROT (R150): ( a b c -- b c a ). -/
def bodyRot (e : Nat) : EM Unit := shuffle e 3 3 fun ws => [nth ws 2, nth ws 0, nth ws 1]
def execRot (e : Eng) (s : State) : Out := .next (runInsn e.val insnOne (bodyRot e.val) s)

/-- NIP (R150): ( a b -- b ). -/
def bodyNip (e : Nat) : EM Unit := shuffle e 2 1 fun ws => [nth ws 0]
def execNip (e : Eng) (s : State) : Out := .next (runInsn e.val insnOne (bodyNip e.val) s)

/-- TUCK (R150): ( a b -- b a b ). -/
def bodyTuck (e : Nat) : EM Unit := shuffle e 2 3 fun ws => [nth ws 0, nth ws 1, nth ws 0]
def execTuck (e : Eng) (s : State) : Out := .next (runInsn e.val insnOne (bodyTuck e.val) s)

/-- PICK (R150): copies cell n; Illegal Instruction above 7 (R146). -/
def bodyPick (e : Nat) (i : BitVec 8) : EM Unit := do
  if i.toNat > 7 then raise vIllegal
  let ws ← popN e (i.toNat + 1) (i.toNat + 2)
  pushN e (nth ws i.toNat :: ws)
def execPick (e : Eng) (i : BitVec 8) (s : State) : Out := .next (runInsn e.val { len := 2, cyc := 1 } (bodyPick e.val i) s)

/-- DUP2 (R150): ( a b -- a b a b ). -/
def bodyDup2 (e : Nat) : EM Unit := shuffle e 2 4 fun ws => [nth ws 0, nth ws 1, nth ws 0, nth ws 1]
def execDup2 (e : Eng) (s : State) : Out := .next (runInsn e.val insnOne (bodyDup2 e.val) s)

/-- DROP2 (R150): ( a b -- ). -/
def bodyDrop2 (e : Nat) : EM Unit := shuffle e 2 0 fun ws => []
def execDrop2 (e : Eng) (s : State) : Out := .next (runInsn e.val insnOne (bodyDrop2 e.val) s)

/-- SWAP2 (R150): ( a b c d -- c d a b ). -/
def bodySwap2 (e : Nat) : EM Unit := shuffle e 4 4 fun ws => [nth ws 2, nth ws 3, nth ws 0, nth ws 1]
def execSwap2 (e : Eng) (s : State) : Out := .next (runInsn e.val insnOne (bodySwap2 e.val) s)

/-- LIT8 (R150): pushes s8. -/
def bodyLit8 (e : Nat) (i : BitVec 8) : EM Unit := literal e (i.signExtend 32)
def execLit8 (e : Eng) (i : BitVec 8) (s : State) : Out := .next (runInsn e.val (insnLit 2) (bodyLit8 e.val i) s)

/-- LIT16 (R150): pushes s16. -/
def bodyLit16 (e : Nat) (i : BitVec 16) : EM Unit := literal e (i.signExtend 32)
def execLit16 (e : Eng) (i : BitVec 16) (s : State) : Out := .next (runInsn e.val (insnLit 3) (bodyLit16 e.val i) s)

/-- LIT32 (R150): pushes i32. -/
def bodyLit32 (e : Nat) (i : Word) : EM Unit := literal e i
def execLit32 (e : Eng) (i : Word) (s : State) : Out := .next (runInsn e.val (insnLit 5) (bodyLit32 e.val i) s)

/-- LITH (R150): pushes u16 times 0x1_0000. -/
def bodyLith (e : Nat) (i : BitVec 16) : EM Unit := literal e (i.setWidth 32 <<< 16)
def execLith (e : Eng) (i : BitVec 16) (s : State) : Out := .next (runInsn e.val (insnLit 3) (bodyLith e.val i) s)

end Sys2Proof.Machine
end

