-- ==== Sys2Proof/Machine/EngTimer.lean ====
section
/-! DEFINITION. Timer and counter instructions 0xA8 to 0xAE (R176 to R180). -/

namespace Sys2Proof.Machine

/-- A timer block's fields (R177). -/
structure TimerBlk where
  pt  : Word
  et  : Word
  ts  : Word
  q   : Bool
  inp : Bool
  run : Bool
deriving DecidableEq, Repr

def timerOf (w0 w1 w2 w3 : Word) : TimerBlk := { pt := w0, et := w1, ts := w2, q := bit w3 0, inp := bit w3 1, run := bit w3 2 }
def TimerBlk.w3 (t : TimerBlk) : Word := BitVec.ofNat 32 (b2n t.q + 2 * b2n t.inp + 4 * b2n t.run)

/-- Elapsed time while RUN = 1: min(now - TS, PT), and at PT the timing ends with Q := `atEnd` (R179). -/
def timerRun (now : Word) (atEnd : Bool) (t : TimerBlk) : TimerBlk :=
  if t.run then
    let d := now - t.ts
    let et := if d.toNat ≤ t.pt.toNat then d else t.pt
    if et = t.pt then { t with et := et, q := atEnd, run := false } else { t with et := et }
  else t

/-- TON, TOF and TP (R179). -/
def tonStep (now : Word) (i : Bool) (t : TimerBlk) : TimerBlk :=
  let t := if !i then { t with et := 0, q := false, run := false }
           else timerRun now true (if !t.inp then { t with ts := now, run := true } else t)
  { t with inp := i }
def tofStep (now : Word) (i : Bool) (t : TimerBlk) : TimerBlk :=
  let t := if i then { t with q := true, et := 0, run := false }
           else timerRun now false (if t.inp then { t with ts := now, run := true } else t)
  { t with inp := i }
def tpStep (now : Word) (i : Bool) (t : TimerBlk) : TimerBlk :=
  let t := if !t.run && i && !t.inp then { t with ts := now, run := true, q := true } else t
  let t := timerRun now false t
  let t := if !t.run && !i then { t with et := 0 } else t
  { t with inp := i }

/-- A counter block's fields (R177), and the count limits of R180. -/
structure CountBlk where
  pv  : Word
  cv  : Word
  cup : Bool
  cdp : Bool
deriving DecidableEq, Repr
def countOf (w0 w1 w3 : Word) : CountBlk := { pv := w0, cv := w1, cup := bit w3 2, cdp := bit w3 3 }
def CountBlk.qu (c : CountBlk) : Bool := decide (c.cv.toInt ≥ c.pv.toInt)
def CountBlk.qd (c : CountBlk) : Bool := decide (c.cv.toInt ≤ 0)
def CountBlk.w3 (c : CountBlk) : Word :=
  BitVec.ofNat 32 (b2n c.qu + 2 * b2n c.qd + 4 * b2n c.cup + 8 * b2n c.cdp)
def countUp (c : CountBlk) : CountBlk := if c.cv = 0x7FFFFFFF#32 then c else { c with cv := c.cv + 1 }
def countDown (c : CountBlk) : CountBlk := if c.cv = 0x80000000#32 then c else { c with cv := c.cv - 1 }
def ctuStep (cu r : Bool) (c : CountBlk) : CountBlk :=
  let c := if r then { c with cv := 0 } else if cu && !c.cup then countUp c else c
  { c with cup := cu }
def ctdStep (cd ld : Bool) (c : CountBlk) : CountBlk :=
  let c := if ld then { c with cv := c.pv } else if cd && !c.cdp then countDown c else c
  { c with cdp := cd }
def ctudStep (cu cd r ld : Bool) (c : CountBlk) : CountBlk :=
  let up := cu && !c.cup
  let dn := cd && !c.cdp
  let c := if r then { c with cv := 0 } else if ld then { c with cv := c.pv }
           else if up && !dn then countUp c else if dn && !up then countDown c else c
  { c with cup := cu, cdp := cd }

/-- Cycle start time of the running Application, in us (R176). -/
def cstOf (s : State) (e : Nat) : Word :=
  let n := ((engApp s e).map fun a => (app s a).cycleN.toNat).getD 0
  let epoch := (dbl (rd s Reg.schedEpochl) (rd s Reg.schedEpochh)).toNat
  BitVec.ofNat 32 ((epoch + n * rf s Reg.schedMcyc 19 0 * 1000) / 1000)

/-- The checker of a Diverse Grove inverts every word of its blocks (R173). -/
def blkInv (s : State) (e : Nat) (w : Word) : Word :=
  if e < 32 && isDiverse s (e / 2) && decide (e % 2 = 1) then ~~~ w else w

/-- Addresses of a block's words. -/
def blkAddr (a : Word) (i : Nat) : Nat := (a + BitVec.ofNat 32 (4 * i)).toNat

/-- Check a block as a whole: comparators of its accesses, alignment, then R and W on all 16 bytes within one target (R178). -/
def blkCheck (e : Nat) (a : Word) (reads : Bool) : EM Unit := do
  let s ← get
  let rs := if reads then [0, 1, 2, 3] else []
  applyHits e ((rs.flatMap fun i => cmpHits s e [1, 3] (blkAddr a i)) ++ ([1, 2, 3].flatMap fun i => cmpHits s e [2, 3] (blkAddr a i)))
  let x ← getE e
  if a.toNat % 4 ≠ 0 && bit x.trapen 3 then raise vAlign
  let s ← get
  let last := (a + 15#32).toNat
  match checkPieces s e (needR + needW) ((([0, 1, 2, 3].map (blkAddr a)) ++ [last]).map (·, 1)) with
  | some d => raise vData (some d)
  | none =>
    if tcodeOf s a.toNat = tcodeOf s last then pure ()
    else raise vData (some (mkDenial (engReq s e) (tcodeOf s a.toNat) (needR + needW) spData false a.toNat))

/-- Read a block's words, and write words 1 to 3. -/
def blkRead (e : Nat) (a : Word) (i : Nat) : EM Word := do
  let v ← readRaw e (blkAddr a i) 4
  pure (blkInv (← get) e v)
def blkWrite (e : Nat) (a w1 w2 w3 : Word) : EM Unit := do
  let s ← get
  writeRaw e (blkAddr a 1) 4 (blkInv s e w1)
  writeRaw e (blkAddr a 2) 4 (blkInv s e w2)
  writeRaw e (blkAddr a 3) 4 (blkInv s e w3)

/-- TON, TOF, TP ( a -- ), logic ( in -- q ). -/
def timer (e : Nat) (f : Word → Bool → TimerBlk → TimerBlk) : EM Unit := do
  let a ← pop1 e 0
  lskNeed e 1 1
  blkCheck e a true
  let w0 ← blkRead e a 0
  let w1 ← blkRead e a 1
  let w2 ← blkRead e a 2
  let w3 ← blkRead e a 3
  let x ← getE e
  let s ← get
  let t := f (cstOf s e) (lskBit x 0) (timerOf w0 w1 w2 w3)
  blkWrite e a t.et t.ts t.w3
  modE e (lskTop t.q)

/-- CTU, CTD, CTUD ( a -- ): `n` logic entries are popped, the results of `out` pushed in order. -/
def counter (e n p : Nat) (f : Engine → CountBlk → CountBlk) (out : CountBlk → List Bool) : EM Unit := do
  let a ← pop1 e 0
  lskNeed e n p
  blkCheck e a true
  let w0 ← blkRead e a 0
  let w1 ← blkRead e a 1
  let _ ← blkRead e a 2
  let w3 ← blkRead e a 3
  let x ← getE e
  let c := f x (countOf w0 w1 w3)
  blkWrite e a c.cv 0 c.w3
  modE e fun x => (out c).foldl (fun x b => lskPush b x) (lskPop n x)

/-- Timer and counter instructions, microcoded (R174, R216). -/
def insnTimer (op cyc : Nat) : Insn := { len := 1, cyc := cyc, entry := some op }

/-- TON (R179): on-delay timer. -/
def bodyTon (e : Nat) : EM Unit := timer e tonStep
def execTon (e : Eng) (s : State) : Out := .next (runInsn e.val (insnTimer 0xA8 10) (bodyTon e.val) s)

/-- TOF (R179): off-delay timer. -/
def bodyTof (e : Nat) : EM Unit := timer e tofStep
def execTof (e : Eng) (s : State) : Out := .next (runInsn e.val (insnTimer 0xA9 10) (bodyTof e.val) s)

/-- TP (R179): pulse timer. -/
def bodyTp (e : Nat) : EM Unit := timer e tpStep
def execTp (e : Eng) (s : State) : Out := .next (runInsn e.val (insnTimer 0xAA 10) (bodyTp e.val) s)

/-- TRST (R179): resets a timer, PT unchanged. -/
def bodyTrst (e : Nat) : EM Unit := do
  let a ← pop1 e 0
  blkCheck e a false
  blkWrite e a 0 0 0
def execTrst (e : Eng) (s : State) : Out := .next (runInsn e.val (insnTimer 0xAB 4) (bodyTrst e.val) s)

/-- CTU (R180): up counter ( r cu -- qu ). -/
def bodyCtu (e : Nat) : EM Unit := counter e 2 1 (fun x => ctuStep (lskBit x 0) (lskBit x 1)) fun c => [c.qu]
def execCtu (e : Eng) (s : State) : Out := .next (runInsn e.val (insnTimer 0xAC 8) (bodyCtu e.val) s)

/-- CTD (R180): down counter ( ld cd -- qd ). -/
def bodyCtd (e : Nat) : EM Unit := counter e 2 1 (fun x => ctdStep (lskBit x 0) (lskBit x 1)) fun c => [c.qd]
def execCtd (e : Eng) (s : State) : Out := .next (runInsn e.val (insnTimer 0xAD 8) (bodyCtd e.val) s)

/-- CTUD (R180): up-down counter ( ld r cd cu -- qd qu ). -/
def bodyCtud (e : Nat) : EM Unit := counter e 4 2 (fun x => ctudStep (lskBit x 0) (lskBit x 1) (lskBit x 2) (lskBit x 3)) fun c => [c.qd, c.qu]
def execCtud (e : Eng) (s : State) : Out := .next (runInsn e.val (insnTimer 0xAE 10) (bodyCtud e.val) s)

end Sys2Proof.Machine
end

