-- ==== Sys2Proof/Machine/Feed.lean ====
section
/-! DEFINITION. Feeding instructions to a halted engine, and its operand stack as the debugger reaches it (R479). -/

namespace Sys2Proof.Machine

/-! ### The instructions that may be fed

The opcodes are those of R150, R151, R154, R159, R163, R165, R169 and R174. What R479 does not let run is absent: the prefixes, SVC,
RETX, WGATE, WAIT and the microcoded opcodes of R216. -/

/-- Length and work of the opcodes 0x00 to 0x3F that a fed instruction may hold. -/
def feedLow (e op : Nat) (i : Word) : Option (Nat × EM Unit) :=
  match op with
  | 0x00 => some (1, bodyNop e)
  | 0x01 => some (1, bodyDup e)
  | 0x02 => some (1, bodyDrop e)
  | 0x03 => some (1, bodySwap e)
  | 0x04 => some (1, bodyOver e)
  | 0x05 => some (1, bodyRot e)
  | 0x06 => some (1, bodyNip e)
  | 0x07 => some (1, bodyTuck e)
  | 0x08 => some (2, bodyPick e (i.setWidth 8))
  | 0x09 => some (1, bodyDup2 e)
  | 0x0A => some (1, bodyDrop2 e)
  | 0x0B => some (1, bodySwap2 e)
  | 0x0C => some (2, bodyLit8 e (i.setWidth 8))
  | 0x0D => some (3, bodyLit16 e (i.setWidth 16))
  | 0x0E => some (5, bodyLit32 e i)
  | 0x0F => some (3, bodyLith e (i.setWidth 16))
  | 0x10 => some (1, bodyAdd e)
  | 0x11 => some (1, bodySub e)
  | 0x12 => some (1, bodyAdc e)
  | 0x13 => some (1, bodySbb e)
  | 0x14 => some (1, bodyNeg e)
  | 0x15 => some (1, bodyAbs e)
  | 0x16 => some (1, bodyInc e)
  | 0x17 => some (1, bodyDec e)
  | 0x18 => some (1, bodyCmp e)
  | 0x19 => some (1, bodyMin e)
  | 0x1A => some (1, bodyMax e)
  | 0x1B => some (1, bodyMinu e)
  | 0x1C => some (1, bodyMaxu e)
  | 0x1D => some (1, bodyLimit e)
  | 0x1E => some (1, bodySexb e)
  | 0x1F => some (1, bodySexh e)
  | 0x20 => some (1, bodyAnd e)
  | 0x21 => some (1, bodyOr e)
  | 0x22 => some (1, bodyXor e)
  | 0x23 => some (1, bodyNot e)
  | 0x24 => some (1, bodyTst e)
  | 0x25 => some (1, bodyEqz e)
  | 0x26 => some (1, bodyEq e)
  | 0x27 => some (1, bodyNe e)
  | 0x28 => some (1, bodyLt e)
  | 0x29 => some (1, bodyLe e)
  | 0x2A => some (1, bodyLtu e)
  | 0x2B => some (1, bodyLeu e)
  | 0x2C => some (1, bodyShl e)
  | 0x2D => some (1, bodyShr e)
  | 0x2E => some (1, bodySar e)
  | 0x2F => some (1, bodyRol e)
  | 0x30 => some (1, bodyRor e)
  | 0x31 => some (2, bodyShli e (i.setWidth 8))
  | 0x32 => some (2, bodyShri e (i.setWidth 8))
  | 0x33 => some (2, bodySari e (i.setWidth 8))
  | 0x34 => some (2, bodyRoli e (i.setWidth 8))
  | 0x35 => some (1, bodyZexb e)
  | 0x36 => some (1, bodyZexh e)
  | _ => none

/-- Length and work of the opcodes 0x40 to 0x5F that a fed instruction may hold. -/
def feedMem (e op : Nat) (i : Word) : Option (Nat × EM Unit) :=
  match op with
  | 0x40 => some (1, bodyLdw e)
  | 0x41 => some (1, bodyLdh e)
  | 0x42 => some (1, bodyLdhu e)
  | 0x43 => some (1, bodyLdb e)
  | 0x44 => some (1, bodyLdbu e)
  | 0x45 => some (1, bodyLdd e)
  | 0x46 => some (1, bodyStw e)
  | 0x47 => some (1, bodySth e)
  | 0x48 => some (1, bodyStb e)
  | 0x49 => some (1, bodyStd e)
  | 0x4A => some (5, bodyLdwa e i)
  | 0x4B => some (5, bodyLdba e i)
  | 0x4C => some (5, bodyStwa e i)
  | 0x4D => some (5, bodyStba e i)
  | 0x4E => some (3, bodyLdws e (i.setWidth 16))
  | 0x4F => some (3, bodyLdbs e (i.setWidth 16))
  | 0x50 => some (3, bodyStws e (i.setWidth 16))
  | 0x51 => some (3, bodyStbs e (i.setWidth 16))
  | 0x52 => some (3, bodyLdwo e (i.setWidth 16))
  | 0x53 => some (3, bodyStwo e (i.setWidth 16))
  | 0x54 => some (1, bodyLdl e)
  | 0x55 => some (1, bodyStc e)
  | 0x56 => some (1, bodyIord e)
  | 0x57 => some (1, bodyIowr e)
  | 0x58 => some (3, bodyIordi e (i.setWidth 16))
  | 0x59 => some (3, bodyIowri e (i.setWidth 16))
  | _ => none

/-- Length and work of the opcodes 0x60 to 0x7F that a fed instruction may hold. -/
def feedFlow (e op : Nat) (i : Word) : Option (Nat × EM Unit) :=
  match op with
  | 0x60 => some (2, bodyBra e (i.setWidth 8))
  | 0x61 => some (3, bodyBral e (i.setWidth 16))
  | 0x62 => some (5, bodyJmp e i)
  | 0x63 => some (1, bodyJmps e)
  | 0x64 => some (3, bodyCall e (i.setWidth 16))
  | 0x65 => some (5, bodyCalla e i)
  | 0x66 => some (1, bodyCalls e)
  | 0x67 => some (1, bodyRet e)
  | 0x68 => some (2, bodyBz e (i.setWidth 8))
  | 0x69 => some (2, bodyBnz e (i.setWidth 8))
  | 0x6A => some (3, bodyBzl e (i.setWidth 16))
  | 0x6B => some (3, bodyBnzl e (i.setWidth 16))
  | 0x6C => some (2, bodyBeq e (i.setWidth 8))
  | 0x6D => some (2, bodyBne e (i.setWidth 8))
  | 0x6E => some (2, bodyBcs e (i.setWidth 8))
  | 0x6F => some (2, bodyBcc e (i.setWidth 8))
  | 0x70 => some (2, bodyBmi e (i.setWidth 8))
  | 0x71 => some (2, bodyBpl e (i.setWidth 8))
  | 0x72 => some (2, bodyBvs e (i.setWidth 8))
  | 0x73 => some (2, bodyBvc e (i.setWidth 8))
  | 0x74 => some (2, bodyBlt e (i.setWidth 8))
  | 0x75 => some (2, bodyBge e (i.setWidth 8))
  | 0x76 => some (2, bodyBle e (i.setWidth 8))
  | 0x77 => some (2, bodyBgt e (i.setWidth 8))
  | 0x78 => some (2, bodyBhi e (i.setWidth 8))
  | 0x79 => some (2, bodyBls e (i.setWidth 8))
  | 0x7A => some (2, bodyLoop e (i.setWidth 8))
  | _ => none

/-- Length and work of the opcodes 0x80 to 0xA7 that a fed instruction may hold. -/
def feedBit (e op : Nat) (i : Word) : Option (Nat × EM Unit) :=
  match op with
  | 0x80 => some (5, bodyBld e i)
  | 0x81 => some (5, bodyBldn e i)
  | 0x82 => some (5, bodyBand e i)
  | 0x83 => some (5, bodyBandn e i)
  | 0x84 => some (5, bodyBor e i)
  | 0x85 => some (5, bodyBorn e i)
  | 0x86 => some (5, bodyBxor e i)
  | 0x87 => some (5, bodyBxorn e i)
  | 0x88 => some (5, bodyBst e i)
  | 0x89 => some (5, bodyBstn e i)
  | 0x8A => some (5, bodyBset e i)
  | 0x8B => some (5, bodyBrst e i)
  | 0x8C => some (1, bodyBlds e)
  | 0x8D => some (1, bodyBsts e)
  | 0x8E => some (1, bodyBands e)
  | 0x8F => some (1, bodyBors e)
  | 0x90 => some (5, bodySetb e i)
  | 0x91 => some (5, bodyClrb e i)
  | 0x92 => some (5, bodyInvb e i)
  | 0x93 => some (5, bodyTasb e i)
  | 0x94 => some (1, bodyBrdc e)
  | 0x95 => some (1, bodyBwrc e)
  | 0x96 => some (1, bodyBrdw e)
  | 0x97 => some (1, bodyBwrw e)
  | 0x98 => some (1, bodyLand e)
  | 0x99 => some (1, bodyLor e)
  | 0x9A => some (1, bodyLxor e)
  | 0x9B => some (1, bodyLnot e)
  | 0x9C => some (1, bodyLdup e)
  | 0x9D => some (1, bodyLdrop e)
  | 0x9E => some (1, bodyLswap e)
  | 0x9F => some (1, bodyLclr e)
  | 0xA0 => some (1, bodyLpush e)
  | 0xA1 => some (1, bodyLpop e)
  | 0xA2 => some (2, bodyLbz e (i.setWidth 8))
  | 0xA3 => some (2, bodyLbnz e (i.setWidth 8))
  | 0xA4 => some (5, bodyEdgr e i)
  | 0xA5 => some (5, bodyEdgf e i)
  | 0xA6 => some (1, bodyEdgrs e)
  | 0xA7 => some (1, bodyEdgfs e)
  | _ => none

/-- Length and work of the opcodes 0xD0 to 0xEF that a fed instruction may hold. -/
def feedSys (e op : Nat) (i : Word) : Option (Nat × EM Unit) :=
  match op with
  | 0xD0 => some (1, bodyMul e)
  | 0xD1 => some (1, bodyMulu e)
  | 0xD2 => some (1, bodyMuld e)
  | 0xD3 => some (1, bodyMulud e)
  | 0xEB => some (2, bodyRdc e (i.setWidth 8))
  | 0xEC => some (2, bodyWrc e (i.setWidth 8))
  | 0xEE => some (1, bodySync e)
  | 0xEF => some (1, bodyPfh e)
  | _ => none

/-- Page 0xF0 (R169). -/
def feedPage (e op : Nat) : Option (Nat × EM Unit) :=
  match op with
  | 0x00 => some (2, bodyDadd e)
  | 0x01 => some (2, bodyDsub e)
  | 0x02 => some (2, bodyDneg e)
  | 0x03 => some (2, bodyDcmp e)
  | 0x04 => some (2, bodyDshl e)
  | 0x05 => some (2, bodyDshr e)
  | 0x06 => some (2, bodyDsar e)
  | 0x07 => some (2, bodyDsex e)
  | 0x08 => some (2, bodyDzex e)
  | _ => none

/-- The instruction that bytes spell, with its length. -/
def feedInsn (e : Nat) (b0 b1 : Byte) (i : Word) : Option (Nat × EM Unit) :=
  let op := b0.toNat
  if op < 0x40 then feedLow e op i
  else if op < 0x60 then feedMem e op i
  else if op < 0x80 then feedFlow e op i
  else if op < 0xC0 then feedBit e op i
  else if op < 0xF0 then feedSys e op i
  else if op = 0xF0 then feedPage e b1.toNat
  else none

/-! ### Running it -/

/-- DBG_FRES: EXC and VEC. -/
def fres (s : State) (exc : Option Nat) : State :=
  dbgWr s 0x017 (match exc with | none => 0 | some v => BitVec.ofNat 32 (2 + 4 * v))

/-- While the debugger drives an engine its Weir counts nothing. -/
def stillWeir (s : State) (e : Nat) : State := putGrv s (e / 2) { grv s (e / 2) with halted := true }
def backWeir (old s : State) (e : Nat) : State := putGrv s (e / 2) { grv s (e / 2) with halted := (grv old (e / 2)).halted }

/-- The state on which a fed instruction works: PC past it, nothing due, and a mark that a transfer of control removes. -/
def feedStart (s : State) (e len : Nat) : State :=
  let x := eng s e
  putEng (stillWeir s e) e { x with pc := x.pc + BitVec.ofNat 32 len, dueTrap := none, foldAt := some 0#32 }

/-- The engine afterwards: PC moves only with a transfer of control, and what was due at the halt stays due. -/
def feedEnd (old s : State) (e : Nat) : State :=
  let x := eng old e
  let y := eng s e
  let y := { y with pc := if y.foldAt.isNone then y.pc else x.pc, dueTrap := x.dueTrap, inEntry := x.inEntry, foldAt := none }
  mirror (putEng (backWeir old s e) e y) e

/-- Execute a fed instruction. One that must wait for a tarn or an answer is still running: the debugger finds the port busy, and the
command is to be given again (log 13). A comparator match has no effect but on HREF, for the engine is halted already. -/
def feedRun (s : State) (e len : Nat) (body : EM Unit) : State :=
  match body.run (feedStart s e len) with
  | .ok (_, t) =>
    let trap := (eng t e).dueTrap
    dacc (fres (feedEnd s t e) trap) false 0x016 respOk 0
  | .error (.fault v d dbg) => dacc (fres (logOpt { s with dbg := dbg } d) (some v)) false 0x016 respOk 0
  | .error (.fatal t) => dacc (fres (mirror (fatalAt (backWeir s t e) e) e) none) false 0x016 respOk 0
  | .error (.halt dbg) => dacc (fres { s with dbg := dbg } none) false 0x016 respOk 0
  | .error (.wait t) => dacc { s with pwr := t.pwr } false 0x016 respBusy 0

/-- A write of DBG_FEED1, with its GO. -/
def feedWrite (s : State) (v : Word) : State :=
  atLevel s false 0x016 2 fun s =>
    let e := dbgEng s
    if !bit v 11 then dacc (dbgWr s 0x016 (v &&& 0x7FF#32)) false 0x016 respOk 0
    else if !engHalted s e then dacc s false 0x016 respErr 0
    else
      let s := dbgWr s 0x016 (v &&& 0x7FF#32)
      let w := dbgRd s 0x015
      let b (k : Nat) : Byte := w.extractLsb' (8 * k) 8
      let len := fld v 10 8
      let refuse := dacc (fres s (some vIllegal)) false 0x016 respOk 0
      match feedInsn e (b 0) (b 1) (bytesWord (b 1) (b 2) (b 3) (v.extractLsb' 0 8)) with
      | some (n, body) => if n = len then feedRun s e n body else refuse
      | none => refuse

/-! ### DBG_XFER -/

/-- Run a push or pop on a halted engine: one that would raise Stack Fault has no effect. -/
def xfer (s : State) (rnw : Bool) (work : Nat → EM Word) : State :=
  atLevel s rnw 0x018 2 fun s =>
    let e := dbgEng s
    if !engHalted s e then dacc s rnw 0x018 respErr 0
    else
      match (work e).run (stillWeir s e) with
      | .ok (v, t) => dacc (mirror (backWeir s t e) e) rnw 0x018 respOk v
      | .error (.fatal t) => dacc (mirror (fatalAt (backWeir s t e) e) e) rnw 0x018 respErr 0
      | .error (.wait t) => dacc { s with pwr := t.pwr } rnw 0x018 respBusy 0
      | .error _ => dacc s rnw 0x018 respErr 0

def xferPush (s : State) (v : Word) : State :=
  xfer s false fun e => do
    let _ ← popN e 0 1
    pushN e [v]
    pure 0
def xferPop (s : State) : State := xfer s true fun e => pop1 e 0

/-! ### Rows -/

/-- FEED (R479): a write of DBG_FEED1 with GO. -/
def execFeed (v : Word) (s : State) : Host.Outcome State Fault Refusal := .next (if bit v 11 then feedWrite s v else s)
/-- XFER_PUSH (R479). -/
def execXferPush (v : Word) (s : State) : Host.Outcome State Fault Refusal := .next (xferPush s v)
/-- XFER_POP (R479). -/
def execXferPop (s : State) : Host.Outcome State Fault Refusal := .next (xferPop s)

end Sys2Proof.Machine
end

