-- ==== Sys2Proof/Machine/Omi.lean ====
section
/-! DEFINITION. The management interface: the command tables (R433, R437, R457), take-up (R427) and the order of checks (R430),
sessions (R431, R432), load objects (R435), and the commands that only read. -/

namespace Sys2Proof.Machine

/-! ### The tables -/

/-- What a command asks of its sender: nothing; a basic or an expert session; its own session that awaits AUTH; no lockout of
OPEN_SESSION. -/
inductive OmiLevel where
  | open' | basic | expert | own | unlocked
deriving DecidableEq, Repr

/-- A row of the command tables: code, level, states, and the range of PLEN. -/
structure OmiRow where
  code   : Nat
  level  : OmiLevel
  states : List Dev
  lo     : Nat
  hi     : Nat
deriving DecidableEq, Repr

/-- States of the rows, by the letters of the tables. -/
def inA : List Dev := [.config, .run, .tracking, .safeHold, .maintenance]
def inC : List Dev := [.config]
def inR : List Dev := [.run]
def inRT : List Dev := [.run, .tracking]
def inCM : List Dev := [.config, .maintenance]
def inCSM : List Dev := [.config, .safeHold, .maintenance]
def inCRSM : List Dev := [.config, .run, .safeHold, .maintenance]
def inCTS : List Dev := [.config, .tracking, .safeHold]
def inCTSM : List Dev := [.config, .tracking, .safeHold, .maintenance]

/-- The basic and session commands (R433). -/
def omiBasic : List OmiRow :=
  [⟨0x01, .open', inA, 0, 0⟩, ⟨0x02, .unlocked, inA, 4, 4⟩, ⟨0x03, .own, inA, 32, 32⟩, ⟨0x04, .basic, inA, 0, 0⟩,
   ⟨0x10, .basic, inCM, 4, 4⟩, ⟨0x11, .basic, inA, 52, 52⟩, ⟨0x12, .basic, inA, 4, 4⟩, ⟨0x13, .basic, inCRSM, 8, 8⟩,
   ⟨0x14, .basic, inA, 12, 12⟩, ⟨0x15, .basic, inA, 4, 4⟩, ⟨0x16, .basic, inA, 12, 12⟩, ⟨0x17, .basic, inC, 4, 4⟩,
   ⟨0x18, .basic, inR, 4, 4⟩, ⟨0x19, .basic, inA, 0, 0⟩, ⟨0x1A, .basic, inRT, 8, 8⟩, ⟨0x1B, .basic, inR, 8, 8⟩,
   ⟨0x1C, .basic, inR, 4, 4⟩, ⟨0x1D, .basic, inA, 4, 4⟩, ⟨0x1E, .basic, inA, 8, 8⟩, ⟨0x1F, .basic, inA, 4, 4⟩,
   ⟨0x20, .basic, inA, 0, 0⟩, ⟨0x21, .basic, inA, 8, 8⟩, ⟨0x22, .basic, inA, 8, 1008⟩, ⟨0x23, .basic, inA, 4, 4⟩,
   ⟨0x24, .basic, inA, 0, 0⟩]

/-- The expert commands (R437, R457). -/
def omiExpert : List OmiRow :=
  [⟨0x40, .expert, inCTS, 0, 0⟩, ⟨0x41, .expert, [.maintenance], 0, 0⟩, ⟨0x42, .expert, [.safeHold], 0, 0⟩,
   ⟨0x43, .expert, inA, 12, 12⟩, ⟨0x44, .expert, inCM, 16, 16⟩, ⟨0x45, .expert, inA, 12, 12⟩, ⟨0x46, .expert, inA, 4, 4⟩,
   ⟨0x47, .expert, inA, 4, 4⟩, ⟨0x48, .expert, inCSM, 4, 4⟩, ⟨0x49, .expert, inCSM, 24, 24⟩, ⟨0x4A, .expert, inCSM, 36, 36⟩,
   ⟨0x4B, .expert, inA, 8, 488⟩, ⟨0x4C, .expert, inCSM, 8, 8⟩, ⟨0x4D, .expert, inA, 12, 12⟩, ⟨0x50, .expert, inA, 0, 0⟩,
   ⟨0x51, .expert, inA, 4, 4⟩, ⟨0x52, .expert, inA, 12, 1008⟩, ⟨0x53, .expert, inA, 4, 4⟩, ⟨0x54, .expert, inA, 4, 4⟩,
   ⟨0x55, .expert, inCTSM, 0, 0⟩, ⟨0x56, .expert, inCTSM, 0, 0⟩, ⟨0x57, .expert, inA, 72, 72⟩]

def omiRowOf (code : Nat) : Option OmiRow := (omiBasic ++ omiExpert).find? fun r => decide (r.code = code)

/-! ### Take-up (R427) -/

/-- R25 gives OMI as Full, and the Wellspring runs. -/
def omiFull (s : State) : Bool := inA.contains s.dev && !s.wspStopped

def waitsOn (s : State) (c : Nat) : Bool := s.waits.any fun w => decide (w.chan = c)

/-- Read commands: they run between the others. -/
def isReadCmd (s : State) (c : Nat) : Bool :=
  decide (cmdCode s c = 0x01 ∨ cmdCode s c = 0x1E ∨ cmdCode s c = 0x20 ∨ cmdCode s c = 0x50) ||
  (decide (cmdCode s c = 0x1D) && !bit (param s c 0) 31)
def isSafeHold (s : State) (c : Nat) : Bool := decide (cmdCode s c = 0x19)

/-- The channel's command may run now: configuration commands run one at a time in the order of their GO writes; a bank swap that
awaits the twin's word is not yet complete (R434); read commands and SAFE_HOLD go ahead. -/
def myTurn (s : State) (c : Nat) : Bool :=
  omiFull s && decide ((chan s c).st = 1) && !waitsOn s c &&
  (isReadCmd s c || isSafeHold s c ||
    (!s.waits.any isSwap && decide ((s.goQ.filter fun d => !waitsOn s d && !isReadCmd s d && !isSafeHold s d).head? = some c)))

/-! ### The checks (R430) -/

/-- OPEN_SESSION of a master is locked out (R431). -/
def lockedOut (s : State) (m : Nat) : Bool :=
  match Sparse.get none s.authLock m with | some t => decide (s.tb.now.toNat < t.toNat) | none => false

def sessionOf (s : State) (c : Nat) : Option Session := s.sessions.find? fun x => x.isOf s c

/-- Step 3. -/
def levelOk (s : State) (c : Nat) : OmiLevel → Bool
  | .open' => true
  | .unlocked => !lockedOut s (cmdMaster s c)
  | .own => match sessionOf s c with | some x => !x.authed | none => false
  | .basic => match sessionOf s c with | some x => x.authed | none => false
  | .expert => match sessionOf s c with | some x => x.authed && x.expert | none => false

/-- Steps 2 to 5: a status, 0 if they pass. -/
def omiCheck (s : State) (c : Nat) (r : OmiRow) : Nat :=
  if cmdLen s c > 1008 ∨ cmdLen s c % 4 ≠ 0 then stLength
  else if !levelOk s c r.level then stNotAuth
  else if cmdLen s c < r.lo ∨ r.hi < cmdLen s c then stLength
  else if !r.states.contains s.dev then stBadState
  else stOk

/-- Run the command of a code on a channel whose turn it is. -/
def omiRun (s : State) (c code : Nat) (run : State → State) : State :=
  if !myTurn s c || decide (cmdCode s c ≠ code) then s
  else
    match omiRowOf code with
    | none => s
    | some r => if omiCheck s c r = stOk then run s else complete s c (omiCheck s c r) 0 []

/-- Endings of a command: OK with data, and refusals. -/
def omiOk (s : State) (c : Nat) (data : List Word) : State := complete s c stOk 0 data
def badParam (s : State) (c : Nat) : State := complete s c stBadParam 0 []
def badState (s : State) (c reason : Nat) : State := complete s c stBadState reason []
def omiBusy (s : State) (c : Nat) : State := complete s c stBusy 0 []

/-- Bits of a parameter outside a mask are reserved, 0 (R429). -/
def stray (w mask : Word) : Bool := decide (w &&& ~~~ mask ≠ 0)

/-- UNKNOWN_COMMAND (R430). -/
def unknownCommand (s : State) (c : Nat) : State :=
  if myTurn s c && (omiRowOf (cmdCode s c)).isNone then complete s c stUnknown 0 [] else s

/-! ### Sessions (R431, R432) -/

def sidOpen (s : State) (k : Nat) : Bool := s.sessions.any fun x => decide (x.sid = k)

/-- A SID that is not open: which one is a free value. -/
def pickSid (s : State) : Nat :=
  let b := (Config.freeWord s.free).toNat
  (((List.range 9).map fun k => (b + k) % 0xFFFF + 1).find? fun k => !sidOpen s k).getD 1

/-- The OMI key of a level (R513). -/
def omiKey (s : State) (expert : Bool) : List Byte := fuseBytes s (if expert then 0x138 else 0x130) 8

def openSession (s : State) (c : Nat) : State :=
  let p := param s c 0
  let expert := bit p 0
  let t := fld p 27 16
  if stray p 0x0FFF0001#32 || decide (t > 3600) then badParam s c
  else if (omiKey s expert).all (fun b => decide (b = 0)) then complete s c stNotAuth 0 []
  else if s.sessions.length ≥ 8 then omiBusy s c
  else
    let sid := pickSid s
    let n := s.openCnt + 1
    let nonce := [lo32 s.tb.now, hi32 s.tb.now, rd s Reg.idBootcnt, n]
    let x : Session := { sid := sid, master := cmdMaster s c, expert := expert, authed := false, timeout := if t = 0 then 60 else t,
                         lastUse := s.tb.now, nonce := nonce, obj := none }
    completeN { s with sessions := s.sessions ++ [x], openCnt := n, free := s.free + 1 } c stOk 0 18
      (bytesWords ((wordBytes (BitVec.ofNat 32 sid)).take 2 ++ wordsBytes nonce))

/-- Close a session: ARG 1 idle, 2 failed AUTH, 3 CLOSE_SESSION. Its object is freed with it (R435). -/
def closeSession (s : State) (sid arg : Nat) : State :=
  pushEvent { s with sessions := s.sessions.filter fun x => decide (x.sid ≠ sid) } 5 arg (sid % 0x8000)

/-- The message that an AUTH signs. -/
def authMsg (x : Session) : List Byte :=
  wordsBytes x.nonce ++ (wordBytes (BitVec.ofNat 32 x.sid)).take 2 ++ [BitVec.ofNat 8 (b2n x.expert), BitVec.ofNat 8 x.master]

/-- The parameter words of a command. -/
def params (s : State) (c n : Nat) : List Word := (List.range n).map (param s c)

def authSession (s : State) (c : Nat) : State :=
  match sessionOf s c with
  | none => complete s c stNotAuth 0 []
  | some x =>
    let m := cmdMaster s c
    if hmac256 (omiKey s x.expert) (authMsg x) = wordsBytes (params s c 8) then
      omiOk { s with sessions := s.sessions.map (fun y => if y = x then { y with authed := true, lastUse := s.tb.now } else y)
                     authFail := Sparse.set 0 s.authFail m 0 } c []
    else
      let n := Sparse.get 0 s.authFail m + 1
      let s := if n ≥ 3 then { s with authFail := Sparse.set 0 s.authFail m 0
                                      authLock := Sparse.set none s.authLock m (some (s.tb.now + 1000000000)) }
               else { s with authFail := Sparse.set 0 s.authFail m n }
      closeSession (complete s c stNotAuth 0 []) x.sid 2

/-- A command of the session is in RUN. -/
def sessionRuns (s : State) (x : Session) : Bool :=
  (List.range 8).any fun c => decide ((chan s c).st = 1) && x.isOf s c

/-- A timeout of a session that `due` names. -/
def sessionTimeout (s : State) (sid arg : Nat) (due : Session → Bool) : State :=
  match s.sessions.find? fun x => decide (x.sid = sid) with
  | some x => if omiFull s && due x && !sessionRuns s x then closeSession s sid arg else s
  | none => s

/-! ### Load objects (R435) -/

/-- Element bytes and maximum TOTAL of a kind. -/
def objKind : Nat → Option (Nat × Nat)
  | 1 => some (32, 2048) | 2 => some (16, 8192) | 3 => some (16, 16384) | 4 => some (8, 32768) | 5 => some (12, 49152)
  | _ => none

/-- First word of the staging area in T61 and its length (DESIGN CHOICE, log 40). -/
def stageBase : Nat := 0x4000
def stageLen : Nat := 0x4000

/-- Word ranges held, and the lowest offset at which `n` words are free. -/
def objSpans (s : State) : List (Nat × Nat) := s.sessions.filterMap fun x => x.obj.map fun o => (o.base, o.total / 4)
def stageFree (s : State) (n : Nat) : Option Nat :=
  (0 :: (objSpans s).map fun p => p.1 + p.2).find? fun b => decide (b + n ≤ stageLen) && (objSpans s).all fun p => !meet b n p.1 p.2

def putObj (s : State) (c : Nat) (o : LoadObj) : State :=
  { s with sessions := s.sessions.map fun x => if x.isOf s c then { x with obj := some o } else x }
def objOf (s : State) (c : Nat) : Option LoadObj := (sessionOf s c).bind (·.obj)

def loadBegin (s : State) (c : Nat) : State :=
  let total := (param s c 1).toNat
  match objKind (param s c 0).toNat with
  | none => badParam s c
  | some (el, most) =>
    if total > most then complete s c stLength 0 []
    else if total = 0 ∨ total % el ≠ 0 then badParam s c
    else if (objOf s c).isSome then omiBusy s c
    else
      match stageFree s (total / 4) with
      | none => omiBusy s c
      | some b => omiOk (putObj s c { kind := (param s c 0).toNat, total := total, base := b, passed := false }) c []

/-- The Wellspring's accesses to its tarns: a denial or an uncorrectable word ends the command with BAD_STATE. -/
def wspTarnWrite (s : State) (t w : Nat) (ws : List Word) : State × Bool :=
  match checkMem s wspReq (tarnAddr t w) needW spData with
  | some d => (logDenial s d, false)
  | none => ((indexed 0 ws).foldl (fun st p => writeTarnW st t (w + p.1) 32 p.2) s, true)

/-- Data of a chunk, any order and repeats; a new LOAD_END is needed after it (DEDUCED, log 40). -/
def loadData (s : State) (c : Nat) : State :=
  let off := (param s c 0).toNat
  let n := cmdLen s c / 4 - 1
  match objOf s c with
  | none => badParam s c
  | some o =>
    if off + 4 * n > o.total then complete s c stLength 0 []
    else if off % 4 ≠ 0 then badParam s c
    else
      match wspTarnWrite s 61 (stageBase + o.base + off / 4) ((params s c (n + 1)).drop 1) with
      | (s, true) => omiOk (putObj s c { o with passed := false }) c []
      | (s, false) => badState s c 0

/-- Words of an object as T61 holds them. -/
def objWords (s : State) (o : LoadObj) : State × Option (List Word) := seqRead s 61 (stageBase + o.base) (o.total / 4)

def loadEnd (s : State) (c : Nat) : State :=
  match objOf s c with
  | none => badParam s c
  | some o =>
    match objWords s o with
    | (s, none) => badState s c 0
    | (s, some ws) => if crc32c ws = param s c 0 then omiOk (putObj s c { o with passed := true }) c [] else badParam s c

/-- The words of a passed object of a kind; none where the session holds none. -/
def passedObj (s : State) (c kind : Nat) : Option LoadObj :=
  (objOf s c).bind fun o => if o.kind = kind ∧ o.passed then some o else none

/-! ### Commands that read -/

/-- The value of a register as the Wellspring reads it. -/
def wspSees (s : State) (a : Nat) : Word := ioValue s wspReq a

def getInfo (s : State) (c : Nat) : State :=
  omiOk s c [ipverWord, ipcfgWord, idStateWord s, wspSees s Reg.idUpstat, s.boot.version, wspSees s Reg.shrNode,
    BitVec.ofNat 32 (ringRole s), BitVec.ofNat 32 s.sessions.length]

/-- Registers of READ_STATUS in order. -/
def statusRegs : List Nat :=
  [Reg.idState, Reg.schedStat, Reg.schedCycl, Reg.schedCych, Reg.schedOvr, Reg.grvStat, Reg.grvTwstat, Reg.grvQstat, Reg.grvFence,
   Reg.jrnUsed, Reg.fltStat, Reg.tbStat, Reg.tbOffs, Reg.shrStat, Reg.pwrVstat, Reg.imgSafeout]
/-- SCHED_CYCH is read for itself, not as captured (R52). -/
def readStatus (s : State) (c : Nat) : State :=
  omiOk s c (statusRegs.map fun a => if a = Reg.schedCych then rd s a else wspSees s a)

def readFaults (s : State) (c : Nat) : State :=
  let n := fld (param s c 0) 30 0
  let ack := bit (param s c 0) 31
  if n > 31 then complete s c stLength 0 []
  else if n = 0 then badParam s c
  else
    let rs := s.flt.take n
    let data := rs.flatten
    match ack, rs.getLast? with
    | true, some r =>
      match wspPut s Reg.fltAck (nth r 6) with
      | .done s => omiOk s c data
      | .full s => complete s c stJournal 0 []
      | o => badState o.state c 0
    | _, _ => omiOk s c data

/-- Entries by sequence number; an entry that cannot be read ends the command as R445 gives. -/
def journalWords (s : State) (q : Word) : Nat → State × Option (List Word)
  | 0 => (s, some [])
  | n + 1 =>
    match readWords s 63 (jrnSlot q) 32 8 with
    | (s, none) => (s, none)
    | (s, some ws) =>
      match journalWords s (q + 1) n with
      | (s, some r) => (s, some (ws ++ r))
      | (s, none) => (s, none)
def readJournal (s : State) (c : Nat) : State :=
  let q := param s c 0
  let n := (param s c 1).toNat
  if n > 31 then complete s c stLength 0 []
  else if n = 0 ∨ (q - rd s Reg.jrnTail).toNat + n > jrnUsedN s then badParam s c
  else
    match journalWords s q n with
    | (s, some ws) => omiOk s c ws
    | (s, none) => complete s c stAborted 0 []

def ackJournal (s : State) (c : Nat) : State :=
  match wspPut s Reg.jrnAck (param s c 0) with
  | .done s => omiOk s c []
  | .full s => complete s c stJournal 0 []
  | o => badParam o.state c

/-! ### Rows -/

/-- UNKNOWN_COMMAND (R430). -/
def execUnknownCommand (c : Chan) (s : State) : Host.Outcome State Fault Refusal := .next (unknownCommand s c.val)
/-- AUTH_TIMEOUT (R431): no AUTH within 1 s. -/
def execAuthTimeout (sid : BitVec 16) (s : State) : Host.Outcome State Fault Refusal :=
  .next (sessionTimeout s sid.toNat 2 fun x => !x.authed && decide (x.lastUse.toNat + 1000000000 ≤ s.tb.now.toNat))
/-- AUTH_LOCKOUT_END (R431). -/
def execAuthLockoutEnd (h : Chan) (s : State) : Host.Outcome State Fault Refusal :=
  .next (if lockedOut s (38 + h.val) then s else { s with authLock := Sparse.set none s.authLock (38 + h.val) none })
/-- SESSION_TIMEOUT (R432). -/
def execSessionTimeout (sid : BitVec 16) (s : State) : Host.Outcome State Fault Refusal :=
  .next (sessionTimeout s sid.toNat 1 fun x => x.authed && decide (x.lastUse.toNat + x.timeout * 1000000000 ≤ s.tb.now.toNat))
/-- GET_INFO (R433). -/
def execGetInfo (c : Chan) (s : State) : Host.Outcome State Fault Refusal := .next (omiRun s c.val 0x01 (getInfo · c.val))
/-- OPEN_SESSION (R431). -/
def execOpenSession (c : Chan) (s : State) : Host.Outcome State Fault Refusal := .next (omiRun s c.val 0x02 (openSession · c.val))
/-- AUTH (R431). -/
def execAuth (c : Chan) (s : State) : Host.Outcome State Fault Refusal := .next (omiRun s c.val 0x03 (authSession · c.val))
/-- CLOSE_SESSION (R432). -/
def execCloseSession (c : Chan) (s : State) : Host.Outcome State Fault Refusal :=
  .next (omiRun s c.val 0x04 fun s => omiOk (closeSession s (cmdSid s c.val) 3) c.val [])
/-- READ_FAULTS (R433). -/
def execReadFaults (c : Chan) (s : State) : Host.Outcome State Fault Refusal := .next (omiRun s c.val 0x1D (readFaults · c.val))
/-- READ_JOURNAL (R433). -/
def execReadJournal (c : Chan) (s : State) : Host.Outcome State Fault Refusal := .next (omiRun s c.val 0x1E (readJournal · c.val))
/-- ACK_JOURNAL (R433). -/
def execAckJournal (c : Chan) (s : State) : Host.Outcome State Fault Refusal := .next (omiRun s c.val 0x1F (ackJournal · c.val))
/-- READ_STATUS (R433). -/
def execReadStatus (c : Chan) (s : State) : Host.Outcome State Fault Refusal := .next (omiRun s c.val 0x20 (readStatus · c.val))
/-- LOAD_BEGIN (R435). -/
def execLoadBegin (c : Chan) (s : State) : Host.Outcome State Fault Refusal := .next (omiRun s c.val 0x21 (loadBegin · c.val))
/-- LOAD_DATA (R435). -/
def execLoadData (c : Chan) (s : State) : Host.Outcome State Fault Refusal := .next (omiRun s c.val 0x22 (loadData · c.val))
/-- LOAD_END (R435). -/
def execLoadEnd (c : Chan) (s : State) : Host.Outcome State Fault Refusal := .next (omiRun s c.val 0x23 (loadEnd · c.val))
/-- LOAD_CANCEL (R433). -/
def execLoadCancel (c : Chan) (s : State) : Host.Outcome State Fault Refusal :=
  .next (omiRun s c.val 0x24 fun s => omiOk (freeObj s c.val) c.val [])

end Sys2Proof.Machine
end

