-- ==== Sys2Proof/Machine/Wsp.lean ====
section
/-! DEFINITION. What the Wellspring does of itself for Spares: preparation and choice (R263, R266). -/

namespace Sys2Proof.Machine

/-- The Wellspring runs its firmware. -/
def wspRuns (s : State) : Bool := blocksRun s && !s.wspStopped && decide (s.dev ≠ .boot)

/-- Make journaled writes in order; the state, and whether all were made. The first that the journal refuses ends them (R438). -/
def wspWrites (s : State) : List (Nat × Word) → State × Bool
  | [] => (s, true)
  | (a, v) :: r =>
    match wspPut s a v with
    | .full s => (s, false)
    | x => wspWrites x.state r

/-- Prepare a Spare: power it, clean and invalidate its L1 caches and victim cache, zero its Ponds (R263, R511). A gated Grove is
prepared once its power is up. -/
def sparePrepare (s : State) (g : Nat) : State :=
  if !wspRuns s || !grvSpare s g || grvFenced s g || !grvIdle s g || s.prepared.getLsbD g || (grv s g).pondBusy then s
  else
    let off := rd s Reg.pwrGctl
    let (s, ok) := if bit off g then wspWrites s [(Reg.pwrGctl, putBit off g false)] else (s, true)
    if !ok then s
    else if gated s g then wantGrove s g
    else
      let (t, ok) := wspWrites (l1Clean s g 35) [(Reg.cmxPond + g, putBit (rd s (Reg.cmxPond + g)) 4 true)]
      if ok then { t with prepared := t.prepared ||| (1#16 <<< g) } else t

/-- The lowest-numbered prepared Grove that R262 admits for `g`. -/
def spareFor (s : State) (g : Nat) : Option Nat :=
  (List.range 16).find? fun h => s.prepared.getLsbD h && !(grv s h).pondBusy && subFit s g h

/-- Writes of GRV_ERSEL and GRV_ERDAT that give Grove `h` the registers 0x10 to 0x1B of Grove `g` (R255): the Wellspring's record is
what the fenced engines hold (DESIGN CHOICE, log 38). -/
def erWrites (s : State) (g h : Nat) : List (Nat × Word) :=
  (List.range 12).flatMap fun k =>
    let r := 0x10 + k
    let sel (bits : Nat) : Word := BitVec.ofNat 32 (r + h * 256 + bits * 4096)
    if isLockstep s g then [(Reg.grvErsel, sel 3), (Reg.grvErdat, ersGet (eng s (2 * g)) r)]
    else [(Reg.grvErsel, sel 1), (Reg.grvErdat, ersGet (eng s (2 * g)) r), (Reg.grvErsel, sel 2), (Reg.grvErdat, ersGet (eng s (2 * g + 1)) r)]

/-- No takeover takes place (R266). -/
def noTakeover (s : State) (g : Nat) : State :=
  let s := record s { faultOf 0x10 2 with grove := BitVec.ofNat 4 g, discard := true }
  { sb s Reg.grvStat 2 true with noSpare := s.noSpare ||| (1#16 <<< g) }

/-- Choose a Spare for a fenced Grove of the schedule in force (R263). -/
def spareChoice (s : State) (g : Nat) : State :=
  if !wspRuns s || !grvFenced s g || !groveInForce s g || s.noSpare.getLsbD g || rb s (Reg.grvSub + g) 4 || rb s (Reg.grvSub + g) 5 then s
  else
    match spareFor s g with
    | none => noTakeover s g
    | some h =>
      match wspWrites s (erWrites s g h ++ [(Reg.grvSub + g, BitVec.ofNat 32 (h + 16))]) with
      | (s, true) => s
      | (s, false) => noTakeover s g

/-- SPARE_PREPARATION (R263). -/
def execSparePreparation (g : Grv) (s : State) : Host.Outcome State Fault Refusal := .next (sparePrepare s g.val)
/-- SPARE_CHOICE (R263). -/
def execSpareChoice (g : Grv) (s : State) : Host.Outcome State Fault Refusal := .next (spareChoice s g.val)

end Sys2Proof.Machine
end

