-- ==== Sys2Proof/Machine/OmiCfg.lean ====
section
/-! DEFINITION. The commands that configure (R433, R436, R437): profiles, Applications, schedule, tables, starting and stopping, online
edit, and the expert commands over registers. -/

namespace Sys2Proof.Machine

/-! ### Writes of a command -/

/-- How a command's writes ended: all made, journal full (R396, R438), or one refused. -/
inductive WrOut where
  | done | full | refused
deriving DecidableEq, Repr

/-- Make writes in order up to the first that is not done (R438). -/
def omiWrites (s : State) : List (Nat × Word) → State × WrOut
  | [] => (s, .done)
  | (a, v) :: r =>
    match wspPut s a v with
    | .done s => omiWrites s r
    | .full s => (s, .full)
    | o => (o.state, .refused)

/-- IMG_STAT.ERR and SHR_STAT.ITERR, the error codes that registers give (R437). -/
def imgErr (s : State) : Nat := rf s Reg.imgStat 7 4
def itErr (s : State) : Nat := rf s Reg.shrStat 11 8

/-- The response to writes that were not all made. -/
def omiStop (s : State) (c : Nat) (r : WrOut) (reason : Nat) : State :=
  match r with
  | .done => s
  | .full => complete s c stJournal 0 []
  | .refused => badState s c reason

/-- A command that is a list of writes (R437). -/
def omiPuts (s : State) (c : Nat) (ws : List (Nat × Word)) : State :=
  match omiWrites s ws with
  | (s, .done) => omiOk s c []
  | (s, r) => omiStop s c r 0

/-- Bits of a register that a parameter may set: all but the reserved ones (R429; DEDUCED, log 39). -/
def roNamed (a : Nat) : Word :=
  if inRange a Reg.grvMode 16 then 0x70#32
  else if inRange a Reg.cmxPond 16 then 0x20#32
  else if inRange a Reg.icuHold 32 then 0x80000000#32
  else 0#32
def regMask (a : Nat) : Word :=
  match rowOf a with
  | some r => BitVec.ofNat 32 (r.rw ||| r.w1c ||| r.w1s ||| r.rc ||| r.wo) ||| roNamed a
  | none => 0#32
def strayWrites (ws : List (Nat × Word)) : Bool := ws.any fun p => stray p.2 (regMask p.1)

/-- The writes of an expert command, refused whole where a reserved bit is set. -/
def omiRegs (s : State) (c : Nat) (ws : List (Nat × Word)) : State := if strayWrites ws then badParam s c else omiPuts s c ws

/-! ### Grants (R436) -/

/-- Access-table entries of masters 2j and 2j + 1 of a target, changed by `f` and written. -/
def putEnts (s : State) (t j : Nat) (f : Nat → BitVec 16 → BitVec 16) : List (Nat × Word) :=
  [(Reg.actEnt + j, f (2 * j + 1) (actEntry s t (2 * j + 1)) ++ f (2 * j) (actEntry s t (2 * j)))]

/-- Change the entries of pairs `js` of a target. -/
def grantPairs (s : State) (t : Nat) (js : List Nat) (f : Nat → BitVec 16 → BitVec 16) : State × WrOut :=
  omiWrites s ((Reg.actTsel, BitVec.ofNat 32 t) :: js.flatMap fun j => putEnts s t j f)

/-- A grant: target, pairs of masters, the masters that take it, and the entry as it is to become. -/
structure Grant where
  t   : Nat
  js  : List Nat
  of  : Nat → Bool
  f   : BitVec 16 → BitVec 16

def grantAll (s : State) : List Grant → State × WrOut
  | [] => (s, .done)
  | g :: r =>
    match grantPairs s g.t g.js (fun m e => if g.of m then g.f e else e) with
    | (s, .done) => grantAll s r
    | x => x

/-- The nibbles of a world, at both levels. -/
def worldNib (vital : Bool) (nib : Nat) (e : BitVec 16) : BitVec 16 :=
  let v := BitVec.ofNat 16 (nib * 0x11)
  if vital then (e &&& 0x00FF#16) ||| (v <<< 8) else (e &&& 0xFF00#16) ||| v

def engPairs : List Nat := List.range 16
def toEngines (vital : Bool) (nib t : Nat) : Grant := ⟨t, engPairs, fun m => decide (m < 32), worldNib vital nib⟩
def toFabric (vital : Bool) (nib t : Nat) : Grant := ⟨t, [17], fun m => decide (m = 34), worldNib vital nib⟩

/-- The defaults of an Application, as its registers stand. -/
def appGrants (s : State) (a : Nat) (vital : Bool) : List Grant :=
  let slots := [slotBase s a false, slotBase s a true].filterMap (regionOf s)
  [toEngines vital needR (0x61 + 3 * a), toEngines vital (needR + needB) (0x62 + 3 * a), toEngines vital (needR + needB) (0x63 + 3 * a)] ++
  ((sidesOf s a).flatMap fun t => [toEngines vital (needR + needW) t, toFabric vital (needR + needW) t]) ++
  ((markersOf s a).flatMap fun t => [toEngines vital 0 t, toFabric vital needR t]) ++
  slots.map fun r => toEngines vital (needR + needX) (0x40 + r)

/-- Applications enabled in either bank, and whether they are Auxiliary. -/
def enabledAny (s : State) : List Nat := appsAll.filter (appEither s)
def auxApp (s : State) (a : Nat) : Bool := !(appVital s (if appEn s (aBank s) a then aBank s else !aBank s) a)

/-- What a profile grants host IDs on a target. -/
def profileNib (s : State) (p t : Nat) : Nat :=
  let held (a : Nat) : Bool := (sidesOf s a ++ markersOf s a).contains t
  if p = 0 then 0
  else if t < 64 then
    (if (enabledAny s).any held then needR else 0) + (if p = 2 ∧ (enabledAny s).any (fun a => held a && auxApp s a) then needW else 0)
  else if 0x50 ≤ t ∧ t ≤ 0x60 ∧ t ≠ 0x56 ∧ t ≠ 0x5F then needR else 0

/-- SET_PROFILE: pairs 19 to 22 hold masters 38 to 45. -/
def setProfile (s : State) (c : Nat) : State :=
  let p := (param s c 0).toNat
  if p > 2 then badParam s c
  else
    match grantAll s ((List.range 0xC2).map fun t => ⟨t, [19, 20, 21, 22], fun _ => true, fun _ => BitVec.ofNat 16 (profileNib s p t)⟩) with
    | (s, .done) => omiOk s c []
    | (s, r) => omiStop s c r 0

/-! ### Applications -/

def isDef (s : State) (a : Nat) : Bool := (Sparse.get none s.defs a).isSome
def defWord (s : State) (a : Nat) : Word := (Sparse.get none s.defs a).getD 0#32

/-- The Application that APP_DEFINE names. -/
def defApp (s : State) (p : Nat) : Option Nat := if p = 0xFF then appsAll.find? fun a => !isDef s a else some p

def segRegs : List Nat := [Reg.imgInt, Reg.imgInl, Reg.imgOutt, Reg.imgOutl, Reg.imgMrkt, Reg.imgMrkl, Reg.imgRet, Reg.imgSafe]

/-- The writes of APP_DEFINE in order. -/
def defineWrites (s : State) (c a : Nat) : List (Nat × Word) :=
  [(Reg.schedSlota + a, param s c 2), (Reg.schedSlotb + a, param s c 3), (Reg.schedAslot, putBit (rd s Reg.schedAslot) a (bit (param s c 4) 0))] ++
  (indexed 0 segRegs).map fun p => (p.2 + a, param s c (5 + p.1))

def appDefine (s : State) (c : Nat) : State :=
  let p := (param s c 0).toNat
  let flds := param s c 1
  match defApp s p with
  | none => complete s c stAppLimit 0 []
  | some a =>
    if a > 31 || stray flds 0x3FFE#32 || stray (param s c 4) 1#32 || strayWrites (defineWrites s c a) then badParam s c
    else if appEither s a then
      match omiWrites s [(Reg.imgInt + a, param s c 5)] with
      | (s, .full) => complete s c stJournal 0 []
      | (s, _) => badState s c (imgErr s)
    else
      match omiWrites s (defineWrites s c a) with
      | (s, .done) =>
        let s := { s with defs := Sparse.set none s.defs a (some flds) }
        match grantAll s (appGrants s a (bit flds 1)) with
        | (s, .done) => omiOk s c [BitVec.ofNat 32 a]
        | (s, r) => omiStop s c r 0
      | (s, r) => omiStop s c r (imgErr s)

/-- APP_REMOVE: the Application is defined no longer and its segments are given up, lengths first (DESIGN CHOICE, log 40). -/
def appRemove (s : State) (c : Nat) : State :=
  let a := (param s c 0).toNat
  if a > 31 then badParam s c
  else if appEither s a then badState s c 0
  else
    match omiWrites s ([Reg.imgInl, Reg.imgOutl, Reg.imgMrkl, Reg.imgRet, Reg.imgInt, Reg.imgOutt, Reg.imgMrkt, Reg.imgSafe].map fun r => (r + a, 0#32)) with
    | (s, .done) => omiOk { s with defs := Sparse.set none s.defs a none } c []
    | (s, r) => omiStop s c r (imgErr s)

/-! ### Schedule (R433, R265) -/

/-- Masks of the words of a Glade entry (R57). -/
def entMasks : List Word := [0xFFFFFFFF#32, 0x7FFFFFF#32, 0xFFFFFF#32, 0xFFFFF#32, 0xFFFFFFFF#32, 0x1FFFFF#32, 0#32, 0#32]
/-- A table of elements whose words have these masks sets a reserved bit. -/
def strayTable (masks : List Word) (ws : List Word) : Bool :=
  (indexed 0 ws).any fun p => stray p.2 (nth masks (p.1 % masks.length))

/-- SCHED_CTL with WBANK = b, ready for a further bit. -/
def ctlWord (s : State) (b : Bool) : Word := putBit (rd s Reg.schedCtl &&& 0x1FF01#32) 1 b

/-- The writes that fill bank `b`: 64 entries, those past the object invalid, and the Applications of ENMASK. -/
def bankWrites (s : State) (mask : Word) (ws : List Word) : List (Nat × Word) :=
  ((List.range 64).flatMap fun m =>
    if 8 * m < ws.length then (List.range 6).map fun i => (Reg.schedGoff + 8 * m + i, nth ws (8 * m + i))
    else [(Reg.schedGoff + 8 * m, 0#32)]) ++
  (List.range 32).map fun a => (Reg.schedApp + a, if bit mask a then defWord s a ||| 1#32 else 0#32)

/-- The first cycle at or past a number that R58 allows for a swap. -/
def swapCycle (s : State) (n : Nat) : Nat :=
  let k := (List.range 32).foldl (fun k a =>
    let k := if appEn s false a then max k (appPer s false a) else k
    if appEn s true a then max k (appPer s true a) else k) 1
  (n + k - 1) / k * k

/-- A primary with a live twin: it swaps together with the standby. -/
def swapsWithTwin (s : State) : Bool := bound s && decide (s.dev = .run) && s.twin.live

/-- MODE 0: EN := 1. -/
def scheduleNow (s : State) (c : Nat) (b : Bool) : State :=
  match omiWrites s [(Reg.schedCtl, ctlWord s b ||| 1#32)] with
  | (s, .done) =>
    if schedOn s then
      let n := BitVec.ofNat 64 (nextCyc s)
      omiOk (freeObj s c) c [lo32 n, hi32 n]
    else complete s c stBadParam (rf s Reg.schedStat 7 4) (cfgData s)
  | (s, r) => omiStop s c r 0

/-- MODE 1: SCHED_SWAP, then SWAPREQ; on a pair the standby is asked first, and the command waits for its word. -/
def scheduleSwap (s : State) (c : Nat) (b : Bool) (lead : Nat) : State :=
  let d := BitVec.ofNat 64 (swapCycle s (cycNow s + lead))
  match omiWrites s [(Reg.schedSwapl, lo32 d), (Reg.schedSwaph, hi32 d)] with
  | (s, .done) =>
    let w : WaitCmd := { chan := c, kind := .swap d, hseq := some (rd s Reg.jrnHead) }
    if swapsWithTwin s then
      mgmtSend { s with waits := s.waits ++ [w], twin := { s.twin with swapPrep := some d } } 4 [lo32 d, hi32 d, 1#32, bankDigest s b]
    else
      match omiWrites s [(Reg.schedCtl, ctlWord s b ||| 8#32)] with
      | (s, .done) =>
        if swapPend s then omiOk (freeObj s c) c [lo32 d, hi32 d]
        else complete s c stBadParam (rf s Reg.schedStat 7 4) (cfgData s)
      | (s, r) => omiStop s c r 0
  | (s, r) => omiStop s c r 0

def scheduleSet (s : State) (c : Nat) : State :=
  let p := param s c 0
  let mask := param s c 1
  let swap := bit p 0
  let lead := fld p 15 8
  match passedObj s c 1 with
  | none => badParam s c
  | some o =>
    match objWords s o with
    | (s, none) => badState s c 0
    | (s, some ws) =>
      if stray p 0xFF01#32 || (swap && decide (lead < 2)) || strayTable entMasks ws || (appsAll.any fun a => bit mask a && !isDef s a) then
        badParam s c
      else if swap && s.twin.joining then omiBusy s c
      else if swap && !schedOn s || !swap && (schedOn s || decide (s.dev = .safeHold)) then badState s c 0
      else if swap && swapPend s then omiBusy s c
      else
        let b := !aBank s
        match omiWrites s ((Reg.schedCtl, ctlWord s b) :: bankWrites s mask ws) with
        | (s, .done) => if swap then scheduleSwap s c b lead else scheduleNow s c b
        | (s, r) => omiStop s c r 0

/-! ### Tables -/

/-- Masks of filter, route and item elements (R107, R94, R309). -/
def filterMasks : List Word := [0xFFFFFFFF#32, 0x1FFFFFFF#32, 0x13F#32, 0#32]
def routeMasks : List Word := [0xFF#32, 0xFFFF#32, 0x1FFFF#32, 0x1FFFF#32]
def itemMasks : List Word := [0x07FFFFFF#32, 0x07FFFFFF#32]

/-- A passed object's words go to a tarn, then `next`; a tarn that sleeps is woken first, and the command goes on when it answers. -/
def tableSet (s : State) (c kind t off : Nat) (masks : List Word) (ovr : State → State) (next : State → Nat → State) : State :=
  match passedObj s c kind with
  | none => badParam s c
  | some o =>
    if off + o.total / 4 > 0x8000 then ovr s
    else if !tarnUp s t then askWake s t
    else
      match objWords s o with
      | (s, none) => badState s c 0
      | (s, some ws) =>
        if strayTable masks ws then badParam s c
        else
          match wspTarnWrite s t off ws with
          | (s, true) => next s ws.length
          | (s, false) => badState s c 0

def filterSet (s : State) (c : Nat) : State :=
  let p := (param s c 0).toNat
  let t := (param s c 1).toNat
  let off := (param s c 2).toNat
  if p > 15 ∨ !itTarnOk t ∨ off > 0x7FFF then badParam s c
  else
    tableSet s c 2 t off filterMasks (badParam · c) fun s n =>
      match omiWrites s [(Reg.attFlt + p, BitVec.ofNat 32 (t + off * 2 ^ 6 + n / 4 * 2 ^ 21))] with
      | (s, .done) => omiOk (freeObj s c) c []
      | (s, r) => omiStop s c r 0

/-- ROUTES_SET: IMG decides on the table before the command completes (R96). -/
def routesSet (s : State) (c : Nat) : State :=
  let off := (param s c 0).toNat
  if off > 0x7FFF then badParam s c
  else
    tableSet s c 3 61 off routeMasks (fun s => complete s c stBadParam 8 []) fun s n =>
      match omiWrites s [(Reg.imgRtbl, BitVec.ofNat 32 (off + n / 4 * 2 ^ 15))] with
      | (s, .done) =>
        match routeDecide s with
        | (s, true) => omiOk (freeObj s c) c []
        | (s, false) => complete s c stBadParam (imgErr s) []
      | (s, r) => omiStop s c r (imgErr s)

/-- ITEMS_SET (R310). -/
def itemsSet (s : State) (c : Nat) : State :=
  let t := (param s c 0).toNat
  let off := (param s c 1).toNat
  let st := (param s c 2).toNat
  if off > 0x7FFF ∨ st > 63 then badParam s c
  else if !itTarnOk t then complete s c stBadParam 2 []
  else
    tableSet s c 4 t off itemMasks (fun s => complete s c stBadParam 1 []) fun s n =>
      let v := BitVec.ofNat 32 (n / 2 + st * 2 ^ 13)
      match omiWrites s [(Reg.shrItbl, BitVec.ofNat 32 (t + off * 2 ^ 6))] with
      | (s, .done) =>
        let ok := (itemDecide s v).2
        match omiWrites s [(Reg.shrItcnt, v)] with
        | (s, .done) => if ok then omiOk (freeObj s c) c [] else complete s c stBadParam (itErr s) []
        | (s, r) => omiStop s c r 0
      | (s, r) => omiStop s c r 0

/-! ### Starting, switching over, Safe Hold -/

/-- A device that would start while its node is not admitted (R307). -/
def notAdmitted (s : State) : Bool := ringEn s && !ringAdmitted s
def refuseStart (s : State) (c : Nat) : State :=
  if rf s Reg.shrStat 25 24 = 1 then complete s c stNodeExcess 0 [] else badState s c 0

/-- START (R26, R268, R270). -/
def startCmd (s : State) (c : Nat) : State :=
  let role := (param s c 0).toNat
  if role > 2 then badParam s c
  else if decide (role = 0) == bound s then badState s c 0
  else if joinWaits s then omiBusy s c
  else if notAdmitted s then refuseStart s c
  else if role < 2 then omiOk (setDev s .run 4) c []
  else if !joinFit s || !(reachSet s).contains (twNode s) then badState s c 0
  else
    mgmtSend { s with waits := s.waits ++ [{ chan := c, kind := .startStandby, hseq := none }] } 7
      [jcWord jcRequest 0 true, joinDigest s, BitVec.ofNat 32 (twNode s)]

/-- An edit is armed or awaited. -/
def editBusy (s : State) : Bool := edHeld s || s.waits.any (·.isEdit)

/-- SWITCHOVER, step 1 of R278. -/
def switchCmd (s : State) (c : Nat) : State :=
  let lead := (param s c 0).toNat
  if lead < 2 ∨ lead > 255 then badParam s c
  else if s.twin.joining then omiBusy s c
  else if !(bound s && s.twin.live && inStep s) then badState s c 0
  else if editBusy s || s.waits.any (·.isTwin) || s.twin.armed.isSome then omiBusy s c
  else
    let d := BitVec.ofNat 64 (cycNow s + lead)
    mgmtSend { s with waits := s.waits ++ [{ chan := c, kind := .switchover d, hseq := none }], twin := { s.twin with prep := some d } } 4
      [lo32 d, hi32 d, 0#32, 0#32]

/-- ID_STATE as a Safe Hold by command will leave it, for its journal entry (DEDUCED, log 40). -/
def holdWord (s : State) : Word := BitVec.ofNat 32 (6 + s.dev.code * 16 + 4 * 256)

/-- SAFE_HOLD (R409). -/
def safeHoldCmd (s : State) (c : Nat) : State :=
  if s.dev = .safeHold then omiOk s c []
  else omiOk (boundaryResume (enterSafeHold (jrnEvent s 0 Reg.idState 0x60 (idStateWord s) (holdWord s)) 4)) c []

/-- A member leaves its part of a pair: it tells the twin, an armed edit is abandoned, and a boundary that waits goes on. -/
def leaveTwin (s : State) : State :=
  let pair := s.twin.live || s.twin.joining
  let s := if pair then editFault (twinSend s 8 []) else s
  let s := endWaits s (·.isTwin) stBadState 0
  if pair then { sb s Reg.grvTwstat 0 false with twin := State.twinReset } else s
def afterLeave (s : State) : State :=
  match s.bnd.phase with
  | .idle => s
  | .handoff | .records => steps24 s true
  | .agree | .snapshots => steps57 s

/-- WD_BITE or LOSS holds the device in Safe Hold (R26). -/
def holdLatched (s : State) : Bool := rb s Reg.wdiStat 2 || rb s Reg.pwrVstat 4

def maintEnter (s : State) (c : Nat) : State :=
  if s.dev = .safeHold && holdLatched s then badState s c 0 else omiOk (afterLeave (setDev (leaveTwin s) .maintenance 4)) c []
def safeClear (s : State) (c : Nat) : State := if holdLatched s then badState s c 0 else omiOk (setDev s .config 4) c []

/-! ### Online edit (R237, R247, R249) -/

/-- Where the Wellspring copies a migration table in T61 (DESIGN CHOICE, log 40). -/
def migBase : Nat := 0x1000

/-- EDIT_STAGE: without an object the table has no entries (DEDUCED, log 40). -/
def editStage (s : State) (c : Nat) : State :=
  let a := (param s c 0).toNat
  let slot := (param s c 1).toNat
  if a > 31 ∨ slot > 1 then badParam s c
  else if s.twin.joining || editBusy s then omiBusy s c
  else
    let run (s : State) (n : Nat) : State :=
      match editCheck s a (decide (slot = 1)) migBase n none with
      | (s, .error r) => complete s c (editStatus r) r []
      | (s, .ok st) => omiOk (freeObj { s with edit := { s.edit with staged := some st } } c) c [BitVec.ofNat 32 st.t5]
    match objOf s c with
    | none => run s 0
    | some o =>
      if o.kind ≠ 5 ∨ !o.passed then badParam s c
      else
        match objWords s o with
        | (s, none) => complete s c stBadState 6 []
        | (s, some ws) =>
          match wspTarnWrite s 61 migBase ws with
          | (s, true) => run s (ws.length / 3)
          | (s, false) => complete s c stBadState 6 []

/-- EDIT_COMMIT, steps 1 to 3. -/
def editCommit (s : State) (c : Nat) : State :=
  let a := (param s c 0).toNat
  let lead := (param s c 1).toNat
  if a > 31 ∨ lead < 2 ∨ lead > 255 then badParam s c
  else if s.twin.joining || editBusy s then omiBusy s c
  else if !(bound s && s.twin.live) then badState s c 0
  else
    match s.edit.staged with
    | none => badState s c 1
    | some st =>
      if st.app ≠ a then badState s c 1
      else
        let k := match bankNow s with | some b => appPer s b a | none => 1
        let n := (cycNow s + lead + k - 1) / k * k
        match recheck s st false n with
        | (s, .error r) => complete s c (editStatus r) r []
        | (s, .ok st) =>
          match pendHeader s a with
          | (s, none) => badState s c 2
          | (s, some h) =>
            let eid := BitVec.ofNat 32 ((s.edit.eid.toNat + 1) % 65536)
            let w : WaitCmd := { chan := c, kind := .edit a (BitVec.ofNat 64 n) false, hseq := none }
            mgmtSend { s with waits := s.waits ++ [w], edit := { s.edit with staged := some st, eid := eid } } 1
              (prepWords eid.toNat n false h st)

/-- EDIT_ABORT: the primary writes ARM = 0, which completes the waiting EDIT_COMMIT with 0x0F (R243, R249). -/
def editAbort (s : State) (c : Nat) : State :=
  let a := (param s c 0).toNat
  if a > 31 then badParam s c
  else if s.twin.joining then omiBusy s c
  else if !edArmed s || decide (edApp s ≠ a) || (decide (s.bnd.phase ≠ .idle) && decide (edCyc s = bndCyc s)) then badState s c 0
  else
    let w := abrtWord (edEid s) 0x0F
    match omiWrites s [(Reg.schedEdctl, putBit (rd s Reg.schedEdctl) 5 false)] with
    | (s, .done) => omiOk (if bound s then mgmtSend s 3 [w] else s) c []
    | (s, r) => omiStop s c r 0

/-! ### Expert commands (R437) -/

def setAccess (s : State) (c : Nat) : State :=
  let t := (param s c 0).toNat
  let m := (param s c 1).toNat
  if t > 0xFF || m > 63 || stray (param s c 2) 0xFFFF#32 then badParam s c
  else omiPuts s c ((Reg.actTsel, BitVec.ofNat 32 t) ::
    putEnts s t (m / 2) fun k e => if k = m then (param s c 2).extractLsb' 0 16 else e)
def setRegion (s : State) (c : Nat) : State :=
  let r := (param s c 0).toNat
  if r > 15 then badParam s c
  else omiRegs s c [(Reg.actRbase + 2 * r, param s c 1), (Reg.actRlim + 2 * r, param s c 2), (Reg.cmxRattr + r, param s c 3)]
def groveMode (s : State) (c : Nat) : State :=
  let g := (param s c 0).toNat
  if g > 15 then badParam s c else omiRegs s c [(Reg.grvMode + g, param s c 1), (Reg.cmxPond + g, param s c 2)]
def unfenceCmd (s : State) (c : Nat) (pass : Bool) : State :=
  let g := (param s c 0).toNat
  if g > 15 then badParam s c
  else if !pass then badState (record s { faultOf 0x1A 2 with grove := BitVec.ofNat 4 g }) c 0x1A
  else omiPuts s c [(Reg.grvUnfence, BitVec.ofNat 32 (2 ^ g))]
def ringConfig (s : State) (c : Nat) : State :=
  omiRegs s c ((indexed 0 [Reg.shrNode, Reg.shrCtl, Reg.grvQw, Reg.grvQw + 1, Reg.grvQw + 2, Reg.grvQw + 3]).map fun p => (p.2, param s c p.1))
def timeRegs : List Nat :=
  [Reg.tbCtl, Reg.tbSetl, Reg.tbSeth, Reg.schedMcyc, Reg.schedGap, Reg.schedAgrto, Reg.schedEpochl, Reg.schedEpochh]
def timeConfig (s : State) (c : Nat) : State :=
  let mask := param s c 8
  if stray mask 0xFF#32 then badParam s c
  else omiRegs s c (((indexed 0 timeRegs).filter fun p => bit mask p.1).map fun p => (p.2, param s c p.1))
/-- Pairs of a tarn and its owner word. -/
def ownPairs : List Word → List (Nat × Word)
  | n :: v :: r => (n.toNat, v) :: ownPairs r
  | _ => []
def tarnConfig (s : State) (c : Nat) : State :=
  let ws := (params s c (cmdLen s c / 4)).drop 2
  let ps := ownPairs ws
  if ws.length % 2 ≠ 0 || ps.any (fun p => decide (p.1 > 63)) then badParam s c
  else omiRegs s c ([(Reg.tarnScrub, param s c 0), (Reg.tarnRet, param s c 1)] ++ ps.map fun p => (Reg.tarnOwn + p.1, p.2))
def icuConfig (s : State) (c : Nat) : State :=
  let n := (param s c 0).toNat
  if n > 255 then badParam s c else omiRegs s c [(Reg.icuSrc + n, param s c 1), (Reg.icuHold + n / 8, param s c 2)]

/-- WD_CONFIG (R457): owners, then the period code. -/
def wdConfig (s : State) (c : Nat) : State :=
  let mask := param s c 0
  let pcode := param s c 17
  let ws := ((List.range 16).filter (bit mask ·)).map fun k => (Reg.wdiCfg + k, param s c (1 + k))
  if stray mask 0xFFFF#32 || ((params s c 17).drop 1).any (stray · 0x3F#32) then badParam s c
  else if stray pcode 0xFF#32 then badParam s c
  else
    match omiWrites s ws with
    | (s, .done) =>
      if pcode = 0 then omiOk s c []
      else
        match omiWrites s [(Reg.wdiSet, pcode)] with
        | (s, .done) => omiOk s c []
        | (s, r) => omiStop s c r 8
    | (s, r) => omiStop s c r 0

/-! ### Rows -/

/-- SET_PROFILE (R436). -/
def execSetProfile (c : Chan) (s : State) : Host.Outcome State Fault Refusal := .next (omiRun s c.val 0x10 (setProfile · c.val))
/-- APP_DEFINE (R433). -/
def execAppDefine (c : Chan) (s : State) : Host.Outcome State Fault Refusal := .next (omiRun s c.val 0x11 (appDefine · c.val))
/-- APP_REMOVE (R433). -/
def execAppRemove (c : Chan) (s : State) : Host.Outcome State Fault Refusal := .next (omiRun s c.val 0x12 (appRemove · c.val))
/-- SCHEDULE_SET (R433). -/
def execScheduleSet (c : Chan) (s : State) : Host.Outcome State Fault Refusal := .next (omiRun s c.val 0x13 (scheduleSet · c.val))
/-- FILTER_SET (R433). -/
def execFilterSet (c : Chan) (s : State) : Host.Outcome State Fault Refusal := .next (omiRun s c.val 0x14 (filterSet · c.val))
/-- ROUTES_SET (R433). -/
def execRoutesSet (c : Chan) (s : State) : Host.Outcome State Fault Refusal := .next (omiRun s c.val 0x15 (routesSet · c.val))
/-- ITEMS_SET (R433). -/
def execItemsSet (c : Chan) (s : State) : Host.Outcome State Fault Refusal := .next (omiRun s c.val 0x16 (itemsSet · c.val))
/-- START (R433). -/
def execStart (c : Chan) (s : State) : Host.Outcome State Fault Refusal := .next (omiRun s c.val 0x17 (startCmd · c.val))
/-- SWITCHOVER (R278). -/
def execSwitchover (c : Chan) (s : State) : Host.Outcome State Fault Refusal := .next (omiRun s c.val 0x18 (switchCmd · c.val))
/-- SAFE_HOLD (R409). -/
def execSafeHold (c : Chan) (s : State) : Host.Outcome State Fault Refusal := .next (omiRun s c.val 0x19 (safeHoldCmd · c.val))
/-- EDIT_STAGE (R237). -/
def execEditStage (c : Chan) (s : State) : Host.Outcome State Fault Refusal := .next (omiRun s c.val 0x1A (editStage · c.val))
/-- EDIT_COMMIT (R247). -/
def execEditCommit (c : Chan) (s : State) : Host.Outcome State Fault Refusal := .next (omiRun s c.val 0x1B (editCommit · c.val))
/-- EDIT_ABORT (R249). -/
def execEditAbort (c : Chan) (s : State) : Host.Outcome State Fault Refusal := .next (omiRun s c.val 0x1C (editAbort · c.val))
/-- MAINT_ENTER (R437). -/
def execMaintEnter (c : Chan) (s : State) : Host.Outcome State Fault Refusal := .next (omiRun s c.val 0x40 (maintEnter · c.val))
/-- MAINT_LEAVE (R437). -/
def execMaintLeave (c : Chan) (s : State) : Host.Outcome State Fault Refusal :=
  .next (omiRun s c.val 0x41 fun s => omiOk (setDev s .config 4) c.val [])
/-- SAFE_CLEAR (R437). -/
def execSafeClear (c : Chan) (s : State) : Host.Outcome State Fault Refusal := .next (omiRun s c.val 0x42 (safeClear · c.val))
/-- SET_ACCESS (R437). -/
def execSetAccess (c : Chan) (s : State) : Host.Outcome State Fault Refusal := .next (omiRun s c.val 0x43 (setAccess · c.val))
/-- SET_REGION (R437). -/
def execSetRegion (c : Chan) (s : State) : Host.Outcome State Fault Refusal := .next (omiRun s c.val 0x44 (setRegion · c.val))
/-- GROVE_MODE (R437). -/
def execGroveMode (c : Chan) (s : State) : Host.Outcome State Fault Refusal := .next (omiRun s c.val 0x45 (groveMode · c.val))
/-- FENCE (R437). -/
def execFence (c : Chan) (s : State) : Host.Outcome State Fault Refusal :=
  .next (omiRun s c.val 0x46 fun s => omiPuts s c.val [(Reg.grvFence, param s c.val 0)])
/-- UNFENCE (R437): `pass` is the outcome of the self-test. -/
def execUnfence (c : Chan) (pass : Bool) (s : State) : Host.Outcome State Fault Refusal :=
  .next (omiRun s c.val 0x47 (unfenceCmd · c.val pass))
/-- TWIN_BIND (R437). -/
def execTwinBind (c : Chan) (s : State) : Host.Outcome State Fault Refusal :=
  .next (omiRun s c.val 0x48 fun s => omiRegs s c.val [(Reg.grvTwctl, param s c.val 0)])
/-- RING_CONFIG (R437). -/
def execRingConfig (c : Chan) (s : State) : Host.Outcome State Fault Refusal := .next (omiRun s c.val 0x49 (ringConfig · c.val))
/-- TIME_CONFIG (R437). -/
def execTimeConfig (c : Chan) (s : State) : Host.Outcome State Fault Refusal := .next (omiRun s c.val 0x4A (timeConfig · c.val))
/-- TARN_CONFIG (R437). -/
def execTarnConfig (c : Chan) (s : State) : Host.Outcome State Fault Refusal := .next (omiRun s c.val 0x4B (tarnConfig · c.val))
/-- CVU_CONFIG (R437). -/
def execCvuConfig (c : Chan) (s : State) : Host.Outcome State Fault Refusal :=
  .next (omiRun s c.val 0x4C fun s => omiRegs s c.val [(Reg.cvuVcfg, param s c.val 0), (Reg.icuPrigrp, param s c.val 1)])
/-- ICU_CONFIG (R437). -/
def execIcuConfig (c : Chan) (s : State) : Host.Outcome State Fault Refusal := .next (omiRun s c.val 0x4D (icuConfig · c.val))
/-- WD_CONFIG (R457). -/
def execWdConfig (c : Chan) (s : State) : Host.Outcome State Fault Refusal := .next (omiRun s c.val 0x57 (wdConfig · c.val))

end Sys2Proof.Machine
end

