-- ==== Sys2Proof/Machine/OmiFw.lean ====
section
/-! DEFINITION. The firmware commands (R457): flash operations run one by one (R451, R458), each ending with FLASH_COMMAND_DONE; the
commit record is rewritten in its other copy (R453). DEVICE_RESET. -/

namespace Sys2Proof.Machine

/-- The flash is in use by a command, or finishes an operation (R457). -/
def flashBusy (s : State) : Bool := s.flash.isSome || s.waits.any fun w => match w.kind with | .flash _ _ => true | _ => false

/-- A command holds the flash for its operations, of which the first starts. -/
def flashStart (s : State) (c : Nat) (ops : List FlashOp) (check : Option (Nat × List Byte)) : State :=
  { s with flash := ops.head?, waits := s.waits ++ [{ chan := c, kind := .flash ops check, hseq := none }] }

/-- A record programmed into the other copy is in force (R453). -/
def recDone (s : State) : FlashOp → State
  | .program a d => if a = copyOff (!s.boot.copyB) then recTake s (bytesWords d) else s
  | .erase _ => s

/-- The last operation is done: FW_WRITE reads its bytes back. -/
def flashEnd (s : State) (c : Nat) : Option (Nat × List Byte) → State
  | none => omiOk s c []
  | some (off, bs) =>
    match flashRead s off bs.length with
    | (s, none) => badState s c 7
    | (s, some r) => if r = bs then omiOk s c [] else badState s c 6

/-- The command that runs the flash goes on to its next operation, or ends. -/
def flashNext (s : State) (err : Bool) : State :=
  match s.waits.find? fun w => match w.kind with | .flash _ _ => true | _ => false with
  | none => s
  | some w =>
    if s.wspStopped then s
    else match w.kind with
    | .flash ops check =>
      if err then badState s w.chan 7
      else
        match ops.drop 1 with
        | [] => flashEnd s w.chan check
        | op :: r =>
          { s with flash := some op, waits := s.waits.map fun x => if x = w then { x with kind := .flash (op :: r) check } else x }
    | _ => s

/-- FLASH_COMMAND_DONE (R451): after ERR the sector holds free values, since no rule says what it holds. -/
def flashDone (s : State) (err : Bool) : State :=
  match s.flash with
  | none => s
  | some op =>
    let s := { s with flash := none }
    flashNext (if err then flashCut s op else recDone (flashApply s op) op) err

/-! ### Commands -/

/-- The record in force (R453). -/
def recHeld (s : State) : CommitRec := (recNow s).getD ⟨0#32, 0#8, 0#8, 0xFF#8, 0xFF#8, 0#32⟩
def isActive (s : State) (slot : Nat) : Bool := decide ((recHeld s).active = BitVec.ofNat 8 slot)
def isRunning (s : State) (slot : Nat) : Bool := rb s Reg.idBoot 0 == decide (slot = 1)
def slotBit (slot : Nat) : Byte := BitVec.ofNat 8 (2 ^ slot)

/-- VERSION, SVN and patch LEVEL of a slot that passes, zeros for one that does not (layout: DEDUCED, log 40). -/
def slotInfo (s : State) (slotB : Bool) : State × Except Nat (List Word) :=
  match slotCheck s slotB with
  | (s, .error c) => (s, if c = 7 then .error 7 else .ok [0, 0, 0])
  | (s, .ok im) =>
    let ws := [BitVec.ofNat 32 (leField im.hdr 0x0C 4), BitVec.ofNat 32 (leField im.hdr 6 2)]
    if fwPcOff im.hdr = 0 then (s, .ok (ws ++ [0]))
    else
      match flashRead s (slotOff slotB + fwPcOff im.hdr) 0x30 with
      | (s, none) => (s, .error 7)
      | (s, some p) => (s, .ok (ws ++ [BitVec.ofNat 32 (leField p 6 2)]))

def fwInfo (s : State) (c : Nat) : State :=
  if flashBusy s then omiBusy s c
  else
    match slotInfo s false with
    | (s, .error r) => badState s c r
    | (s, .ok a) =>
      match slotInfo s true with
      | (s, .error r) => badState s c r
      | (s, .ok b) => omiOk s c (s.boot.record.getD (List.replicate 16 0) ++ [rd s Reg.idBoot, rd s Reg.idBootcnt] ++ a ++ b)

def fwErase (s : State) (c : Nat) : State :=
  let k := (param s c 0).toNat
  if k > 1 then badParam s c
  else if flashBusy s then omiBusy s c
  else if isRunning s k || isActive s k then badState s c 1
  else
    let r := recHeld s
    let r2 := { r with commit := r.commit &&& ~~~ slotBit k, pend := if r.pend = BitVec.ofNat 8 k then 0xFF#8 else r.pend }
    flashStart s c (recOps s (recNext s r2) ++ (List.range 64).map fun i => .erase (slotOff (decide (k = 1)) + 4096 * i)) none

/-- Bytes cut into page programs. -/
def pageOps : Nat → Nat → List Byte → List FlashOp
  | 0, _, _ => []
  | f + 1, a, bs =>
    let n := 256 - a % 256
    if bs.isEmpty then [] else .program a (bs.take n) :: pageOps f (a + n) (bs.drop n)

def fwWrite (s : State) (c : Nat) : State :=
  let k := (param s c 0).toNat
  let off := (param s c 1).toNat
  let n := cmdLen s c - 8
  let bs := wordsBytes ((params s c (cmdLen s c / 4)).drop 2)
  if k > 1 ∨ off % 4 ≠ 0 then badParam s c
  else if off + n > 0x40000 then complete s c stLength 0 []
  else if flashBusy s then omiBusy s c
  else if isRunning s k || isActive s k then badState s c 1
  else
    let a := slotOff (decide (k = 1)) + off
    flashStart s c (pageOps 8 a bs) (some (a, bs))

def fwVerify (s : State) (c : Nat) : State :=
  let k := (param s c 0).toNat
  if k > 1 then badParam s c
  else if flashBusy s then omiBusy s c
  else
    match slotCheck s (decide (k = 1)) with
    | (s, .ok _) => omiOk s c []
    | (s, .error r) => badState s c r

def fwActivate (s : State) (c : Nat) : State :=
  let k := (param s c 0).toNat
  if k > 1 then badParam s c
  else if flashBusy s then omiBusy s c
  else if isActive s k then badState s c 1
  else
    match slotCheck s (decide (k = 1)) with
    | (s, .error r) => badState s c r
    | (s, .ok _) => flashStart s c (recOps s (recNext s { recHeld s with pend := BitVec.ofNat 8 k })) none

def fwConfirm (s : State) (c : Nat) : State :=
  if flashBusy s then omiBusy s c
  else if !rb s Reg.idBoot 1 then badState s c 1
  else
    let k := b2n (rb s Reg.idBoot 0)
    let r := recHeld s
    flashStart s c (recOps s (recNext s { r with active := BitVec.ofNat 8 k, commit := r.commit ||| slotBit k, trials := 0xFF#8 })) none

/-- The words of the frame queued last at a port. -/
def lastFrame (s : State) : List Word :=
  match s.shr.pa.tx.getLast?, s.shr.pb.tx.getLast? with
  | some f, _ => f.words
  | none, some f => f.words
  | none, none => []

/-- DEVICE_RESET: LEFT leaves within the 10 us before the CMD source (it shows at `outData`, log 41), and no response is posted. -/
def deviceReset (s : State) : State :=
  let s := if bound s then (let t := twinSend s 8 []; { t with outResp := 0, outData := lastFrame t }) else s
  devReset s .cmd

/-! ### Rows -/

/-- FW_INFO (R457). -/
def execFwInfo (c : Chan) (s : State) : Host.Outcome State Fault Refusal := .next (omiRun s c.val 0x50 (fwInfo · c.val))
/-- FW_ERASE (R457). -/
def execFwErase (c : Chan) (s : State) : Host.Outcome State Fault Refusal := .next (omiRun s c.val 0x51 (fwErase · c.val))
/-- FW_WRITE (R457). -/
def execFwWrite (c : Chan) (s : State) : Host.Outcome State Fault Refusal := .next (omiRun s c.val 0x52 (fwWrite · c.val))
/-- FW_VERIFY (R457). -/
def execFwVerify (c : Chan) (s : State) : Host.Outcome State Fault Refusal := .next (omiRun s c.val 0x53 (fwVerify · c.val))
/-- FW_ACTIVATE (R457). -/
def execFwActivate (c : Chan) (s : State) : Host.Outcome State Fault Refusal := .next (omiRun s c.val 0x54 (fwActivate · c.val))
/-- FW_CONFIRM (R457). -/
def execFwConfirm (c : Chan) (s : State) : Host.Outcome State Fault Refusal := .next (omiRun s c.val 0x55 (fwConfirm · c.val))
/-- DEVICE_RESET (R457). -/
def execDeviceReset (c : Chan) (s : State) : Host.Outcome State Fault Refusal := .next (omiRun s c.val 0x56 deviceReset)
/-- FLASH_COMMAND_DONE (R451). -/
def execFlashCommandDone (err : Bool) (s : State) : Host.Outcome State Fault Refusal := .next (flashDone s err)

end Sys2Proof.Machine
end

