-- ==== Sys2Proof/Machine/RegWrite.lean ====
section
/-! DEFINITION. REGISTER_WRITE: a write of one register over any of the three paths that reach one: IO-space (R17), the slave port
(R422) and the debug address space (R475). -/

namespace Sys2Proof.Machine

/-- The plain registers of the debug port (R475): W1C flags of DBG_STAT; SIZE 0b11 is written as 0b10; EN clears SAGSTOP. -/
def dbgPlain (s : State) (a : Nat) (v : Word) : State :=
  if a = 0 then dbgWr s 0 (dbgRd s 0 &&& ~~~ (v &&& 0x130#32))
  else if (0x008 ≤ a ∧ a ≤ 0x00F) ∨ a = 0x015 ∨ a = 0x020 ∨ a = 0x031 ∨ a = 0x032 then dbgWr s a v
  else if a = 0x013 then dbgWr s a (v &&& 0x1F#32)
  else if a = 0x021 then dbgWr s a (if fld v 3 2 = 3 then putFld (v &&& 0x3FF#32) 3 2 2 else v &&& 0x3FF#32)
  else if a = 0x030 then dbgWr s a ((v &&& 0x1F#32) ||| (if bit v 4 then 0#32 else dbgRd s a &&& 0x20#32))
  else s

/-- RSTREQ (R475). -/
def rstReq (s : State) (v : Word) : State :=
  atLevel s false 0x03F 2 fun s => if bit v 0 then resetAssert (dacc s false 0x03F respOk 0) .debug else dacc s false 0x03F respOk 0

/-- A write by the debugger. -/
def dbgWrite (s : State) (a : Nat) (v : Word) : State :=
  if a = 0x005 then authWrite s v
  else if a = 0x010 then haltWrite s v
  else if a = 0x011 then runWrite s v
  else if a = 0x016 then feedWrite s v
  else if a = 0x018 then xferPush s v
  else if a = 0x01A then vrxWrite s v
  else if a = 0x022 then mdataWrite s v
  else if a = 0x03F then rstReq s v
  else atLevel s false a (dbgNeed a) fun s => dacc (dbgPlain s a v) false a respOk 0

/-- A write of one word as a beat of the bus: the word and its byte enables on their lane. -/
def oneLane (off : Nat) (be : BitVec 4) (v : Word) : BusReq :=
  let k := off % 16 / 4
  { off := off / 16 * 16, beats := 1, wr := true, words := (List.range 4).map fun i => if i = k then v else 0#32,
    be := [(be.setWidth 16) <<< (4 * k)] }

/-- A write by a host: a register, or one word of a window (R422, R440, R507). -/
def hostWrite (s : State) (h off : Nat) (be : BitVec 4) (v : Word) : State :=
  if 0xC000 ≤ off ∧ off < 0x10000 then expertAccess s h (oneLane (off - 0xC000) be v)
  else if 0x40000 ≤ off then tarnWindow s h ((off - 0x40000) / 0x20000) (oneLane ((off - 0x40000) % 0x20000) be v)
  else slaveWriteBe s h off be v

/-- A write over a path. -/
def registerWrite (p : RegPath) (v : Word) (s : State) : State :=
  match p with
  | .io m a => regWrite s m.val a.toNat v
  | .host h off be => hostWrite s h.val off.toNat be v
  | .dbg a => dbgWrite s a.toNat v

/-- REGISTER_WRITE (R12). -/
def execRegisterWrite (p : RegPath) (v : Word) (s : State) : Host.Outcome State Fault Refusal := .next (registerWrite p v s)

end Sys2Proof.Machine
end

