-- ==== Sys2Proof/Machine/Wdi.lean ====
section
/-! DEFINITION. The watchdog interface: windows (R463), the bite and its capture
(R468, R469). -/

namespace Sys2Proof.Machine

/-- WD_OPEN after its synchroniser (R463); in Reset it is ignored (R496). -/
def openRise (s : State) : State := if inReset s then s else doneClear (sb s Reg.wdiStat 0 true)
def openFall (s : State) : State := if inReset s then s else sb s Reg.wdiStat 0 false

/-- The PC that an engine gives to the capture (R468). -/
def capturePc (s : State) (e : Nat) : Word :=
  if e < 32 && (engFenced s e || gated s (e / 2)) then 0xFFFFFFFF#32 else (eng s e).pc

/-- WD_BITE: accepted once until Reset (R468). -/
def wdBite (s : State) : State :=
  if inReset s || rb s Reg.wdiStat 2 then s
  else
    let d := appsAll.any fun a => (app s a).active
    let s := record (sb s Reg.wdiStat 2 true) { faultOf 0x17 3 with discard := d }
    enterSafeHold { s with frozen := some ((List.range 33).map (capturePc s)) } 0x0A

/-- The entries of the capture: ADDR, OLD, NEW (R468). -/
def captureEntries (s : State) (pcs : List Word) : List (Nat × Word × Word) :=
  ((List.range 16).map fun g => (g, nth pcs (2 * g), nth pcs (2 * g + 1))) ++
  [(0x10, nth pcs 32, rd s Reg.schedCycl)] ++
  ((List.range 16).map fun k => (0x20 + k, rd s (Reg.wdiLastl + k), rd s (Reg.wdiLasth + k)))

/-- BITE_CAPTURE: one per Reset. -/
def biteCapture (s : State) : State :=
  match s.frozen with
  | none => s
  | some pcs =>
    if s.captured then s
    else { (captureEntries s pcs).foldl (fun st x => jrnEvent st 4 x.1 0x5C x.2.1 x.2.2) s with captured := true, frozen := none }

/-! ### Rows -/

/-- WD_OPEN_RISE (R463). -/
def execWdOpenRise (s : State) : Host.Outcome State Fault Refusal := .next (openRise s)
/-- WD_OPEN_FALL (R463). -/
def execWdOpenFall (s : State) : Host.Outcome State Fault Refusal := .next (openFall s)
/-- WD_BITE (R468). -/
def execWdBite (s : State) : Host.Outcome State Fault Refusal := .next (wdBite s)
/-- BITE_CAPTURE (R468). -/
def execBiteCapture (s : State) : Host.Outcome State Fault Refusal := .next (biteCapture s)

end Sys2Proof.Machine
end

