-- ==== Sys2Proof/Machine/Dispatch.lean ====
section
/-! DEFINITION. One arm per command, each a direct call of its meaning. -/

namespace Sys2Proof.Machine

/-- A command's effect on everything but the queue. -/
def exec (i : Instr) (s : State) : Host.Outcome State Fault Refusal :=
  match i with
  | .nop e => Sys2Proof.Machine.execNop e s
  | .dup e => Sys2Proof.Machine.execDup e s
  | .drop e => Sys2Proof.Machine.execDrop e s
  | .swap e => Sys2Proof.Machine.execSwap e s
  | .ovr e => Sys2Proof.Machine.execOver e s
  | .rot e => Sys2Proof.Machine.execRot e s
  | .nip e => Sys2Proof.Machine.execNip e s
  | .tuck e => Sys2Proof.Machine.execTuck e s
  | .pick e imm => Sys2Proof.Machine.execPick e imm s
  | .dup2 e => Sys2Proof.Machine.execDup2 e s
  | .drop2 e => Sys2Proof.Machine.execDrop2 e s
  | .swap2 e => Sys2Proof.Machine.execSwap2 e s
  | .lit8 e imm => Sys2Proof.Machine.execLit8 e imm s
  | .lit16 e imm => Sys2Proof.Machine.execLit16 e imm s
  | .lit32 e imm => Sys2Proof.Machine.execLit32 e imm s
  | .lith e imm => Sys2Proof.Machine.execLith e imm s
  | .add e => Sys2Proof.Machine.execAdd e s
  | .sub e => Sys2Proof.Machine.execSub e s
  | .adc e => Sys2Proof.Machine.execAdc e s
  | .sbb e => Sys2Proof.Machine.execSbb e s
  | .neg e => Sys2Proof.Machine.execNeg e s
  | .abs e => Sys2Proof.Machine.execAbs e s
  | .inc e => Sys2Proof.Machine.execInc e s
  | .dec e => Sys2Proof.Machine.execDec e s
  | .cmp e => Sys2Proof.Machine.execCmp e s
  | .min e => Sys2Proof.Machine.execMin e s
  | .max e => Sys2Proof.Machine.execMax e s
  | .minu e => Sys2Proof.Machine.execMinu e s
  | .maxu e => Sys2Proof.Machine.execMaxu e s
  | .limit e => Sys2Proof.Machine.execLimit e s
  | .sexb e => Sys2Proof.Machine.execSexb e s
  | .sexh e => Sys2Proof.Machine.execSexh e s
  | .iAnd e => Sys2Proof.Machine.execAnd e s
  | .iOr e => Sys2Proof.Machine.execOr e s
  | .xor e => Sys2Proof.Machine.execXor e s
  | .iNot e => Sys2Proof.Machine.execNot e s
  | .tst e => Sys2Proof.Machine.execTst e s
  | .eqz e => Sys2Proof.Machine.execEqz e s
  | .eq e => Sys2Proof.Machine.execEq e s
  | .ne e => Sys2Proof.Machine.execNe e s
  | .lt e => Sys2Proof.Machine.execLt e s
  | .le e => Sys2Proof.Machine.execLe e s
  | .ltu e => Sys2Proof.Machine.execLtu e s
  | .leu e => Sys2Proof.Machine.execLeu e s
  | .shl e => Sys2Proof.Machine.execShl e s
  | .shr e => Sys2Proof.Machine.execShr e s
  | .sar e => Sys2Proof.Machine.execSar e s
  | .rol e => Sys2Proof.Machine.execRol e s
  | .ror e => Sys2Proof.Machine.execRor e s
  | .shli e imm => Sys2Proof.Machine.execShli e imm s
  | .shri e imm => Sys2Proof.Machine.execShri e imm s
  | .sari e imm => Sys2Proof.Machine.execSari e imm s
  | .roli e imm => Sys2Proof.Machine.execRoli e imm s
  | .zexb e => Sys2Proof.Machine.execZexb e s
  | .zexh e => Sys2Proof.Machine.execZexh e s
  | .ldw e => Sys2Proof.Machine.execLdw e s
  | .ldh e => Sys2Proof.Machine.execLdh e s
  | .ldhu e => Sys2Proof.Machine.execLdhu e s
  | .ldb e => Sys2Proof.Machine.execLdb e s
  | .ldbu e => Sys2Proof.Machine.execLdbu e s
  | .ldd e => Sys2Proof.Machine.execLdd e s
  | .stw e => Sys2Proof.Machine.execStw e s
  | .sth e => Sys2Proof.Machine.execSth e s
  | .stb e => Sys2Proof.Machine.execStb e s
  | .std e => Sys2Proof.Machine.execStd e s
  | .ldwa e imm => Sys2Proof.Machine.execLdwa e imm s
  | .ldba e imm => Sys2Proof.Machine.execLdba e imm s
  | .stwa e imm => Sys2Proof.Machine.execStwa e imm s
  | .stba e imm => Sys2Proof.Machine.execStba e imm s
  | .ldws e imm => Sys2Proof.Machine.execLdws e imm s
  | .ldbs e imm => Sys2Proof.Machine.execLdbs e imm s
  | .stws e imm => Sys2Proof.Machine.execStws e imm s
  | .stbs e imm => Sys2Proof.Machine.execStbs e imm s
  | .ldwo e imm => Sys2Proof.Machine.execLdwo e imm s
  | .stwo e imm => Sys2Proof.Machine.execStwo e imm s
  | .ldl e => Sys2Proof.Machine.execLdl e s
  | .stc e => Sys2Proof.Machine.execStc e s
  | .iord e => Sys2Proof.Machine.execIord e s
  | .iowr e => Sys2Proof.Machine.execIowr e s
  | .iordi e imm => Sys2Proof.Machine.execIordi e imm s
  | .iowri e imm => Sys2Proof.Machine.execIowri e imm s
  | .bra e imm => Sys2Proof.Machine.execBra e imm s
  | .bral e imm => Sys2Proof.Machine.execBral e imm s
  | .jmp e imm => Sys2Proof.Machine.execJmp e imm s
  | .jmps e => Sys2Proof.Machine.execJmps e s
  | .call e imm => Sys2Proof.Machine.execCall e imm s
  | .calla e imm => Sys2Proof.Machine.execCalla e imm s
  | .calls e => Sys2Proof.Machine.execCalls e s
  | .ret e => Sys2Proof.Machine.execRet e s
  | .bz e imm => Sys2Proof.Machine.execBz e imm s
  | .bnz e imm => Sys2Proof.Machine.execBnz e imm s
  | .bzl e imm => Sys2Proof.Machine.execBzl e imm s
  | .bnzl e imm => Sys2Proof.Machine.execBnzl e imm s
  | .beq e imm => Sys2Proof.Machine.execBeq e imm s
  | .bne e imm => Sys2Proof.Machine.execBne e imm s
  | .bcs e imm => Sys2Proof.Machine.execBcs e imm s
  | .bcc e imm => Sys2Proof.Machine.execBcc e imm s
  | .bmi e imm => Sys2Proof.Machine.execBmi e imm s
  | .bpl e imm => Sys2Proof.Machine.execBpl e imm s
  | .bvs e imm => Sys2Proof.Machine.execBvs e imm s
  | .bvc e imm => Sys2Proof.Machine.execBvc e imm s
  | .blt e imm => Sys2Proof.Machine.execBlt e imm s
  | .bge e imm => Sys2Proof.Machine.execBge e imm s
  | .ble e imm => Sys2Proof.Machine.execBle e imm s
  | .bgt e imm => Sys2Proof.Machine.execBgt e imm s
  | .bhi e imm => Sys2Proof.Machine.execBhi e imm s
  | .bls e imm => Sys2Proof.Machine.execBls e imm s
  | .loop e imm => Sys2Proof.Machine.execLoop e imm s
  | .bld e imm => Sys2Proof.Machine.execBld e imm s
  | .bldn e imm => Sys2Proof.Machine.execBldn e imm s
  | .band e imm => Sys2Proof.Machine.execBand e imm s
  | .bandn e imm => Sys2Proof.Machine.execBandn e imm s
  | .bor e imm => Sys2Proof.Machine.execBor e imm s
  | .born e imm => Sys2Proof.Machine.execBorn e imm s
  | .bxor e imm => Sys2Proof.Machine.execBxor e imm s
  | .bxorn e imm => Sys2Proof.Machine.execBxorn e imm s
  | .bst e imm => Sys2Proof.Machine.execBst e imm s
  | .bstn e imm => Sys2Proof.Machine.execBstn e imm s
  | .bset e imm => Sys2Proof.Machine.execBset e imm s
  | .brst e imm => Sys2Proof.Machine.execBrst e imm s
  | .blds e => Sys2Proof.Machine.execBlds e s
  | .bsts e => Sys2Proof.Machine.execBsts e s
  | .bands e => Sys2Proof.Machine.execBands e s
  | .bors e => Sys2Proof.Machine.execBors e s
  | .setb e imm => Sys2Proof.Machine.execSetb e imm s
  | .clrb e imm => Sys2Proof.Machine.execClrb e imm s
  | .invb e imm => Sys2Proof.Machine.execInvb e imm s
  | .tasb e imm => Sys2Proof.Machine.execTasb e imm s
  | .brdc e => Sys2Proof.Machine.execBrdc e s
  | .bwrc e => Sys2Proof.Machine.execBwrc e s
  | .brdw e => Sys2Proof.Machine.execBrdw e s
  | .bwrw e => Sys2Proof.Machine.execBwrw e s
  | .land e => Sys2Proof.Machine.execLand e s
  | .lor e => Sys2Proof.Machine.execLor e s
  | .lxor e => Sys2Proof.Machine.execLxor e s
  | .lnot e => Sys2Proof.Machine.execLnot e s
  | .ldup e => Sys2Proof.Machine.execLdup e s
  | .ldrop e => Sys2Proof.Machine.execLdrop e s
  | .lswap e => Sys2Proof.Machine.execLswap e s
  | .lclr e => Sys2Proof.Machine.execLclr e s
  | .lpush e => Sys2Proof.Machine.execLpush e s
  | .lpop e => Sys2Proof.Machine.execLpop e s
  | .lbz e imm => Sys2Proof.Machine.execLbz e imm s
  | .lbnz e imm => Sys2Proof.Machine.execLbnz e imm s
  | .edgr e imm => Sys2Proof.Machine.execEdgr e imm s
  | .edgf e imm => Sys2Proof.Machine.execEdgf e imm s
  | .edgrs e => Sys2Proof.Machine.execEdgrs e s
  | .edgfs e => Sys2Proof.Machine.execEdgfs e s
  | .ton e => Sys2Proof.Machine.execTon e s
  | .tof e => Sys2Proof.Machine.execTof e s
  | .tp e => Sys2Proof.Machine.execTp e s
  | .trst e => Sys2Proof.Machine.execTrst e s
  | .ctu e => Sys2Proof.Machine.execCtu e s
  | .ctd e => Sys2Proof.Machine.execCtd e s
  | .ctud e => Sys2Proof.Machine.execCtud e s
  | .movb e => Sys2Proof.Machine.execMovb e s
  | .movw e => Sys2Proof.Machine.execMovw e s
  | .movwd e => Sys2Proof.Machine.execMovwd e s
  | .stob e => Sys2Proof.Machine.execStob e s
  | .stow e => Sys2Proof.Machine.execStow e s
  | .cmpb e => Sys2Proof.Machine.execCmpb e s
  | .cmpw e => Sys2Proof.Machine.execCmpw e s
  | .scab e => Sys2Proof.Machine.execScab e s
  | .scaw e => Sys2Proof.Machine.execScaw e s
  | .bmov e => Sys2Proof.Machine.execBmov e s
  | .bsto e => Sys2Proof.Machine.execBsto e s
  | .xchw e => Sys2Proof.Machine.execXchw e s
  | .addw e => Sys2Proof.Machine.execAddw e s
  | .rep e op imm => Sys2Proof.Machine.execRep e op imm s
  | .repz e op imm => Sys2Proof.Machine.execRepz e op imm s
  | .repnz e op imm => Sys2Proof.Machine.execRepnz e op imm s
  | .lock e op imm => Sys2Proof.Machine.execLock e op imm s
  | .mul e => Sys2Proof.Machine.execMul e s
  | .mulu e => Sys2Proof.Machine.execMulu e s
  | .muld e => Sys2Proof.Machine.execMuld e s
  | .mulud e => Sys2Proof.Machine.execMulud e s
  | .divmod e => Sys2Proof.Machine.execDivmod e s
  | .divmodu e => Sys2Proof.Machine.execDivmodu e s
  | .dadj e => Sys2Proof.Machine.execDadj e s
  | .dadjd e => Sys2Proof.Machine.execDadjd e s
  | .badd e => Sys2Proof.Machine.execBadd e s
  | .bsub e => Sys2Proof.Machine.execBsub e s
  | .baddd e => Sys2Proof.Machine.execBaddd e s
  | .bsubd e => Sys2Proof.Machine.execBsubd e s
  | .bcd2b e => Sys2Proof.Machine.execBcd2b e s
  | .b2bcd e => Sys2Proof.Machine.execB2bcd e s
  | .bcd2bd e => Sys2Proof.Machine.execBcd2bd e s
  | .b2bcdd e => Sys2Proof.Machine.execB2bcdd e s
  | .svc e imm => Sys2Proof.Machine.execSvc e imm s
  | .retx e => Sys2Proof.Machine.execRetx e s
  | .wgate e imm => Sys2Proof.Machine.execWgate e imm s
  | .wgateReturn e => Sys2Proof.Machine.execWgateReturn e s
  | .rdc e imm => Sys2Proof.Machine.execRdc e imm s
  | .wrc e imm => Sys2Proof.Machine.execWrc e imm s
  | .wait e => Sys2Proof.Machine.execWait e s
  | .sync e => Sys2Proof.Machine.execSync e s
  | .pfh e => Sys2Proof.Machine.execPfh e s
  | .dadd e => Sys2Proof.Machine.execDadd e s
  | .dsub e => Sys2Proof.Machine.execDsub e s
  | .dneg e => Sys2Proof.Machine.execDneg e s
  | .dcmp e => Sys2Proof.Machine.execDcmp e s
  | .dshl e => Sys2Proof.Machine.execDshl e s
  | .dshr e => Sys2Proof.Machine.execDshr e s
  | .dsar e => Sys2Proof.Machine.execDsar e s
  | .dsex e => Sys2Proof.Machine.execDsex e s
  | .dzex e => Sys2Proof.Machine.execDzex e s
  | .reservedOpcode e op op2 => Sys2Proof.Machine.execReservedOpcode e op op2 s
  | .interruptEntry e => Sys2Proof.Machine.execInterruptEntry e s
  | .doorbell m v => Sys2Proof.Machine.execDoorbell m v s
  | .holdOffEnd j => Sys2Proof.Machine.execHoldOffEnd j s
  | .icuBaddbRead m => Sys2Proof.Machine.execIcuBaddbRead m s
  | .icuEmptyRead m t => Sys2Proof.Machine.execIcuEmptyRead m t s
  | .tbNowlRead m => Sys2Proof.Machine.execTbNowlRead m s
  | .tbSetlWrite m v => Sys2Proof.Machine.execTbSetlWrite m v s
  | .tbSethWrite m v => Sys2Proof.Machine.execTbSethWrite m v s
  | .tbPpsEdge => Sys2Proof.Machine.execTbPpsEdge s
  | .ppsMiss => Sys2Proof.Machine.execPpsMiss s
  | .majorCycleBoundary => Sys2Proof.Machine.execMajorCycleBoundary s
  | .agreementTimeout => Sys2Proof.Machine.execAgreementTimeout s
  | .recordWaitTimeout => Sys2Proof.Machine.execRecordWaitTimeout s
  | .gladeStart k => Sys2Proof.Machine.execGladeStart k s
  | .weirTrip g => Sys2Proof.Machine.execWeirTrip g s
  | .windowEnd g => Sys2Proof.Machine.execWindowEnd g s
  | .groveStop g => Sys2Proof.Machine.execGroveStop g s
  | .schedDone m => Sys2Proof.Machine.execSchedDone m s
  | .outletCommit a => Sys2Proof.Machine.execOutletCommit a s
  | .diverseComparison a => Sys2Proof.Machine.execDiverseComparison a s
  | .outletCheck a => Sys2Proof.Machine.execOutletCheck a s
  | .outletCheckDone a => Sys2Proof.Machine.execOutletCheckDone a s
  | .schedEnable m v => Sys2Proof.Machine.execSchedEnable m v s
  | .schedDisable m v => Sys2Proof.Machine.execSchedDisable m v s
  | .swapRequest m v => Sys2Proof.Machine.execSwapRequest m v s
  | .schedCyclRead m => Sys2Proof.Machine.execSchedCyclRead m s
  | .schedOvrcntRead m a => Sys2Proof.Machine.execSchedOvrcntRead m a s
  | .editArm m v => Sys2Proof.Machine.execEditArm m v s
  | .editShadowLoaded => Sys2Proof.Machine.execEditShadowLoaded s
  | .editDisarm m v => Sys2Proof.Machine.execEditDisarm m v s
  | .imgSegmentWrite m r a v => Sys2Proof.Machine.execImgSegmentWrite m r a v s
  | .routeTableWrite m v => Sys2Proof.Machine.execRouteTableWrite m v s
  | .routeTableDecision => Sys2Proof.Machine.execRouteTableDecision s
  | .inletRoute imm => Sys2Proof.Machine.execInletRoute imm s
  | .outletRoute imm => Sys2Proof.Machine.execOutletRoute imm s
  | .attachDeposit p off ws => Sys2Proof.Machine.execAttachDeposit p off ws s
  | .attachRecord p => Sys2Proof.Machine.execAttachRecord p s
  | .bufferClear m p b v => Sys2Proof.Machine.execBufferClear m p b v s
  | .transmitRecordRead p beats => Sys2Proof.Machine.execTransmitRecordRead p beats s
  | .attDropRead m p => Sys2Proof.Machine.execAttDropRead m p s
  | .heartbeatSend => Sys2Proof.Machine.execHeartbeatSend s
  | .heartbeat p f => Sys2Proof.Machine.execHeartbeat p f s
  | .linkLoss p => Sys2Proof.Machine.execLinkLoss p s
  | .linkDown p f => Sys2Proof.Machine.execLinkDown p f s
  | .linkUp p f => Sys2Proof.Machine.execLinkUp p f s
  | .topoSend => Sys2Proof.Machine.execTopoSend s
  | .topo p f => Sys2Proof.Machine.execTopo p f s
  | .reportApply => Sys2Proof.Machine.execReportApply s
  | .syncSend => Sys2Proof.Machine.execSyncSend s
  | .syncFrame p f => Sys2Proof.Machine.execSyncFrame p f s
  | .syncmiss => Sys2Proof.Machine.execSyncmiss s
  | .beacon p f => Sys2Proof.Machine.execBeacon p f s
  | .joinReqSend => Sys2Proof.Machine.execJoinReqSend s
  | .joinReq p f => Sys2Proof.Machine.execJoinReq p f s
  | .joinAck p f => Sys2Proof.Machine.execJoinAck p f s
  | .rosterRemoval n => Sys2Proof.Machine.execRosterRemoval n s
  | .item p f => Sys2Proof.Machine.execItem p f s
  | .unknownFrame p f => Sys2Proof.Machine.execUnknownFrame p f s
  | .frameTransmit p => Sys2Proof.Machine.execFrameTransmit p s
  | .itemTableWrite m v => Sys2Proof.Machine.execItemTableWrite m v s
  | .shrErrRead m p => Sys2Proof.Machine.execShrErrRead m p s
  | .shrAliveTimeout => Sys2Proof.Machine.execShrAliveTimeout s
  | .snap p f => Sys2Proof.Machine.execSnap p f s
  | .agree p f => Sys2Proof.Machine.execAgree p f s
  | .refuse p f => Sys2Proof.Machine.execRefuse p f s
  | .record p f => Sys2Proof.Machine.execRecord p f s
  | .handoff p f => Sys2Proof.Machine.execHandoff p f s
  | .twinDrop p f => Sys2Proof.Machine.execTwinDrop p f s
  | .depart p f => Sys2Proof.Machine.execDepart p f s
  | .left p f => Sys2Proof.Machine.execLeft p f s
  | .missTimeout => Sys2Proof.Machine.execMissTimeout s
  | .handoffTimeout => Sys2Proof.Machine.execHandoffTimeout s
  | .editPrep p f => Sys2Proof.Machine.execEditPrep p f s
  | .editPrepd p f => Sys2Proof.Machine.execEditPrepd p f s
  | .editAbrt p f => Sys2Proof.Machine.execEditAbrt p f s
  | .swPrep p f => Sys2Proof.Machine.execSwPrep p f s
  | .swPrepd p f => Sys2Proof.Machine.execSwPrepd p f s
  | .swAbrt p f => Sys2Proof.Machine.execSwAbrt p f s
  | .joinCopy p f => Sys2Proof.Machine.execJoinCopy p f s
  | .joinCopySend a => Sys2Proof.Machine.execJoinCopySend a s
  | .lockstepMiscompare g => Sys2Proof.Machine.execLockstepMiscompare g s
  | .groveFence g => Sys2Proof.Machine.execGroveFence g s
  | .spareChoice g => Sys2Proof.Machine.execSpareChoice g s
  | .sparePreparation g => Sys2Proof.Machine.execSparePreparation g s
  | .grvErdatWrite m v => Sys2Proof.Machine.execGrvErdatWrite m v s
  | .grvFenceWrite m v => Sys2Proof.Machine.execGrvFenceWrite m v s
  | .grvUnfenceWrite m v => Sys2Proof.Machine.execGrvUnfenceWrite m v s
  | .wspFault => Sys2Proof.Machine.execWspFault s
  | .boundarySequencerMiscompare => Sys2Proof.Machine.execBoundarySequencerMiscompare s
  | .safeHoldEntry => Sys2Proof.Machine.execSafeHoldEntry s
  | .faultRecord r => Sys2Proof.Machine.execFaultRecord r s
  | .fltAckWrite m v => Sys2Proof.Machine.execFltAckWrite m v s
  | .fltLostRead m => Sys2Proof.Machine.execFltLostRead m s
  | .clockFault c => Sys2Proof.Machine.execClockFault c s
  | .cvuInit m u => Sys2Proof.Machine.execCvuInit m u s
  | .cvuGo m u => Sys2Proof.Machine.execCvuGo m u s
  | .cvuFin m u => Sys2Proof.Machine.execCvuFin m u s
  | .cvuStop m u => Sys2Proof.Machine.execCvuStop m u s
  | .cvuFeedb m u v => Sys2Proof.Machine.execCvuFeedb m u v s
  | .cvuFeedh m u v => Sys2Proof.Machine.execCvuFeedh m u v s
  | .cvuFeedw m u v => Sys2Proof.Machine.execCvuFeedw m u v s
  | .feederChunk u => Sys2Proof.Machine.execFeederChunk u s
  | .cvuVgo m c => Sys2Proof.Machine.execCvuVgo m c s
  | .softwareJobDone c => Sys2Proof.Machine.execSoftwareJobDone c s
  | .journaledWriteEffect => Sys2Proof.Machine.execJournaledWriteEffect s
  | .jrnAckWrite m v => Sys2Proof.Machine.execJrnAckWrite m v s
  | .journalRelease => Sys2Proof.Machine.execJournalRelease s
  | .jrnRejcntRead m => Sys2Proof.Machine.execJrnRejcntRead m s
  | .actVcntRead m => Sys2Proof.Machine.execActVcntRead m s
  | .scrubRead t => Sys2Proof.Machine.execScrubRead t s
  | .correctionWrite t => Sys2Proof.Machine.execCorrectionWrite t s
  | .tarnOwnWrite m t v => Sys2Proof.Machine.execTarnOwnWrite m t v s
  | .ownerChange t => Sys2Proof.Machine.execOwnerChange t s
  | .tarnCecntRead m => Sys2Proof.Machine.execTarnCecntRead m s
  | .tarnUecntRead m => Sys2Proof.Machine.execTarnUecntRead m s
  | .retentionEntry k => Sys2Proof.Machine.execRetentionEntry k s
  | .retentionWake k => Sys2Proof.Machine.execRetentionWake k s
  | .pwrRokRise k => Sys2Proof.Machine.execPwrRokRise k s
  | .pwrRokFall k => Sys2Proof.Machine.execPwrRokFall k s
  | .wakeComplete k => Sys2Proof.Machine.execWakeComplete k s
  | .retentionWakeFail k => Sys2Proof.Machine.execRetentionWakeFail k s
  | .invalidate m v => Sys2Proof.Machine.execInvalidate m v s
  | .clean m v => Sys2Proof.Machine.execClean m v s
  | .cleanAndInvalidate m v => Sys2Proof.Machine.execCleanAndInvalidate m v s
  | .preloadAndLock m v => Sys2Proof.Machine.execPreloadAndLock m v s
  | .unlock m v => Sys2Proof.Machine.execUnlock m v s
  | .pondLoad m v => Sys2Proof.Machine.execPondLoad m v s
  | .cmxCompletion => Sys2Proof.Machine.execCmxCompletion s
  | .lakeFill id => Sys2Proof.Machine.execLakeFill id s
  | .pondConversion m g v => Sys2Proof.Machine.execPondConversion m g v s
  | .pondZero m g v => Sys2Proof.Machine.execPondZero m g v s
  | .pondOperationDone g => Sys2Proof.Machine.execPondOperationDone g s
  | .cmxSkipRead m => Sys2Proof.Machine.execCmxSkipRead m s
  | .cmxPerrRead m => Sys2Proof.Machine.execCmxPerrRead m s
  | .nchmReadResponse id resp data => Sys2Proof.Machine.execNchmReadResponse id resp data s
  | .nchmWriteAck id resp => Sys2Proof.Machine.execNchmWriteAck id resp s
  | .nchmTimeout id => Sys2Proof.Machine.execNchmTimeout id s
  | .nchsBadRequest addr len wr => Sys2Proof.Machine.execNchsBadRequest addr len wr s
  | .hostTarnWindowAccess h w x => Sys2Proof.Machine.execHostTarnWindowAccess h w x s
  | .expertWindowAccess h x => Sys2Proof.Machine.execExpertWindowAccess h x s
  | .mbxGo h c v => Sys2Proof.Machine.execMbxGo h c v s
  | .mbxAck h c v => Sys2Proof.Machine.execMbxAck h c v s
  | .mbxEventRead h => Sys2Proof.Machine.execMbxEventRead h s
  | .mbxEvstatRead h => Sys2Proof.Machine.execMbxEvstatRead h s
  | .mbxWinstatRead h => Sys2Proof.Machine.execMbxWinstatRead h s
  | .channelAbort c => Sys2Proof.Machine.execChannelAbort c s
  | .unknownCommand c => Sys2Proof.Machine.execUnknownCommand c s
  | .authTimeout sid => Sys2Proof.Machine.execAuthTimeout sid s
  | .authLockoutEnd h => Sys2Proof.Machine.execAuthLockoutEnd h s
  | .sessionTimeout sid => Sys2Proof.Machine.execSessionTimeout sid s
  | .getInfo c => Sys2Proof.Machine.execGetInfo c s
  | .openSession c => Sys2Proof.Machine.execOpenSession c s
  | .auth c => Sys2Proof.Machine.execAuth c s
  | .closeSession c => Sys2Proof.Machine.execCloseSession c s
  | .setProfile c => Sys2Proof.Machine.execSetProfile c s
  | .appDefine c => Sys2Proof.Machine.execAppDefine c s
  | .appRemove c => Sys2Proof.Machine.execAppRemove c s
  | .scheduleSet c => Sys2Proof.Machine.execScheduleSet c s
  | .filterSet c => Sys2Proof.Machine.execFilterSet c s
  | .routesSet c => Sys2Proof.Machine.execRoutesSet c s
  | .itemsSet c => Sys2Proof.Machine.execItemsSet c s
  | .start c => Sys2Proof.Machine.execStart c s
  | .switchover c => Sys2Proof.Machine.execSwitchover c s
  | .safeHold c => Sys2Proof.Machine.execSafeHold c s
  | .editStage c => Sys2Proof.Machine.execEditStage c s
  | .editCommit c => Sys2Proof.Machine.execEditCommit c s
  | .editAbort c => Sys2Proof.Machine.execEditAbort c s
  | .readFaults c => Sys2Proof.Machine.execReadFaults c s
  | .readJournal c => Sys2Proof.Machine.execReadJournal c s
  | .ackJournal c => Sys2Proof.Machine.execAckJournal c s
  | .readStatus c => Sys2Proof.Machine.execReadStatus c s
  | .loadBegin c => Sys2Proof.Machine.execLoadBegin c s
  | .loadData c => Sys2Proof.Machine.execLoadData c s
  | .loadEnd c => Sys2Proof.Machine.execLoadEnd c s
  | .loadCancel c => Sys2Proof.Machine.execLoadCancel c s
  | .maintEnter c => Sys2Proof.Machine.execMaintEnter c s
  | .maintLeave c => Sys2Proof.Machine.execMaintLeave c s
  | .safeClear c => Sys2Proof.Machine.execSafeClear c s
  | .setAccess c => Sys2Proof.Machine.execSetAccess c s
  | .setRegion c => Sys2Proof.Machine.execSetRegion c s
  | .groveMode c => Sys2Proof.Machine.execGroveMode c s
  | .fence c => Sys2Proof.Machine.execFence c s
  | .unfence c pass => Sys2Proof.Machine.execUnfence c pass s
  | .twinBind c => Sys2Proof.Machine.execTwinBind c s
  | .ringConfig c => Sys2Proof.Machine.execRingConfig c s
  | .timeConfig c => Sys2Proof.Machine.execTimeConfig c s
  | .tarnConfig c => Sys2Proof.Machine.execTarnConfig c s
  | .cvuConfig c => Sys2Proof.Machine.execCvuConfig c s
  | .icuConfig c => Sys2Proof.Machine.execIcuConfig c s
  | .fwInfo c => Sys2Proof.Machine.execFwInfo c s
  | .fwErase c => Sys2Proof.Machine.execFwErase c s
  | .fwWrite c => Sys2Proof.Machine.execFwWrite c s
  | .fwVerify c => Sys2Proof.Machine.execFwVerify c s
  | .fwActivate c => Sys2Proof.Machine.execFwActivate c s
  | .fwConfirm c => Sys2Proof.Machine.execFwConfirm c s
  | .deviceReset c => Sys2Proof.Machine.execDeviceReset c s
  | .wdConfig c => Sys2Proof.Machine.execWdConfig c s
  | .patchLock m v => Sys2Proof.Machine.execPatchLock m v s
  | .patchClear m v => Sys2Proof.Machine.execPatchClear m v s
  | .patchDataWrite m v => Sys2Proof.Machine.execPatchDataWrite m v s
  | .idUerrRead m => Sys2Proof.Machine.execIdUerrRead m s
  | .checkIn m k v => Sys2Proof.Machine.execCheckIn m k v s
  | .periodChange m v => Sys2Proof.Machine.execPeriodChange m v s
  | .wdiCntRead m => Sys2Proof.Machine.execWdiCntRead m s
  | .wdOpenRise => Sys2Proof.Machine.execWdOpenRise s
  | .wdOpenFall => Sys2Proof.Machine.execWdOpenFall s
  | .wdBite => Sys2Proof.Machine.execWdBite s
  | .biteCapture => Sys2Proof.Machine.execBiteCapture s
  | .vmonSag1 => Sys2Proof.Machine.execVmonSag1 s
  | .vmonSag2 => Sys2Proof.Machine.execVmonSag2 s
  | .vmonLoss => Sys2Proof.Machine.execVmonLoss s
  | .vmonRise l => Sys2Proof.Machine.execVmonRise l s
  | .pwrSafeAssert => Sys2Proof.Machine.execPwrSafeAssert s
  | .pwrLossmkWrite m v => Sys2Proof.Machine.execPwrLossmkWrite m v s
  | .pwrVcntRead m => Sys2Proof.Machine.execPwrVcntRead m s
  | .grovePowerDown g => Sys2Proof.Machine.execGrovePowerDown g s
  | .grovePowerUp g => Sys2Proof.Machine.execGrovePowerUp g s
  | .pwrGokRise g => Sys2Proof.Machine.execPwrGokRise g s
  | .pwrGokFall g => Sys2Proof.Machine.execPwrGokFall g s
  | .grovePowerUpDone g => Sys2Proof.Machine.execGrovePowerUpDone g s
  | .powerUpTimeout g => Sys2Proof.Machine.execPowerUpTimeout g s
  | .aonPowerUp => Sys2Proof.Machine.execAonPowerUp s
  | .powerRemoval => Sys2Proof.Machine.execPowerRemoval s
  | .resetAssert r => Sys2Proof.Machine.execResetAssert r s
  | .resetRelease witness => Sys2Proof.Machine.execResetRelease witness s
  | .fuseLoad ws => Sys2Proof.Machine.execFuseLoad ws s
  | .commitRecordRead => Sys2Proof.Machine.execCommitRecordRead s
  | .slotSelection => Sys2Proof.Machine.execSlotSelection s
  | .patchLoad => Sys2Proof.Machine.execPatchLoad s
  | .tarnBist r => Sys2Proof.Machine.execTarnBist r s
  | .omiReady => Sys2Proof.Machine.execOmiReady s
  | .debugReset => Sys2Proof.Machine.execDebugReset s
  | .tapReset => Sys2Proof.Machine.execTapReset s
  | .debugAuth v => Sys2Proof.Machine.execDebugAuth v s
  | .debugLockoutEnd => Sys2Proof.Machine.execDebugLockoutEnd s
  | .haltGrove v => Sys2Proof.Machine.execHaltGrove v s
  | .haltDevice v => Sys2Proof.Machine.execHaltDevice v s
  | .groveHalted g => Sys2Proof.Machine.execGroveHalted g s
  | .deviceHalted => Sys2Proof.Machine.execDeviceHalted s
  | .releaseGrove v => Sys2Proof.Machine.execReleaseGrove v s
  | .releaseDevice v => Sys2Proof.Machine.execReleaseDevice v s
  | .step v => Sys2Proof.Machine.execStep v s
  | .feed v => Sys2Proof.Machine.execFeed v s
  | .xferPush v => Sys2Proof.Machine.execXferPush v s
  | .xferPop => Sys2Proof.Machine.execXferPop s
  | .vtxRead => Sys2Proof.Machine.execVtxRead s
  | .vrxWrite v => Sys2Proof.Machine.execVrxWrite v s
  | .dbgvTxWrite m v => Sys2Proof.Machine.execDbgvTxWrite m v s
  | .dbgvRxRead m => Sys2Proof.Machine.execDbgvRxRead m s
  | .mdataRead => Sys2Proof.Machine.execMdataRead s
  | .mdataWrite v => Sys2Proof.Machine.execMdataWrite v s
  | .debugResetRequest v => Sys2Proof.Machine.execDebugResetRequest v s
  | .traceWrite => Sys2Proof.Machine.execTraceWrite s
  | .dbgTrcdropRead => Sys2Proof.Machine.execDbgTrcdropRead s
  | .registerWrite p v => Sys2Proof.Machine.execRegisterWrite p v s
  | .timebaseTick => Sys2Proof.Machine.execTimebaseTick s
  | .blockLockGained p => Sys2Proof.Machine.execBlockLockGained p s
  | .blockLockLost p => Sys2Proof.Machine.execBlockLockLost p s
  | .shrAliveResumed => Sys2Proof.Machine.execShrAliveResumed s
  | .flashCommandDone err => Sys2Proof.Machine.execFlashCommandDone err s

end Sys2Proof.Machine
end

