-- ==== Sys2Proof/Safety.lean ====
section
/-! DEFINITION. What counts as a safe run, and the terms in which claims about the block are stated: an engine's work that
succeeds, an instruction that has started, operands taken, an instruction that retires. -/

namespace Sys2Proof.Machine

/-- A step from this state answers a next state. -/
def Proceeds (s : State) : Prop := ∃ t, step s = .next t

/-- Work of an engine on `s` meets no fault, fatal error, halt or wait: it ends with value `a` and leaves `t`. -/
def Runs {α : Type} (m : EM α) (s : State) (a : α) (t : State) : Prop := m.run s = .ok (a, t)

/-- An instruction of an engine starts on `s` and leaves `t`: the engine may issue, no trap is due, and its bytes are fetched
(R132, R194, R205, R219). Its length and cycles are those of `i`. -/
def Started (e : Nat) (i : Insn) (s t : State) : Prop :=
  canIssue s e = true ∧ (eng s e).dueTrap = none ∧ Runs (startInsn e i) s () t

/-- An instruction takes its `n` operands, top first, and will push `p` cells; spills and fills are made (R126, R127). -/
def Takes (e n p : Nat) (s : State) (ws : List Word) (t : State) : Prop := Runs (popN e n p) s ws t

/-- A change of one engine's registers. -/
def onEng (s : State) (e : Nat) (f : Engine → Engine) : State := putEng s e (f (eng s e))

/-- Cells pushed, the first of the list ending on top. -/
def pushed (ws : List Word) (x : Engine) : Engine :=
  { x with cells := ws ++ x.cells, ddepth := x.ddepth + BitVec.ofNat 32 ws.length }

/-- The end of an instruction that has done its work: STAT.RPA clears, a due trap is taken (R147, R194). -/
def retire (s : State) (e : Nat) : State := afterRetire (onEng s e fun x => { x with stat := putBit x.stat stRPA false }) e

/-- Cells pushed and flags written; with `ov`, a V of 1 raises the Overflow trap where TRAPEN.OV enables it (R152). -/
def result (s : State) (e : Nat) (ws : List Word) (f : Flagged) (ov : Bool) : State :=
  onEng s e fun x =>
    { pushed ws x with
      stat := putFlags x.stat f
      dueTrap := if ov && decide (f.v = some true) && bit x.trapen 0 then some vOvf else x.dueTrap }

/-- Is a number outside the signed range of `w` bits? -/
def outside (w : Nat) (n : Int) : Bool := decide (n < -2 ^ (w - 1)) || decide (n ≥ 2 ^ (w - 1))

/-- Flags of an arithmetic result: C and V as given, Z and N of the result (R148). -/
def arith {w : Nat} (c v : Bool) (r : BitVec w) : Flagged :=
  { c := some c, v := some v, z := some (decide (r = 0)), n := some (decide (r.toInt < 0)) }

/-- Flags of a shift or a logic result: C as given, V 0, Z and N of the result (R151, R153). -/
def noV {w : Nat} (c : Option Bool) (r : BitVec w) : Flagged :=
  { c := c, v := some false, z := some (decide (r = 0)), n := some (decide (r.toInt < 0)) }

/-! ### Shapes of instructions

`c` is an instruction of engine `e` that starts as `i` says, takes `n` cells and will push `p`; `f` is its work on the state
after that. -/

def Pops0 (e : Eng) (i : Insn) (p : Nat) (c : Instr) (f : State → State) : Prop :=
  ∀ s t u, Started e i s t → Takes e 0 p t [] u → exec c s = .next (retire (f u) e)
/-- As `Pops0`; `a` is the top cell. -/
def Pops1 (e : Eng) (i : Insn) (p : Nat) (c : Instr) (f : Word → State → State) : Prop :=
  ∀ s t u a, Started e i s t → Takes e 1 p t [a] u → exec c s = .next (retire (f a u) e)
/-- As `Pops0`; `b` is the top cell and `a` the one beneath. -/
def Pops2 (e : Eng) (i : Insn) (p : Nat) (c : Instr) (f : Word → Word → State → State) : Prop :=
  ∀ s t u a b, Started e i s t → Takes e 2 p t [b, a] u → exec c s = .next (retire (f a b u) e)
/-- As `Pops0`; `d` is the top cell. -/
def Pops3 (e : Eng) (i : Insn) (p : Nat) (c : Instr) (f : Word → Word → Word → State → State) : Prop :=
  ∀ s t u a b d, Started e i s t → Takes e 3 p t [d, b, a] u → exec c s = .next (retire (f a b d u) e)
/-- As `Pops0`; the cells from the top are `d`, `c'`, `b`, `a`. -/
def Pops4 (e : Eng) (i : Insn) (p : Nat) (c : Instr) (f : Word → Word → Word → Word → State → State) : Prop :=
  ∀ s t u a b c' d, Started e i s t → Takes e 4 p t [d, c', b, a] u → exec c s = .next (retire (f a b c' d u) e)
/-- An instruction that works on no cell. -/
def NoCells (e : Eng) (i : Insn) (c : Instr) (f : State → State) : Prop :=
  ∀ s t, Started e i s t → exec c s = .next (retire (f t) e)

/-! As above, with work `m` that reads or writes memory, and what it answers. -/

/-- No operand; `m` is told the state after the start. -/
def Work0 {β : Type} (e : Eng) (i : Insn) (p : Nat) (c : Instr) (m : State → EM β) (f : β → State → State) : Prop :=
  ∀ s t u w v, Started e i s t → Takes e 0 p t [] u → Runs (m t) u v w → exec c s = .next (retire (f v w) e)
/-- One operand. -/
def Work1 {β : Type} (e : Eng) (i : Insn) (p : Nat) (c : Instr) (m : Word → State → EM β) (f : β → State → State) : Prop :=
  ∀ s t u w a v, Started e i s t → Takes e 1 p t [a] u → Runs (m a t) u v w → exec c s = .next (retire (f v w) e)
/-- Two operands, `b` on top. -/
def Work2 {β : Type} (e : Eng) (i : Insn) (p : Nat) (c : Instr) (m : Word → Word → EM β) (f : β → State → State) : Prop :=
  ∀ s t u w a b v, Started e i s t → Takes e 2 p t [b, a] u → Runs (m a b) u v w → exec c s = .next (retire (f v w) e)
/-- Three operands, `d` on top. -/
def Work3 {β : Type} (e : Eng) (i : Insn) (p : Nat) (c : Instr) (m : Word → Word → Word → EM β) (f : β → State → State) : Prop :=
  ∀ s t u w a b d v, Started e i s t → Takes e 3 p t [d, b, a] u → Runs (m a b d) u v w → exec c s = .next (retire (f v w) e)
/-- On the logic stack, of which `n` entries are taken and `p` left in their place (R136); `m` and `f` are told the engine. -/
def Bits0 {β : Type} (e : Eng) (i : Insn) (n p : Nat) (c : Instr) (m : Engine → EM β) (f : Engine → β → Engine → Engine) : Prop :=
  ∀ s t w v, Started e i s t → n ≤ (eng t e).lskd.toNat → (eng t e).lskd.toNat - n + p ≤ 32 → Runs (m (eng t e)) t v w →
    exec c s = .next (retire (onEng w e (f (eng t e) v)) e)
/-- As `Bits0`, at the address in a popped cell. -/
def Bits1 {β : Type} (e : Eng) (i : Insn) (n p : Nat) (c : Instr) (m : Word → Engine → EM β) (f : Engine → β → Engine → Engine) : Prop :=
  ∀ s t u w a v, Started e i s t → Takes e 1 0 t [a] u → n ≤ (eng u e).lskd.toNat → (eng u e).lskd.toNat - n + p ≤ 32 →
    Runs (m a (eng u e)) u v w → exec c s = .next (retire (onEng w e (f (eng u e) v)) e)

/-- A timer or counter block read: the check of the whole block, then its four words (R178). -/
def readBlock (e : Nat) (a : Word) : EM (Word × Word × Word × Word) := do
  blkCheck e a true
  let w0 ← blkRead e a 0
  let w1 ← blkRead e a 1
  let w2 ← blkRead e a 2
  let w3 ← blkRead e a 3
  pure (w0, w1, w2, w3)

/-- Cells pushed with no flag written. -/
def push (s : State) (e : Nat) (ws : List Word) : State := onEng s e (pushed ws)
/-- Flags written with no cell pushed. -/
def flagsOnly (s : State) (e : Nat) (f : Flagged) : State := onEng s e fun x => { x with stat := putFlags x.stat f }

/-- Cells pushed and flags written, with the trap that `trap` names, if any. -/
def resultTrap (s : State) (e : Nat) (ws : List Word) (f : Flagged) (trap : Engine → Option Nat) : State :=
  onEng s e fun x =>
    { pushed ws x with
      stat := putFlags x.stat f
      dueTrap := match trap x with | some v => some v | none => x.dueTrap }
/-- The BCD Format trap (R156). -/
def bcdTrap (bf : Bool) (x : Engine) : Option Nat := if bf && bit x.trapen 2 then some vBcd else none
/-- The traps of a division: Divide before Overflow (R155). -/
def divTrap (dz v : Bool) (x : Engine) : Option Nat :=
  if dz && bit x.trapen 1 then some vDiv else if v && bit x.trapen 0 then some vOvf else none

/-! ### Shifts and rotates (R153): result and C, over numbers -/

def shlR {w : Nat} (a : BitVec w) (n : Nat) : BitVec w × Option Bool :=
  if n = 0 then (a, none) else if n ≤ w then (BitVec.ofNat w (a.toNat * 2 ^ n), some (a.getLsbD (w - n))) else (0, some false)
def shrR {w : Nat} (a : BitVec w) (n : Nat) : BitVec w × Option Bool :=
  if n = 0 then (a, none) else if n ≤ w then (BitVec.ofNat w (a.toNat / 2 ^ n), some (a.getLsbD (n - 1))) else (0, some false)
def sarR {w : Nat} (a : BitVec w) (n : Nat) : BitVec w × Option Bool :=
  if n = 0 then (a, none)
  else if n ≤ w - 1 then (BitVec.ofInt w (a.toInt / 2 ^ n), some (a.getLsbD (n - 1)))
  else (if a.toInt < 0 then BitVec.ofInt w (-1) else 0, some (decide (a.toInt < 0)))
def rolR (a : Word) (n : Nat) : Word × Option Bool :=
  let m := n % 32
  let r := BitVec.ofNat 32 (a.toNat * 2 ^ m % 2 ^ 32 + a.toNat / 2 ^ (32 - m))
  (r, if n = 0 then none else some (r.getLsbD 0))
def rorR (a : Word) (n : Nat) : Word × Option Bool :=
  let m := n % 32
  let r := BitVec.ofNat 32 (a.toNat / 2 ^ m + a.toNat * 2 ^ (32 - m) % 2 ^ 32)
  (r, if n = 0 then none else some (r.getLsbD 31))
/-- A shift's result pushed with its flags. -/
def shifted (s : State) (e : Nat) (p : Word × Option Bool) : State := result s e [p.1] (noV p.2 p.1) false
def shiftedD (s : State) (e : Nat) (p : Dbl × Option Bool) : State := result s e [lo32 p.1, hi32 p.1] (noV p.2 p.1) false

/-- A double (R130): its more significant cell lies beneath the other. -/
def dcells (r : Dbl) : List Word := [lo32 r, hi32 r]

/-- A transfer of control by an instruction of `len` bytes that PC has passed: cycles, a trace record, the target (R163,
R487). -/
def transfer (s : State) (e len cyc : Nat) (dst : Word) : State :=
  onEng (traceRec (charge s e cyc 0) e ((eng s e).pc - BitVec.ofNat 32 len) dst) e fun x => { x with pc := dst, foldAt := none }

/-- The value of `k` decimal digits of a word, and whether every digit is at most 9 (R135). -/
def bcdVal {w : Nat} (k : Nat) (a : BitVec w) : Nat := ofDigits 10 (digits k a)
def bcdValid {w : Nat} (k : Nat) (a : BitVec w) : Bool := (List.range k).all fun i => decide ((a.toNat >>> (4 * i)) % 16 ≤ 9)
/-- The `k` decimal digits of a number, packed. -/
def bcdOf (w k n : Nat) : BitVec w := BitVec.ofNat w (ofDigits 16 (decDigits k n))
/-- Flags of BCD results that a row lists: DC and Z, and BF for an invalid operand. -/
def bcdFlags (dc : Option Bool) (z bf : Bool) : Flagged := { dc := dc, z := some z, bf := bf }

/-- Elements of a repeated instruction from the `k`-th done on, `n` of them with `m` more left in RCNT: each runs and RCNT counts it;
after each but the last, Z does not have the value `zEnd` that would end it, and after every sixteenth nothing is pending that would
stop it (R187). -/
def Elements (e op : Nat) (v : Word) (zEnd : Option Bool) (m : Nat) : Nat → Nat → State → State → Prop
  | _, 0, s, t => t = s
  | k, n + 1, s, t => ∃ u, Runs (blockElem e op v) s () u ∧
      let w := onEng u e fun x => { x with rcnt := x.rcnt - 1 }
      (eng u e).rcnt = BitVec.ofNat 32 (n + 1 + m) ∧
      (n ≠ 0 → zEnd ≠ some (bit (eng w e).stat stZ) ∧ (k % 16 = 15 → repPending w e = false)) ∧
      Elements e op v zEnd m (k + 1) n w t

/-! ### Shapes of register commands

`q` is what the master presents (R19); a journaled write still in progress completes before a later one (R392, log 24). -/

/-- `c` reads register `a` as master `m`: a denied read answers an error with 0 (R22); a granted one answers `val` and has the
effect `aft` of the register's RC fields or captures (R12). A master that cannot act has no such command (log 13). -/
def ReadOf (c : Instr) (m a : Nat) (val : Req → State → Word) (aft : Req → State → State) : Prop :=
  ∀ s, let q := reqOf s m
    (masterActs s m = false → exec c s = .next s) ∧
    (∀ d, masterActs s m = true → ioDenied s q a needR = some d →
      exec c s = .next { logDenial s d with outResp := 2, outData := [0] }) ∧
    (masterActs s m = true → ioDenied s q a needR = none →
      exec c s = .next { aft q s with outResp := 0, outData := [val q s] })

/-- `c` writes register `a`, which journals nothing, as master `m`: a denied write has no effect but its record (R22), a refused one
leaves `rej`, an accepted one `eff`. -/
def WriteOf (c : Instr) (m a : Nat) (ok : Req → State → Bool) (rej eff : Req → State → State) : Prop :=
  ∀ s, let q := reqOf s m
    let t := finishWrite s
    (masterActs s m = false → exec c s = .next s) ∧
    (∀ d, masterActs s m = true → ioDenied t q a needW = some d → exec c s = .next (logDenial t d)) ∧
    (masterActs s m = true → ioDenied t q a needW = none → exec c s = .next (if ok q t then eff q t else rej q t))

/-- `c` is a write of a journaled register (R391, R392, R396) in states with `on`; in others there is no such command (log 13). Before
step 6 of the boot order the write takes effect at once (R393). After it a full journal refuses the write, and an accepted write takes
the next sequence number and waits for its entry; JOURNALED_WRITE_EFFECT gives it the effect `eff`. -/
def JournaledWriteWhen (on : State → Bool) (c : Instr) (m a : Nat) (v : Word) (ok : Req → State → Bool)
    (rej eff : Req → State → State) : Prop :=
  (∀ s, let q := reqOf s m
    let t := finishWrite s
    let acts := masterActs s m && on s
    (acts = false → exec c s = .next s) ∧
    (∀ d, acts = true → ioDenied t q a needW = some d → exec c s = .next (logDenial t d)) ∧
    (acts = true → ioDenied t q a needW = none →
      (ok q t = false → exec c s = .next (rej q t)) ∧
      (ok q t = true → jrnOpen t = false → exec c s = .next (eff q t)) ∧
      (ok q t = true → jrnOpen t = true → jrnUsedN t ≥ 4032 → exec c s = .next (jrnRefuse t)) ∧
      (ok q t = true → jrnOpen t = true → jrnUsedN t < 4032 →
        exec c s = .next { jrnRise (wr t Reg.jrnHead (rd t Reg.jrnHead + 1)) with
          jPend := some { seq := rd t Reg.jrnHead, origin := q.master, vital := q.vital, sup := q.sup, kind := 0, exempt := false,
                          addr := a, tcode := blockOf a, old := ioValue t q a, new := newWord t (eff q t) q a v, time := t.tb.now,
                          value := v } }))) ∧
  (∀ q s, ioEffect s q a v = some (eff q s))
def JournaledWriteOf := JournaledWriteWhen fun _ => true

/-! ### Commands of the management interface -/

/-- `c` is the management command of a row of the command tables on a channel. Out of its turn there is no such command (R427, log 13).
In its turn the checks come in the order of R430 - the length, the level, the row's parameters, the device's state - and the first
that fails gives the STATUS of the response; a command that passes them all runs. -/
def OmiOf (c : Chan → Instr) (r : OmiRow) (run : State → Nat → State) : Prop :=
  ∀ (s : State) (h : Chan), let k := h.val
    let ends (n : Nat) : Prop := exec (c h) s = .next (complete s k n 0 [])
    let lenOk := cmdLen s k ≤ 1008 ∧ cmdLen s k % 4 = 0
    let plenOk := r.lo ≤ cmdLen s k ∧ cmdLen s k ≤ r.hi
    (myTurn s k = false ∨ cmdCode s k ≠ r.code → exec (c h) s = .next s) ∧
    (myTurn s k = true → cmdCode s k = r.code →
      (¬ lenOk → ends stLength) ∧
      (lenOk → levelOk s k r.level = false → ends stNotAuth) ∧
      (lenOk → levelOk s k r.level = true → ¬ plenOk → ends stLength) ∧
      (lenOk → levelOk s k r.level = true → plenOk → s.dev ∉ r.states → ends stBadState) ∧
      (lenOk → levelOk s k r.level = true → plenOk → s.dev ∈ r.states → exec (c h) s = .next (run s k)))

/-! ### Frames of the Shore ring (R289, R292) -/

/-- A frame of this kind arrives whole at an admitted (`ad`) or waiting node that is to take a copy and has not seen it within 1 ms: HOPS
counts down, `take` uses the copy, and the frame goes on unless it was meant for this node alone. -/
def FrameOf (c : Port → Frame → Instr) (ad : Bool) (is : List Word → Bool) (take : State → Port → List Word → State) : Prop :=
  ∀ s p f, let ws := putNth f.words 0 (putFld (nth f.words 0) 30 24 (fHops f.words + 127))
    ringRuns s = true → hasLock s p = true → 6 ≤ f.words.length → hcrcOf f.words = nth f.words 5 → is f.words = true →
    ringAdmitted s = ad → (ad = true → inRoster s (fSrc f.words) = true ∨ fTyp f.words = 6 ∨ fTyp f.words = 7 ∨ fTyp f.words = 8) →
    lengthBad ws = false → pcrcBad ws = false → itemTooLong s ws = false → fWraps ws ≠ 1 → fSrc ws ≠ nodeOf s → forMe s ws = true →
    (seenNow s).any (sameCopy ws) = false →
    let t := take { s with shr := { s.shr with seen := ⟨fSrc ws, fTyp ws, fSub ws, fSeq ws, s.tb.now⟩ :: seenNow s } } p ws
    exec (c p f) s = .next (twinWatch s (
      if fDst ws = nodeOf t then t else if fHops ws = 0 then cntDrop t p else forward t p ws false))

/-- The canonical form of the byte memory: addresses strictly rising, no byte listed that reads as an unlisted one. -/
abbrev Memory.wf (m : Sparse Byte) : Prop := Sparse.wf 0#8 m

/-- The invariant of every step: memory is in canonical form (what its empty entries read as is log 2), the event queue holds at most
32 events (R424) and the fault log at most 64 records (R412). -/
def State.Inv (s : State) : Prop := Memory.wf s.mem ∧ s.evq.length ≤ 32 ∧ s.flt.length ≤ 64

end Sys2Proof.Machine
end

