-- ==== Sys2Proof/Certificates/Slice0/Obligations.lean ====
section
/-! DEFINITION. The statements for the provers, each with the rules of spec/ it rests on. -/

open Sys2Proof Sys2Proof.Machine

/-- R150: the stack and literal instructions, each with its length, its cycle and its stack effect. -/
def Obligations.StackAndLiterals : Prop := ∀ e : Eng,
  NoCells e { len := 1, cyc := 1 } (.nop e) (fun u => u) ∧
  Pops1 e { len := 1, cyc := 1, second := true } 2 (.dup e) (fun a u => push u e [a, a]) ∧
  Pops1 e { len := 1, cyc := 1, second := true } 0 (.drop e) (fun _ u => push u e []) ∧
  Pops2 e { len := 1, cyc := 1, second := true } 2 (.swap e) (fun a b u => push u e [a, b]) ∧
  Pops2 e { len := 1, cyc := 1, second := true } 3 (.ovr e) (fun a b u => push u e [a, b, a]) ∧
  Pops3 e { len := 1, cyc := 1, second := true } 3 (.rot e) (fun a b c u => push u e [a, c, b]) ∧
  Pops2 e { len := 1, cyc := 1, second := true } 1 (.nip e) (fun _ b u => push u e [b]) ∧
  Pops2 e { len := 1, cyc := 1, second := true } 3 (.tuck e) (fun a b u => push u e [b, a, b]) ∧
  Pops2 e { len := 1, cyc := 1, second := true } 4 (.dup2 e) (fun a b u => push u e [b, a, b, a]) ∧
  Pops2 e { len := 1, cyc := 1, second := true } 0 (.drop2 e) (fun _ _ u => push u e []) ∧
  Pops4 e { len := 1, cyc := 1, second := true } 4 (.swap2 e) (fun a b c d u => push u e [b, a, d, c]) ∧
  (∀ (n : BitVec 8) (s t : State), Started e { len := 2, cyc := 1 } s t →
    (n.toNat ≤ 7 → ∀ ws u, Takes e (n.toNat + 1) (n.toNat + 2) t ws u →
      exec (.pick e n) s = .next (retire (push u e (ws.getD n.toNat 0 :: ws)) e)) ∧
    (7 < n.toNat → exec (.pick e n) s = .next (takeFault s e vIllegal none t.dbg))) ∧
  (∀ v : BitVec 8, Pops0 e { len := 2, cyc := 1, first := true } 1 (.lit8 e v)
    (fun u => push u e [BitVec.ofInt 32 v.toInt])) ∧
  (∀ v : BitVec 16, Pops0 e { len := 3, cyc := 1, first := true } 1 (.lit16 e v)
    (fun u => push u e [BitVec.ofInt 32 v.toInt])) ∧
  (∀ v : Word, Pops0 e { len := 5, cyc := 1, first := true } 1 (.lit32 e v) (fun u => push u e [v])) ∧
  (∀ v : BitVec 16, Pops0 e { len := 3, cyc := 1, first := true } 1 (.lith e v)
    (fun u => push u e [BitVec.ofNat 32 (v.toNat * 0x10000)]))

/-- R148, R151, R152: the adding and subtracting instructions. C is the carry or borrow of the unsigned numbers, V says that the
signed result does not fit, and a V of 1 raises the Overflow trap if TRAPEN.OV is set. -/
def Obligations.AddAndSubtract : Prop := ∀ e : Eng,
  Pops2 e { len := 1, cyc := 1, second := true } 1 (.add e) (fun a b u =>
    result u e [a + b] (arith (decide (a.toNat + b.toNat ≥ 2 ^ 32)) (outside 32 (a.toInt + b.toInt)) (a + b)) true) ∧
  Pops2 e { len := 1, cyc := 1, second := true } 1 (.sub e) (fun a b u =>
    result u e [a - b] (arith (decide (a.toNat < b.toNat)) (outside 32 (a.toInt - b.toInt)) (a - b)) true) ∧
  Pops2 e { len := 1, cyc := 1, second := true } 1 (.adc e) (fun a b u =>
    let c := b2n (bit (eng u e).stat stC)
    let r := a + b + BitVec.ofNat 32 c
    result u e [r] (arith (decide (a.toNat + b.toNat + c ≥ 2 ^ 32)) (outside 32 (a.toInt + b.toInt + c)) r) true) ∧
  Pops2 e { len := 1, cyc := 1, second := true } 1 (.sbb e) (fun a b u =>
    let c := b2n (bit (eng u e).stat stC)
    let r := a - b - BitVec.ofNat 32 c
    result u e [r] (arith (decide (a.toNat < b.toNat + c)) (outside 32 (a.toInt - b.toInt - c)) r) true) ∧
  Pops1 e { len := 1, cyc := 1, second := true } 1 (.neg e) (fun a u =>
    result u e [-a] (arith (decide (a ≠ 0)) (outside 32 (-a.toInt)) (-a)) true) ∧
  Pops1 e { len := 1, cyc := 1, second := true } 1 (.abs e) (fun a u =>
    let r := BitVec.ofInt 32 a.toInt.natAbs
    result u e [r] (arith false (outside 32 a.toInt.natAbs) r) true) ∧
  Pops1 e { len := 1, cyc := 1, second := true } 1 (.inc e) (fun a u =>
    result u e [a + 1] { arith false (outside 32 (a.toInt + 1)) (a + 1) with c := none } true) ∧
  Pops1 e { len := 1, cyc := 1, second := true } 1 (.dec e) (fun a u =>
    result u e [a - 1] { arith false (outside 32 (a.toInt - 1)) (a - 1) with c := none } true) ∧
  Pops2 e { len := 1, cyc := 1, second := true } 0 (.cmp e) (fun a b u =>
    flagsOnly u e (arith (decide (a.toNat < b.toNat)) (outside 32 (a.toInt - b.toInt)) (a - b)))

/-- R151: minima, maxima, LIMIT, extensions and compares write no flag; AND, OR, XOR, NOT and TST write V 0 and Z and N of the result,
and leave C. -/
def Obligations.SelectCompareLogic : Prop := ∀ e : Eng,
  Pops2 e { len := 1, cyc := 1, second := true } 1 (.min e) (fun a b u => push u e [BitVec.ofInt 32 (min a.toInt b.toInt)]) ∧
  Pops2 e { len := 1, cyc := 1, second := true } 1 (.max e) (fun a b u => push u e [BitVec.ofInt 32 (max a.toInt b.toInt)]) ∧
  Pops2 e { len := 1, cyc := 1, second := true } 1 (.minu e) (fun a b u => push u e [BitVec.ofNat 32 (min a.toNat b.toNat)]) ∧
  Pops2 e { len := 1, cyc := 1, second := true } 1 (.maxu e) (fun a b u => push u e [BitVec.ofNat 32 (max a.toNat b.toNat)]) ∧
  Pops3 e { len := 1, cyc := 1, second := true } 1 (.limit e) (fun mn x mx u =>
    push u e [BitVec.ofInt 32 (min (max x.toInt mn.toInt) mx.toInt)]) ∧
  Pops1 e { len := 1, cyc := 1, second := true } 1 (.sexb e) (fun a u => push u e [BitVec.ofInt 32 (a.setWidth 8).toInt]) ∧
  Pops1 e { len := 1, cyc := 1, second := true } 1 (.sexh e) (fun a u => push u e [BitVec.ofInt 32 (a.setWidth 16).toInt]) ∧
  Pops1 e { len := 1, cyc := 1, second := true } 1 (.zexb e) (fun a u => push u e [BitVec.ofNat 32 (a.toNat % 2 ^ 8)]) ∧
  Pops1 e { len := 1, cyc := 1, second := true } 1 (.zexh e) (fun a u => push u e [BitVec.ofNat 32 (a.toNat % 2 ^ 16)]) ∧
  Pops1 e { len := 1, cyc := 1, second := true } 1 (.eqz e) (fun a u => push u e [if a.toNat = 0 then 1 else 0]) ∧
  Pops2 e { len := 1, cyc := 1, second := true } 1 (.eq e) (fun a b u => push u e [if a.toNat = b.toNat then 1 else 0]) ∧
  Pops2 e { len := 1, cyc := 1, second := true } 1 (.ne e) (fun a b u => push u e [if a.toNat = b.toNat then 0 else 1]) ∧
  Pops2 e { len := 1, cyc := 1, second := true } 1 (.lt e) (fun a b u => push u e [if a.toInt < b.toInt then 1 else 0]) ∧
  Pops2 e { len := 1, cyc := 1, second := true } 1 (.le e) (fun a b u => push u e [if b.toInt < a.toInt then 0 else 1]) ∧
  Pops2 e { len := 1, cyc := 1, second := true } 1 (.ltu e) (fun a b u => push u e [if a.toNat < b.toNat then 1 else 0]) ∧
  Pops2 e { len := 1, cyc := 1, second := true } 1 (.leu e) (fun a b u => push u e [if b.toNat < a.toNat then 0 else 1]) ∧
  Pops2 e { len := 1, cyc := 1, second := true } 1 (.iAnd e) (fun a b u => result u e [a &&& b] (noV none (a &&& b)) false) ∧
  Pops2 e { len := 1, cyc := 1, second := true } 1 (.iOr e) (fun a b u => result u e [a ||| b] (noV none (a ||| b)) false) ∧
  Pops2 e { len := 1, cyc := 1, second := true } 1 (.xor e) (fun a b u => result u e [a ^^^ b] (noV none (a ^^^ b)) false) ∧
  Pops1 e { len := 1, cyc := 1, second := true } 1 (.iNot e) (fun a u => result u e [-a - 1] (noV none (-a - 1)) false) ∧
  Pops1 e { len := 1, cyc := 1, second := true } 1 (.tst e) (fun a u => result u e [a] (noV none a) false)

/-- R153: shifts and rotates, with the count in a popped cell and, for the immediate forms, in the instruction. -/
def Obligations.ShiftsAndRotates : Prop := ∀ e : Eng,
  Pops2 e { len := 1, cyc := 1, second := true } 1 (.shl e) (fun a n u => shifted u e (shlR a n.toNat)) ∧
  Pops2 e { len := 1, cyc := 1, second := true } 1 (.shr e) (fun a n u => shifted u e (shrR a n.toNat)) ∧
  Pops2 e { len := 1, cyc := 1, second := true } 1 (.sar e) (fun a n u => shifted u e (sarR a n.toNat)) ∧
  Pops2 e { len := 1, cyc := 1, second := true } 1 (.rol e) (fun a n u => shifted u e (rolR a n.toNat)) ∧
  Pops2 e { len := 1, cyc := 1, second := true } 1 (.ror e) (fun a n u => shifted u e (rorR a n.toNat)) ∧
  (∀ n : BitVec 8, Pops1 e { len := 2, cyc := 1 } 1 (.shli e n) (fun a u => shifted u e (shlR a n.toNat))) ∧
  (∀ n : BitVec 8, Pops1 e { len := 2, cyc := 1 } 1 (.shri e n) (fun a u => shifted u e (shrR a n.toNat))) ∧
  (∀ n : BitVec 8, Pops1 e { len := 2, cyc := 1 } 1 (.sari e n) (fun a u => shifted u e (sarR a n.toNat))) ∧
  (∀ n : BitVec 8, Pops1 e { len := 2, cyc := 1 } 1 (.roli e n) (fun a u => shifted u e (rolR a n.toNat)))

/-- R154, R155: products and quotients over the integers. Division by zero gives the results of R155 and DZ; the two traps come
in their order. -/
def Obligations.MultiplyAndDivide : Prop := ∀ e : Eng,
  Pops2 e { len := 1, cyc := 3 } 1 (.mul e) (fun a b u =>
    let r := BitVec.ofInt 32 (a.toInt * b.toInt)
    result u e [r] (arith false (outside 32 (a.toInt * b.toInt)) r) true) ∧
  Pops2 e { len := 1, cyc := 3 } 1 (.mulu e) (fun a b u =>
    let r := BitVec.ofNat 32 (a.toNat * b.toNat)
    result u e [r] (arith (decide (a.toNat * b.toNat ≥ 2 ^ 32)) false r) false) ∧
  Pops2 e { len := 1, cyc := 4 } 2 (.muld e) (fun a b u =>
    let r := BitVec.ofInt 64 (a.toInt * b.toInt)
    result u e (dcells r) (arith false false r) false) ∧
  Pops2 e { len := 1, cyc := 4 } 2 (.mulud e) (fun a b u =>
    let r := BitVec.ofNat 64 (a.toNat * b.toNat)
    result u e (dcells r) (arith false false r) false) ∧
  Pops2 e { len := 1, cyc := 34, entry := some 0xD4 } 2 (.divmod e) (fun a b u =>
    if b = 0 then
      let q : Word := if a.toInt < 0 then 0x80000000#32 else 0x7FFFFFFF#32
      resultTrap u e [q, a] { arith false false q with dz := true } (divTrap true false)
    else
      let v := outside 32 (a.toInt.tdiv b.toInt)
      let q := BitVec.ofInt 32 (a.toInt.tdiv b.toInt)
      resultTrap u e [q, BitVec.ofInt 32 (a.toInt.tmod b.toInt)] (arith false v q) (divTrap false v)) ∧
  Pops2 e { len := 1, cyc := 34, entry := some 0xD5 } 2 (.divmodu e) (fun a b u =>
    if b = 0 then resultTrap u e [0xFFFFFFFF#32, a] { arith false false 0xFFFFFFFF#32 with dz := true } (divTrap true false)
    else
      let q := BitVec.ofNat 32 (a.toNat / b.toNat)
      resultTrap u e [q, BitVec.ofNat 32 (a.toNat % b.toNat)] (arith false false q) (divTrap false false))

/-- R156, R157, R158: the BCD instructions compute on the numbers that the digits spell. An operand with a digit above 9 gives
all ones, BF and, if enabled, the BCD Format trap; a number too large for its digits gives all nines and V. -/
def Obligations.BcdIsDecimalArithmetic : Prop := ∀ e : Eng,
  (∀ (c : Instr) (n : Nat) (sub : Bool),
    (c = .badd e ∧ n = 0xD8 ∧ sub = false ∨ c = .bsub e ∧ n = 0xD9 ∧ sub = true) →
    Pops2 e { len := 1, cyc := 6, entry := some n } 1 c (fun a b u =>
      if bcdValid 8 a && bcdValid 8 b then
        let x := bcdVal 8 a
        let y := bcdVal 8 b
        let r := if sub then 10 ^ 8 + x - y else x + y
        push (flagsOnly u e (bcdFlags (some (if sub then decide (x < y) else decide (r ≥ 10 ^ 8))) (decide (r % 10 ^ 8 = 0)) false))
          e [bcdOf 32 8 r]
      else resultTrap u e [0xFFFFFFFF#32] (bcdFlags (some false) false true) (bcdTrap true))) ∧
  (∀ (c : Instr) (n : Nat) (sub : Bool),
    (c = .baddd e ∧ n = 0xDA ∧ sub = false ∨ c = .bsubd e ∧ n = 0xDB ∧ sub = true) →
    Pops4 e { len := 1, cyc := 10, entry := some n } 2 c (fun ah al bh bl u =>
      let a := dbl al ah
      let b := dbl bl bh
      if bcdValid 16 a && bcdValid 16 b then
        let x := bcdVal 16 a
        let y := bcdVal 16 b
        let r := if sub then 10 ^ 16 + x - y else x + y
        push (flagsOnly u e (bcdFlags (some (if sub then decide (x < y) else decide (r ≥ 10 ^ 16))) (decide (r % 10 ^ 16 = 0)) false))
          e (dcells (bcdOf 64 16 r))
      else resultTrap u e [0xFFFFFFFF#32, 0xFFFFFFFF#32] (bcdFlags (some false) false true) (bcdTrap true))) ∧
  Pops1 e { len := 1, cyc := 12, entry := some 0xDC } 1 (.bcd2b e) (fun a u =>
    if bcdValid 8 a then push (flagsOnly u e (bcdFlags none (decide (bcdVal 8 a = 0)) false)) e [BitVec.ofNat 32 (bcdVal 8 a)]
    else resultTrap u e [0xFFFFFFFF#32] (bcdFlags none false true) (bcdTrap true)) ∧
  Pops2 e { len := 1, cyc := 20, entry := some 0xDE } 2 (.bcd2bd e) (fun ah al u =>
    let a := dbl al ah
    if bcdValid 16 a then
      push (flagsOnly u e (bcdFlags none (decide (bcdVal 16 a = 0)) false)) e (dcells (BitVec.ofNat 64 (bcdVal 16 a)))
    else resultTrap u e [0xFFFFFFFF#32, 0xFFFFFFFF#32] (bcdFlags none false true) (bcdTrap true)) ∧
  Pops1 e { len := 1, cyc := 20, entry := some 0xDD } 1 (.b2bcd e) (fun a u =>
    if a.toNat ≤ 99999999 then result u e [bcdOf 32 8 a.toNat] { v := some false, z := some (decide (a = 0)) } true
    else result u e [0x99999999#32] { v := some true, z := some false } true) ∧
  Pops2 e { len := 1, cyc := 36, entry := some 0xDF } 2 (.b2bcdd e) (fun ah al u =>
    let a := dbl al ah
    if a.toNat < 10 ^ 16 then result u e (dcells (bcdOf 64 16 a.toNat)) { v := some false, z := some (decide (a = 0)) } true
    else result u e [0x99999999#32, 0x99999999#32] { v := some true, z := some false } true) ∧
  Pops1 e { len := 1, cyc := 4, entry := some 0xD6 } 1 (.dadj e) (fun a u =>
    push (flagsOnly u e (bcdFlags (some (decide (bcdVal 8 a ≥ 10 ^ 8))) (decide (bcdVal 8 a % 10 ^ 8 = 0)) false))
      e [bcdOf 32 8 (bcdVal 8 a)]) ∧
  Pops2 e { len := 1, cyc := 6, entry := some 0xD7 } 2 (.dadjd e) (fun ah al u =>
    let a := dbl al ah
    push (flagsOnly u e (bcdFlags (some (decide (bcdVal 16 a ≥ 10 ^ 16))) (decide (bcdVal 16 a % 10 ^ 16 = 0)) false))
      e (dcells (bcdOf 64 16 (bcdVal 16 a))))

/-- R169: the 64-bit page. Doubles lie with the less significant word on top, and the flags follow R148 and R153 over 64 bits. -/
def Obligations.SixtyFourBitPage : Prop := ∀ e : Eng,
  Pops4 e { len := 2, cyc := 2 } 2 (.dadd e) (fun ah al bh bl u =>
    let a := dbl al ah
    let b := dbl bl bh
    result u e (dcells (a + b)) (arith (decide (a.toNat + b.toNat ≥ 2 ^ 64)) (outside 64 (a.toInt + b.toInt)) (a + b)) true) ∧
  Pops4 e { len := 2, cyc := 2 } 2 (.dsub e) (fun ah al bh bl u =>
    let a := dbl al ah
    let b := dbl bl bh
    result u e (dcells (a - b)) (arith (decide (a.toNat < b.toNat)) (outside 64 (a.toInt - b.toInt)) (a - b)) true) ∧
  Pops2 e { len := 2, cyc := 2 } 2 (.dneg e) (fun ah al u =>
    let a := dbl al ah
    result u e (dcells (-a)) (arith (decide (a ≠ 0)) (outside 64 (-a.toInt)) (-a)) true) ∧
  Pops4 e { len := 2, cyc := 2 } 0 (.dcmp e) (fun ah al bh bl u =>
    let a := dbl al ah
    let b := dbl bl bh
    flagsOnly u e (arith (decide (a.toNat < b.toNat)) (outside 64 (a.toInt - b.toInt)) (a - b))) ∧
  Pops3 e { len := 2, cyc := 2 } 2 (.dshl e) (fun ah al n u => shiftedD u e (shlR (dbl al ah) n.toNat)) ∧
  Pops3 e { len := 2, cyc := 2 } 2 (.dshr e) (fun ah al n u => shiftedD u e (shrR (dbl al ah) n.toNat)) ∧
  Pops3 e { len := 2, cyc := 2 } 2 (.dsar e) (fun ah al n u => shiftedD u e (sarR (dbl al ah) n.toNat)) ∧
  Pops1 e { len := 2, cyc := 1 } 2 (.dsex e) (fun a u => push u e (dcells (BitVec.ofInt 64 a.toInt))) ∧
  Pops1 e { len := 2, cyc := 1 } 2 (.dzex e) (fun a u => push u e (dcells (BitVec.ofNat 64 a.toNat)))

/-- R159: loads. A load that is granted and aligned, or split where TRAPEN.AL is 0 (R134), pushes what it reads, extended as the
row says; LDWS and LDBS take DSP from before the instruction's own spill or fill. -/
def Obligations.Loads : Prop := ∀ e : Eng,
  Work1 e { len := 1, cyc := 1 } 1 (.ldw e) (fun a _ => load e a 4) (fun v w => push w e [v]) ∧
  Work1 e { len := 1, cyc := 1 } 1 (.ldh e) (fun a _ => load e a 2) (fun v w => push w e [BitVec.ofInt 32 (v.setWidth 16).toInt]) ∧
  Work1 e { len := 1, cyc := 1 } 1 (.ldhu e) (fun a _ => load e a 2) (fun v w => push w e [v]) ∧
  Work1 e { len := 1, cyc := 1 } 1 (.ldb e) (fun a _ => load e a 1) (fun v w => push w e [BitVec.ofInt 32 (v.setWidth 8).toInt]) ∧
  Work1 e { len := 1, cyc := 1 } 1 (.ldbu e) (fun a _ => load e a 1) (fun v w => push w e [v]) ∧
  Work1 e { len := 1, cyc := 1 } 2 (.ldd e) (fun a _ => loadD e a) (fun v w => push w e [v.1, v.2]) ∧
  (∀ i, Work0 e { len := 5, cyc := 1, first := true } 1 (.ldwa e i) (fun _ => load e i 4) (fun v w => push w e [v])) ∧
  (∀ i, Work0 e { len := 5, cyc := 1, first := true } 1 (.ldba e i) (fun _ => load e i 1) (fun v w => push w e [v])) ∧
  (∀ i : BitVec 16, Work0 e { len := 3, cyc := 1, first := true } 1 (.ldws e i)
    (fun t => load e ((eng t e).dsp + BitVec.ofInt 32 i.toInt) 4) (fun v w => push w e [v])) ∧
  (∀ i : BitVec 16, Work0 e { len := 3, cyc := 1, first := true } 1 (.ldbs e i)
    (fun t => load e ((eng t e).dsp + BitVec.ofInt 32 i.toInt) 1) (fun v w => push w e [v])) ∧
  (∀ i : BitVec 16, Work1 e { len := 3, cyc := 1 } 1 (.ldwo e i) (fun a _ => load e (a + BitVec.ofInt 32 i.toInt) 4)
    (fun v w => push w e [v]))

/-- R159: stores. The value lies under the address; STH and STB store the low half-word and byte. -/
def Obligations.Stores : Prop := ∀ e : Eng,
  Work2 e { len := 1, cyc := 1 } 0 (.stw e) (fun x a => store e a 4 x) (fun _ w => w) ∧
  Work2 e { len := 1, cyc := 1 } 0 (.sth e) (fun x a => store e a 2 x) (fun _ w => w) ∧
  Work2 e { len := 1, cyc := 1 } 0 (.stb e) (fun x a => store e a 1 x) (fun _ w => w) ∧
  Work3 e { len := 1, cyc := 1 } 0 (.std e) (fun hi lo a => storeD e a lo hi) (fun _ w => w) ∧
  (∀ i, Work1 e { len := 5, cyc := 1 } 0 (.stwa e i) (fun x _ => store e i 4 x) (fun _ w => w)) ∧
  (∀ i, Work1 e { len := 5, cyc := 1 } 0 (.stba e i) (fun x _ => store e i 1 x) (fun _ w => w)) ∧
  (∀ i : BitVec 16, Work1 e { len := 3, cyc := 1 } 0 (.stws e i)
    (fun x t => store e ((eng t e).dsp + BitVec.ofInt 32 i.toInt) 4 x) (fun _ w => w)) ∧
  (∀ i : BitVec 16, Work1 e { len := 3, cyc := 1 } 0 (.stbs e i)
    (fun x t => store e ((eng t e).dsp + BitVec.ofInt 32 i.toInt) 1 x) (fun _ w => w)) ∧
  (∀ i : BitVec 16, Work2 e { len := 3, cyc := 1 } 0 (.stwo e i) (fun x a => store e (a + BitVec.ofInt 32 i.toInt) 4 x) (fun _ w => w))

/-- R161, R134: LDL reads a word and reserves it; STC stores only while the word is still reserved, tells which, and in either case
drops the reservation. Both raise Alignment on a misaligned address whatever TRAPEN.AL is, and a denied address raises Data
Access with the denial. -/
def Obligations.LoadReserveStoreConditional : Prop := ∀ (e : Eng) (s t u : State) (a : Word),
  (Started e { len := 1, cyc := 1 } s t → Takes e 1 1 t [a] u →
    (∀ w w' v, Runs (checkStrict e a.toNat needR [1, 3]) u () w → Runs (readRaw e a.toNat 4) w v w' →
      exec (.ldl e) s = .next (retire (push (onEng w' e fun x => { x with rsv := a ||| 1 }) e [v]) e)) ∧
    (cmpHits u e [1, 3] a.toNat = [] → a.toNat % 4 ≠ 0 → exec (.ldl e) s = .next (takeFault s e vAlign none u.dbg)) ∧
    (∀ d, cmpHits u e [1, 3] a.toNat = [] → a.toNat % 4 = 0 → engCheck u e a.toNat needR = some d →
      exec (.ldl e) s = .next (takeFault s e vData (some d) u.dbg))) ∧
  (∀ x, Started e { len := 1, cyc := 1 } s t → Takes e 2 1 t [a, x] u →
    (∀ w, Runs (checkStrict e a.toNat needW [2, 3]) u () w →
      (bit (eng w e).rsv 0 = true → (eng w e).rsv.toNat / 4 = a.toNat / 4 → ∀ w', Runs (writeRaw e a.toNat 4 x) w () w' →
        exec (.stc e) s = .next (retire (push (onEng w' e fun y => { y with rsv := putBit y.rsv 0 false }) e [1]) e)) ∧
      (¬(bit (eng w e).rsv 0 = true ∧ (eng w e).rsv.toNat / 4 = a.toNat / 4) →
        exec (.stc e) s = .next (retire (push (onEng w e fun y => { y with rsv := putBit y.rsv 0 false }) e [0]) e))) ∧
    (cmpHits u e [2, 3] a.toNat = [] → a.toNat % 4 ≠ 0 → exec (.stc e) s = .next (takeFault s e vAlign none u.dbg)) ∧
    (∀ d, cmpHits u e [2, 3] a.toNat = [] → a.toNat % 4 = 0 → engCheck u e a.toNat needW = some d →
      exec (.stc e) s = .next (takeFault s e vData (some d) u.dbg)))

/-- R159, R160: IO-space instructions take bits [15:0] of the address. -/
def Obligations.IoInstructions : Prop := ∀ e : Eng,
  Work1 e { len := 1, cyc := 1 } 1 (.iord e) (fun p _ => ioLoad e (p.toNat % 0x10000)) (fun v w => push w e [v]) ∧
  (∀ i : BitVec 16, Work0 e { len := 3, cyc := 1 } 1 (.iordi e i) (fun _ => ioLoad e i.toNat) (fun v w => push w e [v])) ∧
  Work2 e { len := 1, cyc := 1 } 0 (.iowr e) (fun x p => ioStore e (p.toNat % 0x10000) x) (fun _ w => w) ∧
  (∀ i : BitVec 16, Work1 e { len := 3, cyc := 1 } 0 (.iowri e i) (fun x _ => ioStore e i.toNat x) (fun _ w => w))

/-- R134, R160, R343, R384: a granted, aligned access of an engine to a tarn that answers and whose word is good reads exactly that
word's bytes; a granted word store leaves the word stored, and no other byte of memory changes. No comparator matches, and the
word stored to is no word of a message buffer. -/
def Obligations.TarnAccess : Prop := ∀ (e : Nat) (s : State) (a : Word) (k w : Nat),
  placeOf a.toNat = .tarn k w → a.toNat % 4 = 0 → tarnUp s k = true → tarnCls s k w = .good →
  (cmpHits s e [1, 3] a.toNat = [] → engCheck s e a.toNat needR = none →
    Runs (load e a 4) s (wordAt s a.toNat) (chargeWait (charge s e 3 1) e)) ∧
  (∀ v, cmpHits s e [2, 3] a.toNat = [] → engCheck s e a.toNat needW = none → bufIndex s k w = none →
    ∃ t, Runs (store e a 4 v) s () t ∧ wordAt t a.toNat = v ∧
      ∀ b, b < a.toNat ∨ a.toNat + 4 ≤ b → byteAt t b = byteAt s b)

/-- R163, R164: control transfers. A taken branch takes 3 cycles more than an untaken one, an indirect transfer 4; a call pushes the
address of the following instruction, a return pops it. -/
def Obligations.ControlTransfers : Prop := ∀ e : Eng,
  (∀ d : BitVec 8, NoCells e { len := 2, cyc := 1 } (.bra e d)
    (fun u => transfer u e 2 3 ((eng u e).pc + BitVec.ofInt 32 d.toInt))) ∧
  (∀ d : BitVec 16, NoCells e { len := 3, cyc := 1 } (.bral e d)
    (fun u => transfer u e 3 3 ((eng u e).pc + BitVec.ofInt 32 d.toInt))) ∧
  (∀ i, NoCells e { len := 5, cyc := 1 } (.jmp e i) (fun u => transfer u e 5 3 i)) ∧
  Pops1 e { len := 1, cyc := 1 } 0 (.jmps e) (fun a u => transfer u e 1 4 a) ∧
  (∀ (d : BitVec 16) (s t u : State), Started e { len := 3, cyc := 1 } s t → Runs (pushRet e (eng t e).pc) t () u →
    exec (.call e d) s = .next (retire (transfer u e 3 3 ((eng t e).pc + BitVec.ofInt 32 d.toInt)) e)) ∧
  (∀ (i : Word) (s t u : State), Started e { len := 5, cyc := 1 } s t → Runs (pushRet e (eng t e).pc) t () u →
    exec (.calla e i) s = .next (retire (transfer u e 5 3 i) e)) ∧
  (∀ (s t u w : State) (a : Word), Started e { len := 1, cyc := 1 } s t → Takes e 1 0 t [a] u →
    Runs (pushRet e (eng u e).pc) u () w → exec (.calls e) s = .next (retire (transfer w e 1 4 a) e)) ∧
  (∀ (s t u : State) (r : Word), Started e { len := 1, cyc := 1 } s t → Runs (popRet e) t r u →
    exec (.ret e) s = .next (retire (transfer u e 1 3 r) e))

/-- R163: branches on a popped cell, on flags, and LOOP. -/
def Obligations.ConditionalBranches : Prop := ∀ e : Eng,
  (∀ d : BitVec 8, Pops1 e { len := 2, cyc := 1 } 0 (.bz e d) (fun f u =>
    if f = 0 then transfer u e 2 3 ((eng u e).pc + BitVec.ofInt 32 d.toInt) else u)) ∧
  (∀ d : BitVec 8, Pops1 e { len := 2, cyc := 1 } 0 (.bnz e d) (fun f u =>
    if f = 0 then u else transfer u e 2 3 ((eng u e).pc + BitVec.ofInt 32 d.toInt))) ∧
  (∀ d : BitVec 16, Pops1 e { len := 3, cyc := 1 } 0 (.bzl e d) (fun f u =>
    if f = 0 then transfer u e 3 3 ((eng u e).pc + BitVec.ofInt 32 d.toInt) else u)) ∧
  (∀ d : BitVec 16, Pops1 e { len := 3, cyc := 1 } 0 (.bnzl e d) (fun f u =>
    if f = 0 then u else transfer u e 3 3 ((eng u e).pc + BitVec.ofInt 32 d.toInt))) ∧
  (∀ d : BitVec 8, Pops1 e { len := 2, cyc := 1 } 1 (.loop e d) (fun n u =>
    if n = 1 then u
    else
      let w := push u e [n - 1]
      transfer w e 2 3 ((eng w e).pc + BitVec.ofInt 32 d.toInt))) ∧
  (∀ (d : BitVec 8) (s t : State), Started e { len := 2, cyc := 1 } s t →
    let st := (eng t e).stat
    let c := bit st stC
    let v := bit st stV
    let z := bit st stZ
    let n := bit st stN
    let br (b : Bool) : Out := .next (retire (if b then transfer t e 2 3 ((eng t e).pc + BitVec.ofInt 32 d.toInt) else t) e)
    exec (.beq e d) s = br z ∧ exec (.bne e d) s = br (!z) ∧ exec (.bcs e d) s = br c ∧ exec (.bcc e d) s = br (!c) ∧
    exec (.bmi e d) s = br n ∧ exec (.bpl e d) s = br (!n) ∧ exec (.bvs e d) s = br v ∧ exec (.bvc e d) s = br (!v) ∧
    exec (.blt e d) s = br (decide (n ≠ v)) ∧ exec (.bge e d) s = br (decide (n = v)) ∧
    exec (.ble e d) s = br (decide (z = true ∨ n ≠ v)) ∧ exec (.bgt e d) s = br (decide (z = false ∧ n = v)) ∧
    exec (.bhi e d) s = br (decide (c = false ∧ z = false)) ∧ exec (.bls e d) s = br (decide (c = true ∨ z = true)))

/-- R131: a call's return address goes one word below RSP, and to no other place; the check against the limit comes first and
changes nothing. A return reads the word at RSP and raises RSP by 4. -/
def Obligations.ReturnStack : Prop := ∀ (e : Eng) (s : State) (r : Word),
  ((rspOf (eng s e) - 4).toNat < (rslOf (eng s e)).toNat → (pushRet e r).run s = .error (.fault vStack none s.dbg)) ∧
  (∀ t u, (rslOf (eng s e)).toNat ≤ (rspOf (eng s e) - 4).toNat →
    Runs (checkAccess e (rspOf (eng s e) - 4).toNat 4 needW [2, 3]) s () t → Runs (writeRaw e (rspOf (eng s e) - 4).toNat 4 r) t () u →
    Runs (pushRet e r) s ()
      (onEng u e fun x => ersPut x (rspReg (xVital x) (xSup x)) (rspOf (eng s e) - 4))) ∧
  (∀ t u v, Runs (checkAccess e (rspOf (eng s e)).toNat 4 needR [1, 3]) s () t → Runs (readRaw e (rspOf (eng s e)).toNat 4) t v u →
    Runs (popRet e) s v (onEng u e fun x => ersPut x (rspReg (xVital x) (xSup x)) (rspOf (eng s e) + 4)))

/-- R136, R170, R174: bit instructions. A push needs room on the logic stack, an examination an entry; the bit is read or written at
the instruction's address or at a popped one. BSET and BRST with x = 0 only check the address. -/
def Obligations.BitInstructions : Prop := ∀ e : Eng,
  (∀ i,
    Bits0 e { len := 5, cyc := 1 } 0 1 (.bld e i) (fun _ => bRead e i) (fun _ b => lskPush b) ∧
    Bits0 e { len := 5, cyc := 1 } 0 1 (.bldn e i) (fun _ => bRead e i) (fun _ b => lskPush (!b)) ∧
    Bits0 e { len := 5, cyc := 1 } 1 1 (.band e i) (fun _ => bRead e i) (fun _ b y => lskTop (lskBit y 0 && b) y) ∧
    Bits0 e { len := 5, cyc := 1 } 1 1 (.bandn e i) (fun _ => bRead e i) (fun _ b y => lskTop (lskBit y 0 && !b) y) ∧
    Bits0 e { len := 5, cyc := 1 } 1 1 (.bor e i) (fun _ => bRead e i) (fun _ b y => lskTop (lskBit y 0 || b) y) ∧
    Bits0 e { len := 5, cyc := 1 } 1 1 (.born e i) (fun _ => bRead e i) (fun _ b y => lskTop (lskBit y 0 || !b) y) ∧
    Bits0 e { len := 5, cyc := 1 } 1 1 (.bxor e i) (fun _ => bRead e i) (fun _ b y => lskTop (lskBit y 0 != b) y) ∧
    Bits0 e { len := 5, cyc := 1 } 1 1 (.bxorn e i) (fun _ => bRead e i) (fun _ b y => lskTop (lskBit y 0 == b) y) ∧
    Bits0 e { len := 5, cyc := 1 } 1 1 (.bst e i) (fun x => bWrite e i (lskBit x 0)) (fun _ _ y => y) ∧
    Bits0 e { len := 5, cyc := 1 } 1 1 (.bstn e i) (fun x => bWrite e i (!lskBit x 0)) (fun _ _ y => y) ∧
    Bits0 e { len := 5, cyc := 1 } 1 1 (.bset e i)
      (fun x => if lskBit x 0 then bWrite e i true else (do let _ ← bitNeed e (bitAddr i) needB)) (fun _ _ y => y) ∧
    Bits0 e { len := 5, cyc := 1 } 1 1 (.brst e i)
      (fun x => if lskBit x 0 then bWrite e i false else (do let _ ← bitNeed e (bitAddr i) needB)) (fun _ _ y => y) ∧
    Bits0 e { len := 5, cyc := 1 } 0 1 (.tasb e i) (fun _ => bModify e i fun _ => true) (fun _ b => lskPush b) ∧
    (∀ s t w, Started e { len := 5, cyc := 1 } s t →
      (Runs (bWrite e i true) t () w → exec (.setb e i) s = .next (retire w e)) ∧
      (Runs (bWrite e i false) t () w → exec (.clrb e i) s = .next (retire w e)) ∧
      (∀ b, Runs (bModify e i fun b => !b) t b w → exec (.invb e i) s = .next (retire w e)))) ∧
  Bits1 e { len := 1, cyc := 1 } 0 1 (.blds e) (fun a _ => bRead e a) (fun _ b => lskPush b) ∧
  Bits1 e { len := 1, cyc := 1 } 1 1 (.bsts e) (fun a x => bWrite e a (lskBit x 0)) (fun _ _ y => y) ∧
  Bits1 e { len := 1, cyc := 1 } 1 1 (.bands e) (fun a _ => bRead e a) (fun _ b y => lskTop (lskBit y 0 && b) y) ∧
  Bits1 e { len := 1, cyc := 1 } 1 1 (.bors e) (fun a _ => bRead e a) (fun _ b y => lskTop (lskBit y 0 || b) y) ∧
  Work1 e { len := 1, cyc := 1 } 1 (.brdc e) (fun a _ => bRead e a) (fun b w => push w e [if b then 1 else 0]) ∧
  Work2 e { len := 1, cyc := 1 } 0 (.bwrc e) (fun f a => bWrite e a (bit f 0)) (fun _ w => w) ∧
  Work1 e { len := 1, cyc := 1 } 1 (.brdw e) (fun a _ => do bitSpanRead e (← bitSpan e a needR)) (fun v w => push w e [v]) ∧
  Work2 e { len := 1, cyc := 1 } 0 (.bwrw e) (fun x a => do bitSpanWrite e (← bitSpan e a needB) x) (fun _ w => w)

/-- R136, R174: the logic stack as a list of bits, the top first. -/
def Obligations.LogicStack : Prop := ∀ (e : Eng) (s t : State),
  (Started e { len := 1, cyc := 1 } s t →
    let x := eng t e
    let ends (f : Engine → Engine) : Out := .next (retire (onEng t e f) e)
    let d := x.lskd.toNat
    (2 ≤ d → d ≤ 33 → exec (.land e) s = ends (fun x => lskTop (lskBit x 1 && lskBit x 0) (lskPop 1 x)) ∧
      exec (.lor e) s = ends (fun x => lskTop (lskBit x 1 || lskBit x 0) (lskPop 1 x)) ∧
      exec (.lxor e) s = ends (fun x => lskTop (lskBit x 1 != lskBit x 0) (lskPop 1 x))) ∧
    (2 ≤ d → d ≤ 32 → ∃ y : Engine, exec (.lswap e) s = .next (retire (putEng t e y) e) ∧
      y = { x with lsk := y.lsk } ∧ lskBit y 0 = lskBit x 1 ∧ lskBit y 1 = lskBit x 0 ∧
      ∀ i, 2 ≤ i → lskBit y i = lskBit x i) ∧
    (1 ≤ d → d ≤ 32 → exec (.lnot e) s = ends (fun x => lskTop (!lskBit x 0) x)) ∧
    (1 ≤ d → d ≤ 31 → exec (.ldup e) s = ends (fun x => lskPush (lskBit x 0) x)) ∧
    (1 ≤ d → d ≤ 33 → exec (.ldrop e) s = ends (lskPop 1)) ∧
    (d = 0 → ∀ c, (c = .ldrop e ∨ c = .lnot e ∨ c = .ldup e ∨ c = .lpop e ∨ c = .land e ∨ c = .lor e ∨ c = .lxor e ∨ c = .lswap e) →
      exec c s = .next (takeFault s e vStack none t.dbg)) ∧
    exec (.lclr e) s = ends (fun x => { x with lskd := 0 }) ∧
    (∀ u, Takes e 0 1 t [] u → 1 ≤ d → d ≤ 33 → ∀ v : Word, v = (if lskBit (eng u e) 0 then 1 else 0) →
      exec (.lpop e) s = .next (retire (push (onEng u e (lskPop 1)) e [v]) e)) ∧
    (∀ u a, Takes e 1 0 t [a] u →
      ((eng u e).lskd.toNat ≤ 31 → exec (.lpush e) s = .next (retire (onEng u e (lskPush (bit a 0))) e)) ∧
      ((eng u e).lskd.toNat = 32 → exec (.lpush e) s = .next (takeFault s e vStack none u.dbg)))) ∧
  (∀ i : BitVec 8, Started e { len := 2, cyc := 1 } s t →
    1 ≤ (eng t e).lskd.toNat → (eng t e).lskd.toNat ≤ 33 →
    let x := lskBit (eng t e) 0
    let w := onEng t e (lskPop 1)
    let go := transfer w e 2 3 ((eng w e).pc + BitVec.ofInt 32 i.toInt)
    exec (.lbz e i) s = .next (retire (if x then w else go) e) ∧
    exec (.lbnz e i) s = .next (retire (if x then go else w) e))

/-- R175: edge instructions: the edge memory takes the input, and the top becomes the edge. -/
def Obligations.Edges : Prop := ∀ e : Eng,
  (∀ i, Bits0 e { len := 5, cyc := 1 } 1 1 (.edgr e i) (fun x => bModify e i fun _ => lskBit x 0)
    (fun x m => lskTop (lskBit x 0 && !m))) ∧
  (∀ i, Bits0 e { len := 5, cyc := 1 } 1 1 (.edgf e i) (fun x => bModify e i fun _ => lskBit x 0)
    (fun x m => lskTop (m && !lskBit x 0))) ∧
  Bits1 e { len := 1, cyc := 1 } 1 1 (.edgrs e) (fun a x => bModify e a fun _ => lskBit x 0) (fun x m => lskTop (lskBit x 0 && !m)) ∧
  Bits1 e { len := 1, cyc := 1 } 1 1 (.edgfs e) (fun a x => bModify e a fun _ => lskBit x 0) (fun x m => lskTop (m && !lskBit x 0))

/-- R177, R178, R179: TON, TOF, TP and TRST read the block, write words 1 to 3 and leave Q on the logic stack; PT is not
written. -/
def Obligations.TimerInstructions : Prop := ∀ (e : Eng) (s t u : State) (a : Word),
  Takes e 1 0 t [a] u →
  (∀ (c : Instr) (n : Nat) (f : Word → Bool → TimerBlk → TimerBlk),
    (c = .ton e ∧ n = 0xA8 ∧ f = tonStep ∨ c = .tof e ∧ n = 0xA9 ∧ f = tofStep ∨ c = .tp e ∧ n = 0xAA ∧ f = tpStep) →
    Started e { len := 1, cyc := 10, entry := some n } s t →
    1 ≤ (eng u e).lskd.toNat → (eng u e).lskd.toNat ≤ 32 →
    ∀ pt et ts w3 w v, Runs (readBlock e a) u (pt, et, ts, w3) w →
      let r := f (cstOf w e) (lskBit (eng w e) 0) { pt := pt, et := et, ts := ts, q := bit w3 0, inp := bit w3 1, run := bit w3 2 }
      Runs (blkWrite e a r.et r.ts (BitVec.ofNat 32 (b2n r.q + 2 * b2n r.inp + 4 * b2n r.run))) w () v →
      exec c s = .next (retire (onEng v e (lskTop r.q)) e)) ∧
  (Started e { len := 1, cyc := 4, entry := some 0xAB } s t → ∀ w v, Runs (blkCheck e a false) u () w →
    Runs (blkWrite e a 0 0 0) w () v → exec (.trst e) s = .next (retire v e))

/-- R179: what the timers measure, `el` being the time since TS. TON holds ET = min(el, PT) and turns Q on when el reaches PT, and
with the input at 0 it is all off; TOF turns Q off when el reaches PT after the input fell; TP holds Q for PT after a rising edge.
A preset of 0 makes TON true at once and TP never. -/
def Obligations.TimerLaws : Prop := ∀ (now : Word) (b : TimerBlk),
  let el := now - b.ts
  let reached := decide (b.pt.toNat ≤ el.toNat)
  tonStep now false b = { b with et := 0, q := false, run := false, inp := false } ∧
  (b.inp = false → tonStep now true b =
    { b with ts := now, et := 0, inp := true, q := b.q || decide (b.pt = 0), run := decide (b.pt ≠ 0) }) ∧
  (b.inp = true → b.run = true → tonStep now true b =
    { b with et := if reached then b.pt else el, q := b.q || reached, run := !reached }) ∧
  (b.inp = true → b.run = false → tonStep now true b = b) ∧
  tofStep now true b = { b with et := 0, q := true, run := false, inp := true } ∧
  (b.inp = true → tofStep now false b =
    { b with ts := now, et := 0, inp := false, q := b.q && decide (b.pt ≠ 0), run := decide (b.pt ≠ 0) }) ∧
  (b.inp = false → b.run = true → tofStep now false b =
    { b with et := if reached then b.pt else el, q := b.q && !reached, run := !reached }) ∧
  (b.inp = false → b.run = false → tofStep now false b = b) ∧
  (b.run = false → b.inp = false → tpStep now true b =
    { b with ts := now, et := 0, inp := true, q := decide (b.pt ≠ 0), run := decide (b.pt ≠ 0) }) ∧
  (∀ i, b.run = true → reached = false → tpStep now i b = { b with et := el, inp := i }) ∧
  (∀ i, b.run = true → reached = true → tpStep now i b =
    { b with et := if i then b.pt else 0, q := false, run := false, inp := i }) ∧
  (b.run = false → tpStep now false b = { b with et := 0, inp := false }) ∧
  (b.run = false → b.inp = true → tpStep now true b = b)

/-- R180: counters. The block is read, the count moves as the rule says over the integers and stays at its limits, words 1 to 3 are
written with word 2 zero, and QU and QD are pushed. -/
def Obligations.CounterInstructions : Prop := ∀ (e : Eng) (s t u : State) (a : Word),
  Takes e 1 0 t [a] u →
  ∀ pv cv x2 w3 w, Runs (readBlock e a) u (pv, cv, x2, w3) w →
  let x := eng w e
  let up (b : Bool) : Int := if b && decide (cv.toInt < 2 ^ 31 - 1) then cv.toInt + 1 else cv.toInt
  let dn (b : Bool) : Int := if b && decide (cv.toInt > -2 ^ 31) then cv.toInt - 1 else cv.toInt
  let word (n : Int) (p q : Bool) : Word :=
    BitVec.ofNat 32 (b2n (decide (n ≥ pv.toInt)) + 2 * b2n (decide (n ≤ 0)) + 4 * b2n p + 8 * b2n q)
  (Started e { len := 1, cyc := 8, entry := some 0xAC } s t →
    2 ≤ (eng u e).lskd.toNat → (eng u e).lskd.toNat ≤ 32 →
    let cu := lskBit x 0
    let n := if lskBit x 1 then 0 else up (cu && !bit w3 2)
    ∀ v, Runs (blkWrite e a (BitVec.ofInt 32 n) 0 (word n cu (bit w3 3))) w () v →
      exec (.ctu e) s = .next (retire (onEng v e fun y => lskPush (decide (n ≥ pv.toInt)) (lskPop 2 y)) e)) ∧
  (Started e { len := 1, cyc := 8, entry := some 0xAD } s t →
    2 ≤ (eng u e).lskd.toNat → (eng u e).lskd.toNat ≤ 32 →
    let cd := lskBit x 0
    let n := if lskBit x 1 then pv.toInt else dn (cd && !bit w3 3)
    ∀ v, Runs (blkWrite e a (BitVec.ofInt 32 n) 0 (word n (bit w3 2) cd)) w () v →
      exec (.ctd e) s = .next (retire (onEng v e fun y => lskPush (decide (n ≤ 0)) (lskPop 2 y)) e)) ∧
  (Started e { len := 1, cyc := 10, entry := some 0xAE } s t →
    4 ≤ (eng u e).lskd.toNat → (eng u e).lskd.toNat ≤ 32 →
    let cu := lskBit x 0
    let cd := lskBit x 1
    let eu := cu && !bit w3 2
    let ed := cd && !bit w3 3
    let n := if lskBit x 2 then 0 else if lskBit x 3 then pv.toInt else if eu && !ed then up true else if ed && !eu then dn true
      else cv.toInt
    ∀ v, Runs (blkWrite e a (BitVec.ofInt 32 n) 0 (word n cu cd)) w () v →
      exec (.ctud e) s = .next (retire (onEng v e fun y =>
        lskPush (decide (n ≥ pv.toInt)) (lskPush (decide (n ≤ 0)) (lskPop 4 y))) e))

/-- R181: one element of each unprefixed block instruction. It costs its element cycles beside the two of the instruction, moves the
pointers of the row, and reads and writes no count; the compares write flags as CMP does. -/
def Obligations.BlockElements : Prop := ∀ e : Eng,
  let ins (n : Nat) : Insn := { len := 1, cyc := 2, entry := some n }
  let move (c : Instr) (op n : Nat) (d : Word) : Prop :=
    ∀ s t w v x, Started e (ins op) s t → Runs (do extra e 1; load e (eng t e).srcp n) t v w → Runs (store e (eng t e).dstp n v) w () x →
      exec c s = .next (retire (onEng x e fun y => { y with srcp := y.srcp + d, dstp := y.dstp + d }) e)
  let fill (c : Instr) (op n : Nat) (d : Word) : Prop :=
    ∀ s t u w a, Started e (ins op) s t → Takes e 1 0 t [a] u → Runs (do extra e 1; store e (eng u e).dstp n a) u () w →
      exec c s = .next (retire (onEng w e fun y => { y with dstp := y.dstp + d }) e)
  let cmp (a b : Word) : Flagged := arith (decide (a.toNat < b.toNat)) (outside 32 (a.toInt - b.toInt)) (a - b)
  let compare (c : Instr) (op n : Nat) (d : Word) : Prop :=
    ∀ s t w a b, Started e (ins op) s t →
      Runs (do extra e 1; let a ← load e (eng t e).srcp n; let b ← load e (eng t e).dstp n; pure (a, b)) t (a, b) w →
      exec c s = .next (retire (onEng (flagsOnly w e (cmp a b)) e fun y => { y with srcp := y.srcp + d, dstp := y.dstp + d }) e)
  let scan (c : Instr) (op n : Nat) (m d : Word) : Prop :=
    ∀ s t u w x a, Started e (ins op) s t → Takes e 1 0 t [x] u → Runs (do extra e 1; load e (eng u e).dstp n) u a w →
      exec c s = .next (retire (onEng (flagsOnly w e (cmp a (x &&& m))) e fun y => { y with dstp := y.dstp + d }) e)
  move (.movb e) 0xC0 1 1 ∧ move (.movw e) 0xC1 4 4 ∧ move (.movwd e) 0xC2 4 (-4) ∧
  fill (.stob e) 0xC3 1 1 ∧ fill (.stow e) 0xC4 4 4 ∧
  compare (.cmpb e) 0xC5 1 1 ∧ compare (.cmpw e) 0xC6 4 4 ∧
  scan (.scab e) 0xC7 1 0xFF 1 ∧ scan (.scaw e) 0xC8 4 0xFFFFFFFF 4 ∧
  (∀ s t w x b, Started e (ins 0xC9) s t → Runs (do extra e 2; bRead e (eng t e).srcp) t b w →
    Runs (bWrite e (eng t e).dstp b) w () x →
    exec (.bmov e) s = .next (retire (onEng x e fun y => { y with srcp := y.srcp + 1, dstp := y.dstp + 1 }) e)) ∧
  (∀ s t u w a, Started e (ins 0xCA) s t → Takes e 1 0 t [a] u → Runs (do extra e 1; bWrite e (eng u e).dstp (bit a 0)) u () w →
    exec (.bsto e) s = .next (retire (onEng w e fun y => { y with dstp := y.dstp + 1 }) e))

/-- R181, R184, R186: XCHW and ADDW read a word, write the operand or the sum, and push what was there; with LOCK only an aligned
word of a tarn or Pond is accepted, and LOCK before any other byte is illegal. -/
def Obligations.ExchangeAndLock : Prop := ∀ (e : Eng) (imm : Word),
  let rmw (strict : Bool) (f : Word → Word → Word) (x a : Word) : EM Word := do
    (if strict then checkStrict e a.toNat (needR + needW) [1, 2, 3] else checkAccess e a.toNat 4 (needR + needW) [1, 2, 3])
    let y ← readRaw e a.toNat 4
    writeRaw e a.toNat 4 (f x y)
    pure y
  let ins (len n : Nat) : Insn := { len := len, cyc := 2, entry := some n }
  Work2 e (ins 1 0xCB) 1 (.xchw e) (rmw false fun x _ => x) (fun y w => push w e [y]) ∧
  Work2 e (ins 1 0xCC) 1 (.addw e) (rmw false fun x y => x + y) (fun y w => push w e [y]) ∧
  (∀ s t u w x a y, placeOf a.toNat ≠ .outer →
    (Started e (ins 2 0xCB) s t → Takes e 2 1 t [a, x] u → Runs (rmw true (fun x _ => x) x a) u y w →
      exec (.lock e 0xCB imm) s = .next (retire (push w e [y]) e)) ∧
    (Started e (ins 2 0xCC) s t → Takes e 2 1 t [a, x] u → Runs (rmw true (fun x y => x + y) x a) u y w →
      exec (.lock e 0xCC imm) s = .next (retire (push w e [y]) e))) ∧
  (∀ s t u w x a, placeOf a.toNat = .outer → ∀ op : Byte, (op = 0xCB ∨ op = 0xCC) →
    Started e (ins 2 op.toNat) s t → Takes e 2 1 t [a, x] u → Runs (checkStrict e a.toNat (needR + needW) [1, 2, 3]) u () w →
      exec (.lock e op imm) s =
        .next (takeFault s e vData (some (mkDenial (engReq w e) (tcodeOf w a.toNat) (needR + needW) spData false a.toNat)) w.dbg)) ∧
  (∀ (op : Byte) (s t : State), op ≠ 0xCB → op ≠ 0xCC → Started e { len := 1 + insnLen op.toNat, cyc := 2 } s t →
    exec (.lock e op imm) s = .next (takeFault s e vIllegal none t.dbg))

/-- R184, R187: a repeated instruction whose entry is granted runs its elements one by one: REP until RCNT has reached 0, REPZ and
REPNZ also until an element leaves Z at 0 or at 1. With RCNT 0 it does nothing. At the end the held operand is popped, PC is past the
instruction and RPA reads 0. A pairing that R184 does not list is illegal before any effect.
That it runs in one command is the model's (log 49). -/
def Obligations.Repetition : Prop := ∀ (e : Eng) (op : Byte) (imm : Word) (s s1 t : State) (v : Word),
  canIssue s e = true → (eng s e).dueTrap = none →
  ∀ (c : Instr) (ok : Bool) (zEnd : Option Bool),
    (c = .rep e op imm ∧ ok = repAccepts op.toNat ∧ zEnd = none ∨
     c = .repz e op imm ∧ ok = repzAccepts op.toNat ∧ zEnd = some false ∨
     c = .repnz e op imm ∧ ok = repzAccepts op.toNat ∧ zEnd = some true) →
    (ok = true → Runs (repEntry e op.toNat true) s v s1 →
      ∀ n m, (eng s1 e).rcnt.toNat = n + m → Elements e op.toNat v zEnd m 0 n s1 t →
        (m = 0 ∨ n ≠ 0 ∧ zEnd = some (bit (eng t e).stat stZ)) →
        exec c s = .next (afterRetire (onEng t e fun x => repFinish x op.toNat) e)) ∧
    (ok = false → ∀ g, (do applyHits e (cmpHits s e [0] (eng s e).pc.toNat); fetchInsn e (eng s e).pc (1 + insnLen op.toNat)
        : EM Unit).run s = .ok ((), t) → g = t.dbg →
      exec c s = .next (takeFault s e vIllegal none g))

/-- R119, R120, R121, R129: RDC pushes a listed register the level may read; WRC writes one the level may write, DSP, DSL and DDEPTH
after a full spill. Other numbers are illegal, and registers of another level or world raise Privilege.
The grouping of a full spill is a reading (log 12). -/
def Obligations.ControlRegisters : Prop := ∀ (e : Eng) (i : BitVec 8) (s t u : State),
  Started e { len := 2, cyc := 2 } s t →
  (crListed i.toNat = true → crReadable (eng t e) i.toNat = true → Takes e 0 1 t [] u →
    exec (.rdc e i) s = .next (retire (push u e [crRead t e i.toNat]) e)) ∧
  (crListed i.toNat = false → exec (.rdc e i) s = .next (takeFault s e vIllegal none t.dbg)) ∧
  (crListed i.toNat = true → crReadable (eng t e) i.toNat = false → exec (.rdc e i) s = .next (takeFault s e vPriv none t.dbg)) ∧
  (∀ v, crListed i.toNat = true → i ≠ 0 → crWritable (eng t e) i.toNat = true → Takes e 1 0 t [v] u →
    (i.toNat < 3 ∨ 5 < i.toNat → exec (.wrc e i) s = .next (retire (onEng u e fun x => crWrite x i.toNat v) e)) ∧
    (∀ w, 3 ≤ i.toNat → i.toNat ≤ 5 → Runs (do checkFullSpill e; fullSpill e) u () w →
      exec (.wrc e i) s = .next (retire (onEng w e fun x => crWrite x i.toNat v) e))) ∧
  (crListed i.toNat = false ∨ i = 0 → exec (.wrc e i) s = .next (takeFault s e vIllegal none t.dbg)) ∧
  (crListed i.toNat = true → i ≠ 0 → crWritable (eng t e) i.toNat = false →
    exec (.wrc e i) s = .next (takeFault s e vPriv none t.dbg))

/-- R166, R167, R168, R191: SVC is due as a supervisor call when it has retired; WAIT stops issue unless a line or a wake is there;
SYNC retires once nothing of this engine is outstanding; PFH takes an address and, where it names nothing to fetch, does nothing
more.
The wait of SYNC is open (log 3). -/
def Obligations.SystemInstructions : Prop := ∀ (e : Eng) (s t : State),
  (∀ i : BitVec 8, Started e { len := 2, cyc := 6 } s t →
    exec (.svc e i) s = .next (retire (onEng t e fun x => { x with dueTrap := some (0x100 + i.toNat) }) e)) ∧
  (Started e { len := 1, cyc := 1 } s t →
    (wakeFor t e = true ∨ (icuLine t e).isSome = true → exec (.wait e) s = .next (retire t e)) ∧
    (wakeFor t e = false → icuLine t e = none →
      exec (.wait e) s = .next (retire (onEng t e fun x => { x with run := .waiting }) e)) ∧
    ((∀ q ∈ t.nchm, q.master = (engReq t e).master → q.done.isSome = true) →
      exec (.sync e) s = .next (retire (chargeWait t e) e)) ∧
    (∀ u a, Takes e 1 0 t [a] u →
      (pfhActs u e a.toNat (bit a 0) = false → exec (.pfh e) s = .next (retire u e)) ∧
      (∀ w l, pfhActs u e a.toNat (bit a 0) = true → lakeWay u (a.toNat / 64) = some (w, l) → l.bad = false →
        exec (.pfh e) s = .next (retire (pfhInstall u e (a.toNat / 64) (bit a 0) l.data) e)) ∧
      (∀ n, pfhActs u e a.toNat (bit a 0) = true → lakeWay u (a.toNat / 64) = none → freeReadId u = some n →
        exec (.pfh e) s = .next (retire { u with nchm := u.nchm ++ [⟨n, a.toNat / 64, e, .pfh e (bit a 0), true, none⟩] } e))))

/-- R201: RETX. With both words of the frame readable and no rise of level or change of world in the saved STAT, PC and STAT come
back from the frame, RSP rises by 8 and the reservation clears; at User level IE and IPL keep their values. Otherwise it raises
Return Privilege. RPA is as the frame has it. -/
def Obligations.ReturnFromException : Prop := ∀ (e : Eng) (s t u1 u2 u3 w : State) (pc st : Word),
  Started e { len := 1, cyc := 6, keepRpa := true } s t →
  let x := eng t e
  let sp := rspOf x
  Runs (checkAccess e sp.toNat 4 needR [1, 3]) t () u1 → Runs (checkAccess e (sp + 4).toNat 4 needR [1, 3]) u1 () u2 →
  Runs (readRaw e sp.toNat 4) u2 pc u3 → Runs (readRaw e (sp + 4).toNat 4) u3 st w →
  ((bit st stW = bit x.stat stW ∧ (bit st stS = true → bit x.stat stS = true)) →
    let back := if bit x.stat stS then st else putFld (putBit st stIE (bit x.stat stIE)) 23 16 (fld x.stat 23 16)
    let v := onEng w e fun y => { ersPut y (rspReg (xVital y) (xSup y)) (sp + 8) with
      stat := back &&& 0x00FF0FFF, rsv := putBit y.rsv 0 false, pc := pc }
    exec (.retx e) s = .next (afterRetire (traceRec v e (x.pc - 1) pc) e)) ∧
  (¬(bit st stW = bit x.stat stW ∧ (bit st stS = true → bit x.stat stS = true)) →
    exec (.retx e) s = .next (takeFault s e vRetPriv none w.dbg))

/-- R210, R211: WGATE calls a gate or, with 0xFFFF, returns from the open one; a refused call and a return with no gate open raise
Gate Fault. -/
def Obligations.Gates : Prop := ∀ (e : Eng) (s t u : State),
  Started e { len := 3, cyc := 12, entry := some 0xEA } s t →
  (∀ i : BitVec 16, i.toNat ≠ 0xFFFF → Runs (gateCall e i.toNat) t () u → exec (.wgate e i) s = .next (retire u e) ∧
    (eng u e).pc = rd t (Reg.grvGpc + 8 * i.toNat) ∧ gateRefused t e i.toNat = false) ∧
  (∀ i : BitVec 16, i.toNat ≠ 0xFFFF → gateRefused t e i.toNat = true →
    exec (.wgate e i) s = .next (takeFault s e vGate none t.dbg)) ∧
  (Runs (gateReturn e) t () u → exec (.wgate e 0xFFFF) s = .next (retire u e) ∧ exec (.wgateReturn e) s = .next (retire u e) ∧
    (∃ c, (eng t e).gate = some c ∧ xVital (eng t e) = c.tow ∧ xSup (eng t e) = c.tos ∧
      (eng u e).pc = c.ret ∧ (eng u e).stat = c.stat ∧ (eng u e).gate = none ∧ (eng u e).lskd = 0)) ∧
  ((eng t e).gate = none → exec (.wgate e 0xFFFF) s = .next (takeFault s e vGate none t.dbg) ∧
    exec (.wgateReturn e) s = .next (takeFault s e vGate none t.dbg))

/-- R146: a reserved opcode raises Illegal Instruction, with nothing changed. -/
def Obligations.ReservedOpcodes : Prop := ∀ (e : Eng) (op op2 : Byte) (s t : State),
  illegalCode op.toNat op2.toNat = true →
  Started e { len := if op.toNat = 0xF0 ∨ op.toNat = 0x08 then 2 else 1, cyc := 1 } s t →
  exec (.reservedOpcode e op op2) s = .next (takeFault s e vIllegal none t.dbg)

/-- R195, R196: taking an exception when no handler is at its first instruction and the Supervisor stack of the world has room and is
granted: the saved PC goes to RSP - 8 and the saved STAT to RSP - 4, RSP falls by 8, S is 1, IE and RPA are 0, an interrupt's level
becomes IPL, the reservation clears, and PC is the vector of the world's table; every other register stays. -/
def Obligations.ExceptionEntry : Prop := ∀ (e : Nat) (k : Entry) (s t u w : State) (pcS stS' : Word) (cyc : Nat),
  let x := eng s e
  let r := rspReg (xVital x) true
  let sp := ersGet x r
  x.inEntry = false → (ersGet x (r + 1)).toNat ≤ (sp - 8).toNat →
  checkSup s e needW [(sp - 8).toNat, (sp - 4).toNat] = none →
  t = onEng (charge s e cyc 0) e (fun y => ersPut y r (sp - 8)) →
  Runs (writeRaw e (sp - 4).toNat 4 stS') t () u → Runs (writeRaw e (sp - 8).toNat 4 pcS) u () w →
  ∃ v, Runs (takeException e k pcS stS' cyc) s () v ∧ runEntry s e k pcS stS' cyc = v ∧
    v = putEng w e (eng v e) ∧
    let y := eng v e
    let z := eng w e
    y.pc = (ersGet z (if bit z.stat stW then 0x18 else 0x19)) +
      (match k with | .vec n => BitVec.ofNat 32 (16 * n) | .svc n => BitVec.ofNat 32 (0x800 + 8 * n) | .irq _ => 0xC0#32) ∧
    bit y.stat stS = true ∧ bit y.stat stIE = false ∧ bit y.stat stRPA = false ∧ bit y.rsv 0 = false ∧
    (∀ i, i ≠ stS → i ≠ stIE → i ≠ stRPA → (i < 16 ∨ 24 ≤ i) → bit y.stat i = bit z.stat i) ∧
    (∀ l, k = .irq l → fld y.stat 23 16 = l % 256) ∧ ((∀ l, k ≠ .irq l) → fld y.stat 23 16 = fld z.stat 23 16) ∧
    y = { z with pc := y.pc, stat := y.stat, rsv := y.rsv, dueTrap := none, inEntry := true, foldAt := none }

/-- R361, R362: an engine with IE set that can issue, has no trap due and stands in no folded pair takes the interrupt presented to it:
the entry at the interrupt vector with the level of the source, and the hold-off of the source's group starts. -/
def Obligations.InterruptEntry : Prop := ∀ (e : Eng) (s : State) (lvl n : Nat),
  canIssue s e = true → (eng s e).dueTrap = none → bit (eng s e).stat stIE = true → insidePair s e = false →
  icuLine s e = some (lvl, n) →
  let s1 := runEntry s e (.irq lvl) (eng s e).pc (eng s e).stat 8
  exec (.interruptEntry e) s = .next (mirror (stepDone (countEmpty (startHold s1 n) e) e) e) ∧
    srcPend s n = true ∧ srcEn s n = true ∧ served s n = some e.val ∧ lvl = srcPrio s n ∧ lvl ≠ 0 ∧
    ∀ j, j < 256 → srcPend s j = true → srcEn s j = true → served s j = some e.val → s.holdRun.getLsbD (j / 8) = false →
      srcPrio s j ≤ lvl

/-- R126, R127: operands in the cache are taken from it, top first, where no spill is needed; with fewer cells than operands on the
stack, the instruction raises Stack Fault with nothing changed, and so does a spill that DSL
does not admit.
Sums wrap (log 11). -/
def Obligations.OperandsFromCache : Prop := ∀ (e n p : Nat) (s : State),
  (n ≤ (eng s e).ddepth.toNat → n ≤ (eng s e).cells.length → (eng s e).cells.length - n + p ≤ 32 →
    Takes e n p s ((eng s e).cells.take n)
      (onEng s e fun x => { x with cells := x.cells.drop n, ddepth := x.ddepth - BitVec.ofNat 32 n })) ∧
  ((eng s e).ddepth.toNat < n → (popN e n p).run s = .error (.fault vStack none s.dbg)) ∧
  (n ≤ (eng s e).ddepth.toNat → n ≤ (eng s e).cells.length → 32 < (eng s e).cells.length - n + p →
    ((eng s e).dsp - 32).toNat < (eng s e).dsl.toNat → (popN e n p).run s = .error (.fault vStack none s.dbg))

/-- R119, R132, R207, R421: the Wellspring's engine, running and with no trap due, starts any instruction that lies in its ROM and whose
microcode word is good: PC passes the instruction, and nothing else changes but the mark of a possible folded pair. The start of an
instruction on any engine leaves every other engine as it is and, of its own engine's registers, changes only PC. -/
def Obligations.InstructionStart : Prop :=
  (∀ (s : State) (i : Insn), canIssue s 32 = true → (eng s 32).dueTrap = none → 1 ≤ i.len →
    0xA0000000 ≤ (eng s 32).pc.toNat → (eng s 32).pc.toNat + i.len ≤ 0xA0020000 →
    (∀ op, i.entry = some op → ucError s 32 (ucAddr s (4 * op)) = none) →
    ∃ f, Started 32 i s (onEng s 32 fun x => { x with pc := x.pc + BitVec.ofNat 32 i.len, foldAt := f })) ∧
  (∀ (e : Nat) (i : Insn) (s t : State), Started e i s t →
    (∀ f, f ≠ e → eng t f = eng s f) ∧
    eng t e = { eng s e with pc := (eng s e).pc + BitVec.ofNat 32 i.len, foldAt := (eng t e).foldAt, fetchBlk := (eng t e).fetchBlk })

/-- R147, R194: an instruction that retires with no trap due, in a Grove that is not being stepped, changes after its work only the
mark of a handler's first instruction and RPA; in Lockstep mode the checker then equals the leader but for its terminal. -/
def Obligations.Retirement : Prop := ∀ (e : Eng) (s : State),
  (eng s e).dueTrap = none → (e.val < 32 → (grv s (e / 2)).stepping = false) →
  let t := onEng s e fun x => { x with stat := putBit x.stat stRPA false, inEntry := false }
  retire s e = if decide (e.val < 32) && decide (e.val % 2 = 0) && isLockstep s (e / 2)
    then putEng t (e + 1) { eng t e with term := (eng s (e + 1)).term } else t

/-- R12, R22: a register with a clear-on-read field returns it and clears it; what the access table denies answers an error with 0
and changes no register but the denial log. The masks are the fields' bits.
The answer shows at outData (log 4). -/
def Obligations.ReadAndClear : Prop := ∀ m : Mst,
  (∀ c a (mask : Word),
    (c = .icuBaddbRead m ∧ a = Reg.icuBaddb ∧ mask = 0xFFFFFFFF#32) ∨
    ((∃ t, c = .icuEmptyRead m t ∧ a = Reg.icuEmpty + t.val) ∧ mask = 0xFFFF#32) ∨
    ((∃ n, c = .schedOvrcntRead m n ∧ a = Reg.schedOvrcnt + n.val) ∧ mask = 0xFFFF#32) ∨
    ((∃ p, c = .attDropRead m p ∧ a = Reg.attDrop + p.val) ∧ mask = 0xFFFF#32) ∨
    ((c = .shrErrRead m .a ∧ a = Reg.shrErra ∨ c = .shrErrRead m .b ∧ a = Reg.shrErrb) ∧ mask = 0xFFFFFFFF#32) ∨
    (c = .fltLostRead m ∧ a = Reg.fltLost ∧ mask = 0xFFFF#32) ∨
    (c = .jrnRejcntRead m ∧ a = Reg.jrnRejcnt ∧ mask = 0xFFFF#32) ∨
    (c = .actVcntRead m ∧ a = Reg.actVcnt ∧ mask = 0xFFFF#32) ∨
    (c = .tarnCecntRead m ∧ a = Reg.tarnCecnt ∧ mask = 0xFFFF#32) ∨
    (c = .tarnUecntRead m ∧ a = Reg.tarnUecnt ∧ mask = 0xFFFF#32) ∨
    (c = .cmxSkipRead m ∧ a = Reg.cmxSkip ∧ mask = 0xFFFF#32) ∨
    (c = .cmxPerrRead m ∧ a = Reg.cmxPerr ∧ mask = 0xFFFFFFFF#32) ∨
    (c = .idUerrRead m ∧ a = Reg.idUerr ∧ mask = 0xFFFF#32) ∨
    (c = .wdiCntRead m ∧ a = Reg.wdiCnt ∧ mask = 0xFFFFFFFF#32) ∨
    (c = .pwrVcntRead m ∧ a = Reg.pwrVcnt ∧ mask = 0xFFFF#32) →
    ReadOf c m.val a (fun _ s => rd s a) (fun _ s => wr s a (rd s a &&& ~~~ mask))) ∧
  -- R39, R52: the high word is captured for the reading master.
  ReadOf (.tbNowlRead m) m.val Reg.tbNowl (fun _ s => lo32 s.tb.now)
    (fun _ s => { s with tb := { s.tb with capH := Sparse.set none s.tb.capH m.val (some (hi32 s.tb.now)) } }) ∧
  ReadOf (.schedCyclRead m) m.val Reg.schedCycl (fun _ s => rd s Reg.schedCycl)
    (fun _ s => { s with tb := { s.tb with cycH := Sparse.set none s.tb.cycH m.val (some (rd s Reg.schedCych)) } }) ∧
  -- R486: an engine takes its received word.
  ReadOf (.dbgvRxRead m) m.val Reg.dbgvRx
    (fun _ s => if m.val < 32 ∧ (eng s m.val).term.rxValid then (eng s m.val).term.rx else 0)
    (fun _ s => if m.val < 32 then onEng s m.val fun x => { x with term := { x.term with rxValid := false } } else s)

/-- R351 to R353, R399, R414, R464, R486, R225, R226: writes of registers that journal nothing, but those of the check-value units
and of range maintenance. -/
def Obligations.PlainCommandWrites : Prop := ∀ (m : Mst) (v : Word),
  WriteOf (.doorbell m v) m.val Reg.icuDbell (fun _ _ => true) (fun _ s => s) (fun q s =>
    if v.toNat ≥ 256 then bump s Reg.icuBaddb 15 0 1
    else if !q.vital && bit (rd s (Reg.icuSrc + v.toNat)) 15 then bump s Reg.icuBaddb 31 16 1
    else icuSettle s (sb s (Reg.icuPend + v.toNat / 32) (v.toNat % 32) true)) ∧
  WriteOf (.schedDone m) m.val Reg.schedDone (fun _ _ => true) (fun _ s => s) (fun q s => schedDoneBy s q.master) ∧
  WriteOf (.fltAckWrite m v) m.val Reg.fltAck
    (fun q s => decide (q.master = 32) && decide ((v - rd s Reg.fltTail).toNat < (rd s Reg.fltHead - rd s Reg.fltTail).toNat))
    (fun _ s => sb s Reg.fltStat 1 true)
    (fun _ s =>
      let kept := s.flt.drop ((v - rd s Reg.fltTail).toNat + 1)
      wf (wr { s with flt := kept } Reg.fltTail (v + 1)) Reg.fltStat 14 8 kept.length) ∧
  WriteOf (.jrnAckWrite m v) m.val Reg.jrnAck
    (fun q s => decide (q.master = 32) && decide ((v - rd s Reg.jrnTail).toNat < (rd s Reg.jrnHead - rd s Reg.jrnTail).toNat))
    (fun _ s => sb s Reg.jrnStat 2 true) (fun _ s => wr s Reg.jrnTail (v + 1)) ∧
  (∀ k, WriteOf (.checkIn m k v) m.val (Reg.wdiChk + k.val) (fun _ _ => true) (fun _ s => s) (fun q s =>
    if !wdOwner s q.master k.val || decide (fld v 7 0 ≠ rf s (Reg.wdiCfg + k.val) 15 8) then bump s Reg.wdiCnt 23 16 1
    else if rb s Reg.wdiStat 1 then bump s Reg.wdiCnt 31 24 1
    else if !rb s Reg.wdiStat 0 then bump s Reg.wdiCnt 7 0 1
    else if rb s Reg.wdiStat (16 + k.val) then bump s Reg.wdiCnt 15 8 1
    else
      let s := wf (sb s Reg.wdiStat (16 + k.val) true) (Reg.wdiCfg + k.val) 15 8 (fld v 7 0 + 1)
      wr (wr s (Reg.wdiLastl + k.val) (lo32 s.tb.now)) (Reg.wdiLasth + k.val) (hi32 s.tb.now))) ∧
  WriteOf (.dbgvTxWrite m v) m.val Reg.dbgvTx (fun q _ => decide (q.master < 32)) (fun _ s => s) (fun q s =>
    onEng s q.master fun x =>
      { x with term := if x.term.txFull then { x.term with txOvf := true } else { x.term with tx := v, txFull := true } }) ∧
  (let ok (q : Req) (s : State) : Bool := decide (q.master = 32) && decide (s.dev = .boot) && !rb s Reg.idUpctl 0
   (bit v 0 = true → bit v 1 = false → WriteOf (.patchLock m v) m.val Reg.idUpctl ok (fun _ s => s)
     (fun _ s => plain s Reg.idUpctl v)) ∧
   (bit v 1 = true → WriteOf (.patchClear m v) m.val Reg.idUpctl ok (fun _ s => s)
     (fun _ s => plain (patchClear s) Reg.idUpctl v)) ∧
   WriteOf (.patchDataWrite m v) m.val Reg.idUpdata ok (fun _ s => s) (fun _ s =>
     let k := rf s Reg.idUpaddr 9 0
     let s := { s with upatch := Sparse.set 0 s.upatch k v }
     wf (if k % 4 = 3 then patchGood s (k / 4) else s) Reg.idUpaddr 9 0 (k + 1)) ∧
   (∀ s n k, (patchClear s).upatch = [] ∧ (n < 16 → rb (patchClear s) (Reg.idUmatch + n) 31 = false) ∧
     (bit v 0 = true → rb (plain s Reg.idUpctl v) Reg.idUpctl 0 = true) ∧
     ((k < Reg.idUmatch ∨ Reg.idUmatch + 16 ≤ k) → rd (patchClear s) k = rd s k)))

/-- R372 to R376, R380, R336, R337: writes that start work of the check-value units and of range maintenance. Entries for a unit that
runs a job wait in its queue of four, and a write whose entries find no room is held: nothing changes.
A programmable set between its write and the next INIT is a reading (log 22). -/
def Obligations.UnitCommandWrites : Prop := ∀ m : Mst,
  (∀ u : Grv,
    let g := gReg Reg.cvuGcmd u.val
    let all (_ : Req) (_ : State) : Bool := true
    let same (_ : Req) (s : State) : State := s
    let push (cs : List CvuCmd) (_ : Req) (s : State) : State := (cvuPush s u.val cs).getD s
    WriteOf (.cvuInit m u) m.val g all same (push [.init]) ∧
    WriteOf (.cvuGo m u) m.val g all same (push [.go]) ∧
    WriteOf (.cvuFin m u) m.val g all same (push [.fin]) ∧
    WriteOf (.cvuStop m u) m.val g all same (fun _ s =>
      if gBusy s u.val then
        sb (putCvu s u.val { cvuU s u.val with queue := [], going := false }) (gReg Reg.cvuGstat u.val) 6 true
      else s) ∧
    (∀ v, WriteOf (.cvuFeedb m u v) m.val (gReg Reg.cvuGfeedb u.val) all same (push [.feed 1 v]) ∧
      WriteOf (.cvuFeedh m u v) m.val (gReg Reg.cvuGfeedh u.val) all same (push [.feed 2 v]) ∧
      WriteOf (.cvuFeedw m u v) m.val (gReg Reg.cvuGfeedw u.val) all same (push [.feed 4 v])) ∧
    (∀ s cs, (cvuU s u.val).going = true →
      cvuPush s u.val cs = (if (cvuU s u.val).queue.length + cs.length ≤ 4 then
        some (putCvu s u.val { cvuU s u.val with queue := (cvuU s u.val).queue ++ cs }) else none)) ∧
    (∀ s n v, (cvuU s u.val).going = false →
      cvuPush s u.val [.feed n v] = some (putGRun s u.val (crcFeed (gParam s u.val) (gRun s u.val) ((wordBytes v).take n))))) ∧
  (∀ c : Grv, WriteOf (.cvuVgo m c) m.val (vReg Reg.cvuVcmd c.val) (fun q _ => q.vital && q.sup) (fun _ s => s)
    (fun q s => match vgoRefused s q c.val (inVitalGlade s q.master) with
      | some k => wf (sb s (vReg Reg.cvuVstat c.val) 3 true) (vReg Reg.cvuVstat c.val) 15 13 k
      | none => wf (putVJob s c.val (some (.soft q.master))) (vReg Reg.cvuVstat c.val) 7 5 5)) ∧
  (∀ c v, (c = .invalidate m v ∧ fld v 2 0 = 1 ∨ c = .clean m v ∧ fld v 2 0 = 2 ∨ c = .cleanAndInvalidate m v ∧ fld v 2 0 = 3 ∨
      c = .preloadAndLock m v ∧ fld v 2 0 = 4 ∨ c = .unlock m v ∧ fld v 2 0 = 5 ∨ c = .pondLoad m v ∧ fld v 2 0 = 6) →
    WriteOf c m.val Reg.cmxCmd (fun q s => (cmxRefused s q v).isNone)
      (fun q s => wf (sb s Reg.cmxStat 2 true) Reg.cmxStat 11 8 ((cmxRefused s q v).getD 0))
      (fun q s => cmxStart s q v)) ∧
  (∀ s q v, rb s Reg.cmxStat 0 = true → cmxRefused s q v = some 1) ∧
  (∀ s q v, (cmxStart s q v).cmx.isSome = true)

/-- R42, R49, R58, R243, R82, R96, R310, R255, R261, R344, R327, R466, R420: writes of journaled registers.
When a write in progress completes, and ARM in its entry, are the model's (logs 23, 24). -/
def Obligations.JournaledCommandWrites : Prop := ∀ (m : Mst) (v : Word),
  let wsp (q : Req) : Bool := decide (q.master = 32)
  let tbOk (_ : Req) (s : State) : Bool := (decide (s.dev = .config) || decide (s.dev = .maintenance)) && !rb s Reg.schedCtl 0
  let all (_ : Req) (_ : State) : Bool := true
  let same (_ : Req) (s : State) : State := s
  JournaledWriteOf (.tbSetlWrite m v) m.val Reg.tbSetl v tbOk (fun _ s => sb s Reg.tbStat 2 true)
    (fun _ s => { s with tb := { s.tb with setL := v } }) ∧
  JournaledWriteOf (.tbSethWrite m v) m.val Reg.tbSeth v tbOk (fun _ s => sb s Reg.tbStat 2 true)
    (fun _ s => { s with tb := { s.tb with now := dbl s.tb.setL v, err := 0 } }) ∧
  (∀ r n, JournaledWriteOf (.imgSegmentWrite m r n v) m.val (segReg r + n.val) v
    (fun _ s => (segError (wr s (segReg r + n.val) (rwMerge s (segReg r + n.val) v)) n.val).isNone)
    (fun _ s => wf (wf (sb s Reg.imgStat 0 true) Reg.imgStat 7 4
      ((segError (wr s (segReg r + n.val) (rwMerge s (segReg r + n.val) v)) n.val).getD 0)) Reg.imgStat 22 18 n.val)
    (fun _ s => plain s (segReg r + n.val) v)) ∧
  JournaledWriteOf (.routeTableWrite m v) m.val Reg.imgRtbl v all same
    (fun _ s => { s with valRoutes := some (rwMerge s Reg.imgRtbl v) }) ∧
  JournaledWriteOf (.itemTableWrite m v) m.val Reg.shrItcnt v all same (fun _ s => itemTable s (rwMerge s Reg.shrItcnt v)) ∧
  JournaledWriteOf (.grvErdatWrite m v) m.val Reg.grvErdat v
    (fun q s => wsp q && decide (0x10 ≤ rf s Reg.grvErsel 7 0 ∧ rf s Reg.grvErsel 7 0 ≤ 0x1B) && grvIdle s (rf s Reg.grvErsel 11 8))
    (fun _ s => sb s Reg.grvStat 0 true)
    (fun _ s => (erSel s).foldl
      (fun st e => onEng st e fun x => ersPut x (rf s Reg.grvErsel 7 0) (v &&& ersMask (rf s Reg.grvErsel 7 0)))
      (askPower s (rf s Reg.grvErsel 11 8))) ∧
  JournaledWriteOf (.grvFenceWrite m v) m.val Reg.grvFence v (fun q _ => wsp q) same
    (fun _ s => fenceByWsp s (v &&& ~~~ rd s Reg.grvFence)) ∧
  JournaledWriteOf (.grvUnfenceWrite m v) m.val Reg.grvUnfence v
    (fun q s => wsp q && (List.range 16).all fun g => !(bit v g && groveInForce s g))
    (fun q s => if wsp q then sb s Reg.grvStat 0 true else s) (fun _ s => unfence s v) ∧
  (∀ t : Tarn, JournaledWriteOf (.tarnOwnWrite m t v) m.val (Reg.tarnOwn + t.val) v
    (fun q s => ownerValid (fld v 7 0) && decide (t.val < 60) && !sideTarn s t.val && (wsp q || decide (fld v 7 0 < 0x40)))
    (fun _ s => sb s Reg.tarnStat 0 true)
    (fun _ s =>
      let s := { s with ownPend := Sparse.set none s.ownPend t.val (some (BitVec.ofNat 32 (fld v 7 0))) }
      if fld v 7 0 = 0 ∨ tarnUp s t.val then s else askWake s t.val)) ∧
  (∀ (g : Grv) c, (c = .pondConversion m g v ∧ bit v 4 = false ∨ c = .pondZero m g v ∧ bit v 4 = true) →
    JournaledWriteOf c m.val (Reg.cmxPond + g.val) v
      (fun q s => wsp q && grvIdle s g.val && !(grv s g.val).pondBusy && decide (fld v 1 0 ≠ 3) && decide (fld v 3 2 ≠ 3))
      (fun _ s => sb s Reg.cmxStat 3 true) (fun _ s => pondWrite s g.val v)) ∧
  JournaledWriteOf (.periodChange m v) m.val Reg.wdiSet v
    (fun q s => wsp q && rb s Reg.wdiStat 0 && decide (fld v 7 0 ≠ 0))
    (fun q s => sb s Reg.wdiStat (if wsp q then 3 else 4) true)
    (fun _ s => { s with wdSet := v.extractLsb' 0 8 }) ∧
  JournaledWriteOf (.pwrLossmkWrite m v) m.val Reg.pwrLossmk v (fun q s => wsp q && rb s Reg.pwrVstat 4) same
    (fun _ s => { s with pwr := { s.pwr with marked := true } }) ∧
  -- SCHED_CTL: the command is told by EN as the master finds it; the effect by EN as it stands then.
  (∀ c on, (c = .schedEnable m v ∧ (on = fun s => bit v 0 && !rb s Reg.schedCtl 0) ∨
      c = .schedDisable m v ∧ (on = fun s => !bit v 0 && rb s Reg.schedCtl 0) ∨ c = .swapRequest m v ∧ (on = fun _ => bit v 3)) →
    JournaledWriteWhen on c m.val Reg.schedCtl v
      (fun _ s => !(rb s Reg.schedCtl 0 && !bit v 0 &&
        !(decide (s.dev = .config) || decide (s.dev = .safeHold) || decide (s.dev = .maintenance))))
      (fun _ s => sb s Reg.schedStat 1 true) (fun _ s => ctlEffect s v)) ∧
  (∀ c, (c = .editArm m v ∧ bit v 5 = true ∨ c = .editDisarm m v ∧ bit v 5 = false) →
    JournaledWriteOf c m.val Reg.schedEdctl v
      (fun q s => wsp q && (if edHeld s then !bit v 5 || edSame s v else !bit v 5 || armOk s v))
      (fun q s => if wsp q then sb s Reg.schedStat 1 true else s) (fun _ s => edctlEffect s v))

/-- R49, R60, R520, R58, R243: what an effective write of SCHED_CTL or SCHED_EDCTL does. A bank that passes its checks is put in force;
one that fails leaves EN as it was. A request for a swap sets SWAPPEND only if the other bank passes. An arming reads the pending
header first, and ARM reads 1 only if the read succeeds.
The header is read as the Wellspring reads (log 16). -/
def Obligations.SchedulerControl : Prop := ∀ (s : State) (v : Word),
  let w := wr s Reg.schedCtl (putBit (putFld (rd s Reg.schedCtl) 16 8 (fld v 16 8)) 1 (bit v 1))
  (rb s Reg.schedCtl 0 = false → bit v 0 = true → bit v 3 = false →
    let r := validate w (bit v 1) false
    (r.2 = true → rb (ctlEffect s v) Reg.schedCtl 0 = true ∧ rb (ctlEffect s v) Reg.schedCtl 2 = bit v 1 ∧
      (ctlEffect s v).cutSince = false ∧ (ctlEffect s v).bnd.phase = .idle ∧
      (∀ n, n < 32 → appEn w (bit v 1) n = true → app (ctlEffect s v) n = State.appReset)) ∧
    (r.2 = false → ctlEffect s v = r.1 ∧ rb (ctlEffect s v) Reg.schedCtl 0 = false)) ∧
  (rb s Reg.schedCtl 0 = true → bit v 0 = false → bit v 3 = false →
    rb (ctlEffect s v) Reg.schedCtl 0 = false ∧ rb (ctlEffect s v) Reg.schedCtl 4 = false ∧ (ctlEffect s v).bnd.phase = .idle ∧
    (∀ n, n < 32 → (app (ctlEffect s v) n).active = false) ∧
    (∀ g, g < 16 → (grv s g).glade.isSome = true → (grv (ctlEffect s v) g).trip = some .force)) ∧
  (rb s Reg.schedCtl 0 = true → bit v 0 = true → bit v 3 = true →
    let r := validate w (!rb s Reg.schedCtl 2) true
    ctlEffect s v = if r.2 then sb r.1 Reg.schedCtl 4 true else sb r.1 Reg.schedStat 3 true) ∧
  (edHeld s = false → bit v 5 = true → (edctlEffect s v).edit.arming = true ∧
    edctlEffect s v = { wr s Reg.schedEdctl (v &&& 0xFFFFDF#32) with edit := { s.edit with arming := true } }) ∧
  (edHeld s = true → bit v 5 = false →
    rb (edctlEffect s v) Reg.schedEdctl 5 = false ∧ rb (edctlEffect s v) Reg.schedEdstat 1 = true ∧
    rf (edctlEffect s v) Reg.schedEdstat 6 2 = 0x0F) ∧
  (blocksRun s = true → s.edit.arming = true →
    let w := { s with edit := { s.edit with arming := false } }
    let r := readOuterN w (slotBase w (edApp s) (!activeB w (edApp s))) 64
    (∀ h, r.2 = some h → exec .editShadowLoaded s = .next { sb r.1 Reg.schedEdctl 5 true with
      edit := { r.1.edit with pend := h, fail := 0, ego := false, commit := false } }) ∧
    (r.2 = none → exec .editShadowLoaded s = .next
      (wf (wf (sb r.1 Reg.schedEdstat 1 true) Reg.schedEdstat 6 2 2) Reg.schedEdstat 31 16 (edEid r.1))))

/-- R391 to R395: the entry of a journaled write is written whole before the write takes effect, its words say who wrote what and when,
and word 7 checks the others; nothing else in memory changes. A released entry is marked by the complement of its word 7. -/
def Obligations.JournalEntries : Prop := ∀ s : State,
  (∀ j, blocksRun s = true → s.jPend = some j →
    let i : JrnInfo := ⟨j.origin, j.vital, j.sup, j.kind, j.exempt, j.addr, j.tcode, j.old, j.new⟩
    let u := writeEntry { s with jPend := none } j.seq j.time i
    exec .journaledWriteEffect s = .next ((ioEffect u ⟨j.origin, j.vital, j.sup⟩ j.addr j.value).getD u)) ∧
  (s.jPend = none → exec .journaledWriteEffect s = .next s) ∧
  (∀ (q : Word) (t : Dbl) (i : JrnInfo), i.origin < 48 → i.kind < 8 → i.addr < 0x10000 →
    let ws := entryWords q t i
    let a := tarnAddr 63 (8 * (q.toNat % 4096))
    tarnRawN (writeEntry s q t i) 63 (8 * (q.toNat % 4096)) 8 = ws ∧
    (∀ b, b < a ∨ a + 32 ≤ b → byteAt (writeEntry s q t i) b = byteAt s b) ∧
    dbl (nth ws 0) (nth ws 1) = t ∧ nth ws 2 = q ∧ fld (nth ws 3) 5 0 = i.origin ∧ bit (nth ws 3) 6 = i.vital ∧
    bit (nth ws 3) 7 = i.sup ∧ fld (nth ws 3) 10 8 = i.kind ∧ bit (nth ws 3) 11 = i.exempt ∧ fld (nth ws 3) 31 16 = i.addr ∧
    nth ws 5 = i.old ∧ nth ws 6 = i.new ∧ nth ws 7 = crc32c (ws.take 7)) ∧
  (s.jRel = rd s Reg.jrnTail → exec .journalRelease s = .next s) ∧
  (s.jRel ≠ rd s Reg.jrnTail → ∃ t, exec .journalRelease s = .next t ∧ t.jRel = s.jRel + 1 ∧
    let w := 8 * (s.jRel.toNat % 4096) + 7
    tarnRaw t 63 w = ~~~ tarnRaw s 63 w ∧
    ∀ b, b < tarnAddr 63 w ∨ tarnAddr 63 w + 4 ≤ b → byteAt t b = byteAt s b)

/-- R38, R43 to R46, R362, R364: ticks work off an error at 1 ns per tick and at most one tick in 1000; a TB_PPS edge, timed 30 ns back,
measures the distance to the nearest whole second and steps TB_NOW only as the first edge in a quiet Config or Maintenance; a missed
edge clears LOCK. The end of a hold-off lets its group's sources be served again. -/
def Obligations.TimebaseAndHoldOff : Prop := ∀ s : State,
  (s.dev ≠ .off → s.tb.err = 0 ∨ s.tb.sinceAdj < 999 →
    exec .timebaseTick s = .next { s with tb := { s.tb with now := s.tb.now + 10, sinceAdj := s.tb.sinceAdj + 1 } }) ∧
  (s.dev ≠ .off → s.tb.err > 0 → s.tb.sinceAdj ≥ 999 → exec .timebaseTick s = .next
    { s with tb := { s.tb with now := s.tb.now + 11, err := s.tb.err - 1, sinceAdj := 0 } }) ∧
  (s.dev ≠ .off → s.tb.err < 0 → s.tb.sinceAdj ≥ 999 → exec .timebaseTick s = .next
    { s with tb := { s.tb with now := s.tb.now + 9, err := s.tb.err + 1, sinceAdj := 0 } }) ∧
  (∀ (e k : Int), rf s Reg.tbCtl 1 0 = 2 → s.dev ≠ .reset → s.dev ≠ .off →
    (s.tb.now.toNat : Int) - 30 + e = 1000000000 * k → -500000000 ≤ e → e < 500000000 →
    ∃ t, exec .tbPpsEdge s = .next t ∧ (rd t Reg.tbOffs).toInt = e ∧ t.tb.ppsLast = some s.tb.now ∧
      rb t Reg.tbStat 0 = (decide (-20 ≤ e ∧ e ≤ 20) && !rb s Reg.tbStat 1) ∧
      (if s.tb.ppsSeen = false ∧ (s.dev = .config ∨ s.dev = .maintenance) ∧ rb s Reg.schedCtl 0 = false then
        t.tb.err = 0 ∧ t.tb.now = BitVec.ofInt 64 ((s.tb.now.toNat : Int) + e)
      else t.tb.err = e ∧ t.tb.now = s.tb.now ∧ t.mem = s.mem)) ∧
  (∀ l, rf s Reg.tbCtl 1 0 = 2 → s.tb.ppsLast = some l → s.tb.now.toNat > l.toNat + 1000500000 →
    ∃ t, exec .ppsMiss s = .next t ∧ rb t Reg.tbStat 1 = true ∧ rb t Reg.tbStat 0 = false ∧ t.tb.now = s.tb.now ∧
      (s.flt.length < 64 → ∃ r, t.flt = s.flt ++ [r] ∧ fld (nth r 0) 7 0 = 0x14)) ∧
  (∀ j : Fin 32, blocksRun s = true → s.holdRun.getLsbD j.val = true →
    exec (.holdOffEnd j) s = .next (icuSettle s
      { sb s (Reg.icuHold + j.val) 31 false with holdRun := s.holdRun &&& ~~~ (1#32 <<< j.val) }))

/-- R65 to R67, R70, R71, R74 to R78, R124: a Glade starts on every Grove that its entry names, with the entry's budgets and the stage's
entry vector; counts past a budget and the window's end trip it; a tripped Grove stops and its Application overruns; a Grove whose
engines write SCHED_DONE in time has done its part.
Latched execute regions and a trip during WAIT are the model's readings (logs 42, 43). -/
def Obligations.GladeRuns : Prop := ∀ s : State,
  (∀ (k : Fin 64) (b : Bool), bankNow s = some b →
    let e := gEnt s b k.val
    let x := app s e.app
    let gs := (groveList e.groves).map (effGrove s)
    e.valid = true → gladesRun s = true → s.bnd.phase = .idle → s.cutSince = true → x.active = true → x.nextStage = e.stage →
    x.doneAt = none → cycNow s % appPer s b e.app = e.phase → winStart s e ≤ s.tb.now.toNat →
    ((appVital s b e.app = false → auxSuspended s = false) → noSpareFor s e.app = false →
      (∀ g ∈ gs, (grv s g).glade = none ∧ gated s g = false) →
      ∃ t, exec (.gladeStart k) s = .next t ∧ ∀ g ∈ gs,
        (∃ r, (grv t g).glade = some r ∧ r.app = e.app ∧ r.stage = e.stage ∧ r.winEnd = winStart s e + e.len * 10 ∧
          (appVital s b e.app = true → r.cycBud = e.cyc ∧ r.beatBud = e.beat)) ∧
        (grv t g).counting = true ∧ (grv t g).done = false ∧
        (eng t (2 * g)).run = .running ∧ (eng t (2 * g + 1)).run = .running ∧
        (eng t (2 * g)).pc = hdrEntry (shadowOf s e.app) e.stage 0 0 ∧ (eng t (2 * g)).cells = [] ∧
        bit (eng t (2 * g)).stat stW = appVital s b e.app ∧ bit (eng t (2 * g)).stat stIE = true) ∧
    (appVital s b e.app = false → auxSuspended s = true →
      ∃ t, exec (.gladeStart k) s = .next t ∧ (app t e.app).active = false ∧ (app t e.app).ended = .discarded)) ∧
  (∀ (g : Grv) r, (grv s g.val).glade = some r → (grv s g.val).trip = none →
    (weirCyc s g.val > r.cycBud → exec (.weirTrip g) s = .next (putGrv s g.val { grv s g.val with trip := some .cycles })) ∧
    (weirCyc s g.val ≤ r.cycBud → weirBeats s g.val > r.beatBud →
      exec (.weirTrip g) s = .next (putGrv s g.val { grv s g.val with trip := some .beats })) ∧
    (weirCyc s g.val ≤ r.cycBud → weirBeats s g.val ≤ r.beatBud → s.tb.now.toNat ≥ r.winEnd →
      exec (.windowEnd g) s = .next (putGrv s g.val { grv s g.val with trip := some .window }))) ∧
  (∀ (g : Grv) r c, (grv s g.val).glade = some r → (grv s g.val).trip = some c → (grv s g.val).halted = false → r.app < 32 →
    weirCyc s g.val ≤ r.cycBud → weirBeats s g.val ≤ r.beatBud →
    ∃ t, exec (.groveStop g) s = .next t ∧ (grv t g.val).glade = none ∧ (eng t (2 * g.val)).run = .idle ∧
      (eng t (2 * g.val + 1)).run = .idle ∧
      (c ≠ .force → (app s r.app).active = true →
        (app t r.app).active = false ∧ (app t r.app).ended = .overrun ∧ rb t Reg.schedOvr r.app = true ∧
        rf t (Reg.schedOvrcnt + r.app) 15 0 = min 0xFFFF (rf s (Reg.schedOvrcnt + r.app) 15 0 + 1) ∧
        rf t (Reg.schedOvrcnt + r.app) 19 16 = min 15 (rf s (Reg.schedOvrcnt + r.app) 19 16 + 1) ∧
        rf t (Reg.schedOvrcnt + r.app) 21 20 = c.code)) ∧
  (∀ e r, e < 32 → (grv s (e / 2)).glade = some r → tripped s (e / 2) = false → s.tb.now.toNat < r.winEnd →
    let t := schedDoneBy s e
    (isLockstep s (e / 2) = true → e % 2 = 0 → (grv t (e / 2)).glade = none ∧ (eng t e).run = .idle) ∧
    (isLockstep s (e / 2) = false → e % 2 = 0 → (grv s (e / 2)).doneC = false →
      t = idleEngine (putGrv s (e / 2) { grv s (e / 2) with doneL := true }) e) ∧
    (isLockstep s (e / 2) = false → e % 2 = 1 → (grv s (e / 2)).doneL = false →
      t = idleEngine (putGrv s (e / 2) { grv s (e / 2) with doneC := true }) e)) ∧
  (∀ e, 32 ≤ e → schedDoneBy s e = s)

/-- R406, R258, R259, R272, R91, R93, R270, R376, R380: what follows a Glade's work. A commit moves the retain header on and ends the
cycle as committed; a Diverse Application's commit waits for the comparison of its two halves; the outlet check takes a free channel
and leaves its value; the copy of a join goes out in the quiet interval; feeders and software jobs form their values over what they read.
How a failed software job ends, and the copy's payload, are the model's (logs 17, 20). -/
def Obligations.OutletsAndJobs : Prop := ∀ s : State,
  (∀ a : App, blocksRun s = true → s.pwr.lossAt = none → (app s a.val).active = true → (app s a.val).doneAt.isSome = true →
    (appDiverse s a.val = true → (app s a.val).compared = true) →
    ∃ t, exec (.outletCommit a) s = .next t ∧ (app t a.val).active = false ∧ (app t a.val).ended = .committed ∧
      (app t a.val).discards = 0 ∧ rf t (Reg.schedOvrcnt + a.val) 19 16 = 0 ∧ rb t (Reg.schedOvrcnt + a.val) 22 = false ∧
      (rf s (Reg.imgRet + a.val) 31 16 ≠ 0 →
        let w := rf s (Reg.imgRet + a.val) 14 0
        fld (tarnRaw t 62 w) 0 0 = 1 - fld (tarnRaw s 62 w) 0 0 ∧
        fld (tarnRaw t 62 w) 31 16 = (fld (tarnRaw s 62 w) 31 16 + 1) % 65536)) ∧
  (∀ a : App, (appDiverse s a.val = true ∧ (app s a.val).compared = false) → exec (.outletCommit a) s = .next s) ∧
  (∀ (a : App) (b : Bool) ge, bankNow s = some b → stageEntry s a.val (appNstg s b a.val) = some ge →
    let c := (groveList ge.groves).headD 0
    blocksRun s = true → (app s a.val).active = true → (app s a.val).doneAt.isSome = true → appDiverse s a.val = true →
    (app s a.val).compared = false → vJob s c = none → s.tb.now.toNat < winEnd s ge →
    ∀ u l k, diverseValues s c a.val = (u, some (l, k)) →
      (l = k → exec (.diverseComparison a) s = .next (putApp u a.val { app u a.val with compared := true })) ∧
      (l ≠ k → ∃ t, exec (.diverseComparison a) s = .next t ∧ t.fenceReq = u.fenceReq ||| (3#32 <<< (2 * effGrove s c)))) ∧
  (∀ (a : App) (b : Bool), bankNow s = some b → blocksRun s = true → appVital s b a.val = true → (app s a.val).ended = .committed →
    (app s a.val).cvOutReady = false → outLen s a.val ≠ 0 →
    let c := appCvch s b a.val
    (vJob s c = none → exec (.outletCheck a) s = .next (noteJob (putVJob s c (some (.outlet a.val))) c 3 a.val)) ∧
    (∀ u v, vJob s c = some (.outlet a.val) →
      hwJob (putVJob s c none) c 3 a.val (lo32 (app s a.val).cycleN) (heldSide s Reg.imgOutt Reg.imgOside a.val)
        (rf s (Reg.imgOutl + a.val) 14 0) (sentLen s a.val) = (u, some v) →
      ∃ t, exec (.outletCheckDone a) s = .next t ∧ (app t a.val).cvOut = v ∧ (app t a.val).cvOutReady = true ∧
        rd t (vReg Reg.cvuVoutl c) = lo32 v ∧ rd t (vReg Reg.cvuVouth c) = hi32 v)) ∧
  (∀ a : App, blocksRun s = true → s.wspStopped = false → s.dev = .run → s.twin.joining = true → s.twin.jOut = none →
    joinNext s = some a.val → (app s a.val).ended = .committed → (app s a.val).active = false → s.bnd.phase = .idle →
    ∃ t, exec (.joinCopySend a) s = .next t ∧ t.twin.jOut = some a.val ∧ t.apps = s.apps ∧ t.mem = s.mem) ∧
  (∀ (u : Grv) t bs, (cvuU s u.val).going = true → s.dev ≠ .halted → masterHalted s (cvuU s u.val).wm = false →
    let a := (rd s (gReg Reg.cvuGaddr u.val)).toNat
    let len := (rd s (gReg Reg.cvuGlen u.val)).toNat
    let n := min len (64 - a % 64)
    (cvuU s u.val).queue = [] → feedRead s (gReq s u.val) a n = (t, some bs) →
    ∃ w, exec (.feederChunk u) s = .next w ∧ rd w (gReg Reg.cvuGaddr u.val) = BitVec.ofNat 32 (a + n) ∧
      (rd w (gReg Reg.cvuGlen u.val)).toNat = len - n ∧ (cvuU w u.val).going = decide (len ≠ n)) ∧
  (∀ (c : Grv) m t bs, vJob s c.val = some (.soft m) → masterHalted s m = false →
    vReadAll s (rd s (vReg Reg.cvuVaddr c.val)).toNat 66 (rf s (vReg Reg.cvuVlen c.val) 12 0) = (t, some bs) →
    ∃ w, exec (.softwareJobDone c) s = .next w ∧ vJob w c.val = none ∧ rb w (vReg Reg.cvuVstat c.val) 1 = true ∧
      rd w (vReg Reg.cvuVresl c.val) = lo32 (vCheck t c.val (rd t (vReg Reg.cvuVfold c.val)) bs).2)

/-- R23, R48, R62 to R64, R83, R86, R272 to R278, R408, R410: at the start of a cycle SCHED shows its number and starts the cycles of the
due Applications; the waits of a boundary for the twin end after SCHED_AGRTO with the primary alone or the standby in MISS; a
requested entry into Safe Hold discards every cycle. -/
def Obligations.Boundaries : Prop := ∀ s : State,
  (∀ n, cycAt s = some n → schedOn s = true → (gladesRun s = true ∨ s.dev = .safeHold) → s.bnd.phase = .idle → s.bnd.next.toNat ≤ n →
    ∃ t, exec .majorCycleBoundary s = .next t ∧ cycNow t = n ∧ t.cutSince = true ∧ t.bnd.next = BitVec.ofNat 64 (n + 1) ∧
      t.bnd.cyc = BitVec.ofNat 64 n ∧ t.tb = s.tb ∧
      (s.dev = .config → bound s = false → swapPend s = false → edArmed s = false → s.twin.joining = false →
        ∀ b, bankNow s = some b → ∀ a, a < 32 → appEn s b a = true → n % appPer s b a = 0 →
          (app t a).cycleN = BitVec.ofNat 64 n ∧ (app t a).nextStage = 0 ∧ (app t a).started = true ∧ (app t a).doneAt = none ∧
          ((app t a).active = true ∧ (app t a).ended = .none ∨ (app t a).active = false ∧ (app t a).ended = .discarded))) ∧
  (s.bnd.phase = .agree → s.bnd.since.toNat + 10 * rf s Reg.schedAgrto 15 0 ≤ s.tb.now.toNat →
    ∃ t, exec .agreementTimeout s = .next t ∧ t.bnd.phase = .idle ∧ rb t Reg.schedStat 19 = true ∧ t.twin.live = false) ∧
  (s.bnd.phase = .records → s.bnd.since.toNat + 10 * rf s Reg.schedAgrto 15 0 ≤ s.tb.now.toNat → (isPri s = true ∨ s.dev = .tracking) →
    ∃ t, exec .recordWaitTimeout s = .next t ∧ t.bnd.phase = .idle ∧ cycNow t = cycNow s ∧
      (isPri s = true → t.twin.live = false) ∧
      (s.dev = .tracking → t.twin.missAt.isSome = true ∧ rb t Reg.grvTwstat 1 = true ∧ rb t Reg.grvTwstat 0 = false)) ∧
  (s.bnd.phase = .handoff → s.dev = .tracking → s.bnd.since.toNat + 10 * rf s Reg.schedAgrto 15 0 ≤ s.tb.now.toNat →
    ∃ t, exec .handoffTimeout s = .next t ∧ t.bnd.phase = .idle ∧ t.dev = .tracking ∧ t.twin.armed = none ∧ t.twin.missAt.isSome = true) ∧
  (∀ m, s.dev = .tracking → s.twin.missAt = some m → s.twin.lostAt = none → s.safeReq = none →
    (m.toNat + 40000 ≤ s.tb.now.toNat → exec .missTimeout s = .next { s with safeReq := some 6 }) ∧
    (s.tb.now.toNat < m.toNat + 40000 → exec .missTimeout s = .next s)) ∧
  (∀ c, s.safeReq = some c → c < 16 → c ≠ 9 → (s.dev = .config ∨ s.dev = .run ∨ s.dev = .tracking ∨ s.dev = .maintenance) →
    ∃ t, exec .safeHoldEntry s = .next t ∧ t.dev = .safeHold ∧ t.cause = BitVec.ofNat 8 c ∧ t.bnd.phase = .idle ∧ t.safeReq = none ∧
      ∀ a, a < 32 → (app t a).active = false)

/-- R94 to R98, R100, R101, R102 to R116, R342, R518, R519: route tables, routes, and the field-attach ports. A table that passes
its checks waits for a boundary; a route moves its words from its source to the side that the fabric fills, and stores to no other
place; a deposit joins its port's FIFO or is counted as dropped with its flag; the attach engine stores a frame with NEWD set, its OVW,
sequence number and length; a clear by software takes effect only with the sequence number it saw; a read burst takes one record.
How tables and filter words are read is the model's reading (logs 18, 19). -/
def Obligations.RoutesAndPorts : Prop := ∀ s : State,
  (∀ w, s.valRoutes = some w →
    let u := { s with valRoutes := none }
    let off := fld w 14 0
    let count := fld w 25 15
    ((count > 1024 ∨ off + 4 * count > 0x8000) →
      exec .routeTableDecision s = .next (wf (sb u Reg.imgStat 1 true) Reg.imgStat 7 4 8)) ∧
    (∀ t ws, count ≤ 1024 → off + 4 * count ≤ 0x8000 → readWords u 61 off 34 (4 * count) = (t, some ws) →
      (routesError t (toRoutes ws) = none →
        exec .routeTableDecision s = .next { wr t Reg.imgRtbl w with waitRoutes := some (w, toRoutes ws) }) ∧
      (∀ c i, routesError t (toRoutes ws) = some (c, i) →
        exec .routeTableDecision s = .next (wf (wf (sb t Reg.imgStat 1 true) Reg.imgStat 7 4 c) Reg.imgStat 17 8 i)))) ∧
  (∀ (i : Fin 1024) r, s.routes[i.val]? = some r → r.out = false → blocksRun s = true → inletAsleep s r = none →
    (app s r.app).filling = true → (app s r.app).unswept.head? = some i.val →
    exec (.inletRoute i) s = .next (inletMove { putApp s r.app { app s r.app with unswept := (app s r.app).unswept.drop 1 } with
      inQ := s.inQ.filter (· ≠ i.val) } r)) ∧
  (∀ r t w u ws, inletSource s r = some (t, w) → routeCheck s t w needR = none →
    routeCheck s (inletDest s r).1 (inletDest s r).2 needW = none → readWords s t w 34 (r.len / 4) = (u, some ws) →
    inletMove s r = fabricWrite u (inletDest s r).1 (inletDest s r).2 ws) ∧
  (∀ t w ws, (∀ k, k < ws.length → bufIndex s t (w + k) = none) →
    let u := fabricWrite s t w ws
    (∀ k, k < ws.length → tarnRaw u t (w + k) = nth ws k) ∧
    ∀ b, b < tarnAddr t w ∨ tarnAddr t (w + ws.length) ≤ b → byteAt u b = byteAt s b) ∧
  (∀ (i : Fin 1024) r safe t ws, s.outQ.head? = some (i.val, r, safe) → blocksRun s = true →
    let src := outletSource s r safe
    let u := { s with outQ := s.outQ.filter fun p => decide (p.1 ≠ i.val ∨ p.2.1.app ≠ r.app) }
    tarnUp s src.1 = true → routeCheck u src.1 src.2 needR = none → readWords u src.1 src.2 34 (r.len / 4) = (t, some ws) →
    exec (.outletRoute i) s = .next (outletSend t r ws)) ∧
  (∀ r ws, r.kind = 1 → attListen s r.port = false → (attp s r.port).tx.length < 16 →
    outletSend s r ws = putAttp s r.port { attp s r.port with tx := (attp s r.port).tx ++ [putNth ws 1 (putBit (nth ws 1) 31 true)] }) ∧
  (∀ (p : Grv) off ws, s.dev ≠ .off → s.dev ≠ .reset → s.dev ≠ .boot → s.dev ≠ .halted → off % 16 = 0 →
    off + 16 * beatsOf ws ≤ 0x1000 →
    (depositFails s p.val off ws = none → exec (.attachDeposit p off ws) s =
      .next { putAttp s p.val { attp s p.val with fifo := (attp s p.val).fifo ++ [depositRecord ws] } with outResp := 0, outData := [] }) ∧
    (depositFails s p.val off ws = some none → exec (.attachDeposit p off ws) s =
      .next { bump s (Reg.attDrop + p.val) 15 0 1 with outResp := 2, outData := [] }) ∧
    (∀ k, depositFails s p.val off ws = some (some k) → exec (.attachDeposit p off ws) s =
      .next { sb (bump s (Reg.attDrop + p.val) 15 0 1) (Reg.attStat + p.val) k true with outResp := 2, outData := [] }) ∧
    (rb s (Reg.attPcfg + p.val) 0 = true → beatsOf ws ≤ 5 → off = 0 →
      beatsOf ws = (8 + recLen (nth ws 0) (nth ws 1) + 15) / 16 → (bit (nth ws 0) 29 = false → fld (nth ws 0) 28 11 = 0) →
      (bit (nth ws 0) 30 = true → bit (nth ws 1) 5 = false) →
      depositFails s p.val off ws = if (attp s p.val).fifo.length ≥ 8 then some (some 0) else none)) ∧
  (∀ (p : Grv) r rest, attNext s = some p.val → blocksRun s = true → (attp s p.val).fifo = r :: rest →
    tarnUp s (rf s (Reg.attFlt + p.val) 5 0) = true → tarnUp s (bufTarn s p.val) = true →
    ∀ u f, filterWalk { putAttp s p.val { attp s p.val with fifo := rest } with attLast := p.val } p.val (rf s (Reg.attFlt + p.val) 5 0)
        (rf s (Reg.attFlt + p.val) 20 6) (nth r 0) (rf s (Reg.attFlt + p.val) 30 21) = (u, f) →
      (f = .noMatch → exec (.attachRecord p) s = .next (sb u (Reg.attStat + p.val) 3 true)) ∧
      (f = .reject → exec (.attachRecord p) s = .next u) ∧
      (∀ b, f = .accept b → b > rf u (Reg.attBuf + p.val) 26 21 → exec (.attachRecord p) s = .next (sb u (Reg.attStat + p.val) 4 true)) ∧
      (∀ b, f = .accept b → b ≤ rf u (Reg.attBuf + p.val) 26 21 → exec (.attachRecord p) s = .next (bufStore u p.val b r))) ∧
  (∀ p b r, r.length = 18 →
    checkMem s (reqOf s (48 + p)) (tarnAddr (bufTarn s p) (bufWord s p b)) needW spData = none →
    let t := bufTarn s p
    let w := bufWord s p b
    let u := bufStore s p b r
    let old := tarnRaw s t w
    bit (tarnRaw u t w) 0 = true ∧ bit (tarnRaw u t w) 1 = (bit old 0 || bit old 1) ∧
    fld (tarnRaw u t w) 15 8 = (fld old 15 8 + 1) % 256 ∧ fld (tarnRaw u t w) 31 16 = recLen (nth r 0) (nth r 1) ∧
    tarnRaw u t (w + 1) = nth r 0 ∧ tarnRaw u t (w + 2) = nth r 1 ∧ tarnRaw u t (w + 3) = lo32 s.tb.now ∧
    (∀ k, k < 16 → tarnRaw u t (w + 4 + k) = nth r (2 + k)) ∧
    ∀ a, a < tarnAddr t w ∨ tarnAddr t (w + 20) ≤ a → byteAt u a = byteAt s a) ∧
  (∀ (m : Mst) (p : Grv) (b : Fin 64) v, s.dev ≠ .off → s.dev ≠ .reset → rb s (Reg.attPcfg + p.val) 0 = true →
    b.val ≤ rf s (Reg.attBuf + p.val) 26 21 →
    let t := bufTarn s p.val
    let w := bufWord s p.val b.val
    bufIndex s t w = some 0 → checkMem s (reqOf s m.val) (tarnAddr t w) needW spData = none → tarnUp s t = true →
    ∃ u, exec (.bufferClear m p b v) s = .next u ∧
      (fld v 15 8 ≠ fld (tarnRaw s t w) 15 8 → tarnRaw u t w = tarnRaw s t w) ∧
      (fld v 15 8 = fld (tarnRaw s t w) 15 8 →
        tarnRaw u t w = putBit (putBit (tarnRaw s t w) 0 (bit (tarnRaw s t w) 0 && !bit v 0)) 1 (bit (tarnRaw s t w) 1 && !bit v 1)) ∧
      ∀ a, a < tarnAddr t w ∨ tarnAddr t w + 4 ≤ a → byteAt u a = byteAt s a) ∧
  (∀ (p : Grv) beats, s.dev ≠ .off → s.dev ≠ .reset →
    ((attp s p.val).tx = [] → exec (.transmitRecordRead p beats) s =
      .next { s with outResp := 0, outData := List.replicate (4 * beats) 0#32 }) ∧
    (∀ r rest, (attp s p.val).tx = r :: rest → ∃ d, exec (.transmitRecordRead p beats) s =
      .next { putAttp s p.val { attp s p.val with tx := rest } with outResp := 0, outData := d } ∧ d.length = 4 * beats ∧
      ∀ k, k < 4 * beats → nth d k = if k < 20 then nth r k else 0))

/-- R289 to R291, R296 to R299, R303, R306, R307, R317, R286: what the ring block sends and does of itself. A frame's header says what its
words mean, and its HCRC passes; a heartbeat goes out of both ports; a flood leaves by both ports that are UP; a transmitter serves
the classes in their order; lost links, missed SYNCs and removals leave their marks. -/
def Obligations.RingSending : Prop := ∀ s : State,
  (∀ typ sub dst dirB noWrap seq ts pay, typ < 0x100 → sub < (if typ = 0x10 then 0x10000 else 0x100) → dst < 64 → pay.length ≤ 256 →
    let ws := mkFrame s typ sub dst dirB noWrap seq ts pay
    fTyp ws = typ ∧ fSub ws = sub ∧ fSrc ws = nodeOf s ∧ fDst ws = dst ∧ fDirB ws = dirB ∧ fNoWrap ws = noWrap ∧ fWraps ws = 0 ∧
    fHops ws = 126 ∧ fSeq ws = seq ∧ fTs ws = ts ∧ fCyc ws = rd s Reg.schedCycl ∧ fState ws = s.dev.code ∧ fPay ws = pay ∧
    hcrcOf ws = nth ws 5 ∧ lengthBad ws = false ∧ pcrcBad ws = false) ∧
  (ringRuns s = true → ∃ t, exec .heartbeatSend s = .next t ∧ ∀ p, (shrPort t p).tx = (shrPort s p).tx ++ [txOf s (
    mkFrame s 1 0 0x3F (isB p) false (Sparse.get 0 s.shr.seqs 0x10000 + 1) 0
      [(shrPort s p).echoT, (shrPort s p).echoR, BitVec.ofNat 32 (b2n (ringAdmitted s) + 2 * b2n (rxOk s p))])]) ∧
  (∀ typ ts pay, maySend s typ = true → portUp s .a = true → portUp s .b = true → typ < 0x100 → typ ≠ 0x10 →
    ∀ p, (shrPort (flood s typ ts pay) p).tx = (shrPort s p).tx ++ [txOf s (
      mkFrame s typ 0 0x3F (isB p) false (Sparse.get 0 s.shr.seqs (typ * 65536) + 1) ts pay)]) ∧
  (ringRuns s = true → exec .topoSend s = .next (addReport (flood s 4 (lo32 s.tb.now) [topoWord (ownLinks s), 0])
    (.topo (reportAt s (lo32 s.tb.now)) (lo32 s.tb.now) (ownLinks s)))) ∧
  (ringRuns s = true → s.shr.acting = true → s.tb.now.toNat % 100000 < 11 → exec .syncSend s = .next (flood s 5 0 [0, 0])) ∧
  (ringRuns s = true → ringAdmitted s = false → exec .joinReqSend s = .next (flood s 7 (lo32 s.tb.now) [ringDigest s])) ∧
  (∀ p l, (shrPort s p).hbLast = some l → ringRuns s = true → portUp s p = true → l.toNat + 30000 ≤ s.tb.now.toNat →
    ∃ t, exec (.linkLoss p) s = .next t ∧ portUp t p = false ∧ (shrPort t p).hbCnt = 0 ∧
      (s.flt.length < 64 → ∃ r, t.flt = s.flt ++ [r] ∧ fld (nth r 0) 7 0 = 0x0B)) ∧
  (∀ l, s.shr.syncLast = some l → rf s Reg.tbCtl 1 0 = 1 →
    (l.toNat + 1000000 ≤ s.tb.now.toNat → exec .syncmiss s = .next { sb (sb s Reg.tbStat 0 false) Reg.shrStat 4 true with
      shr := { s.shr with syncLast := none }, tb := { s.tb with err := 0 } }) ∧
    (s.tb.now.toNat < l.toNat + 1000000 → exec .syncmiss s = .next s)) ∧
  (∀ (n : Fin 63) l, Sparse.get none s.shr.outside n.val = some l → ringRuns s = true → s.shr.acting = true → rosterBit s n.val = true →
    n.val ≠ nodeOf s → l.toNat + 10000000 ≤ s.tb.now.toNat →
    ∃ t, exec (.rosterRemoval n) s = .next t ∧ rosterBit t n.val = false ∧ ∀ k, k < 63 → k ≠ n.val → rosterBit t k = rosterBit s k) ∧
  (∀ p, ringRuns s = true →
    (∀ f r, nextOf (shrPort s p) 0 = some (f, r) → ∃ t, exec (.frameTransmit p) s = .next t ∧ (shrPort t p).tx = r ∧
      t.outData = stampFrame s f ∧ t.outResp = (if f.bad then 2 else 0)) ∧
    (∀ f r, nextOf (shrPort s p) 0 = none → nextOf (shrPort s p) 1 = some (f, r) → ∃ t, exec (.frameTransmit p) s = .next t ∧
      (shrPort t p).tx = r ∧ t.outData = stampFrame s f) ∧
    (∀ f r, nextOf (shrPort s p) 0 = none → nextOf (shrPort s p) 1 = none → nextOf (shrPort s p) 2 = some (f, r) →
      (shrPort s p).meter + frameBlocks f.words ≤ 130 * rf s Reg.schedMcyc 19 0 → ∃ t, exec (.frameTransmit p) s = .next t ∧
      (shrPort t p).tx = r ∧ t.outData = stampFrame s f ∧ (f.cls = 2 → (shrPort t p).meter = (shrPort s p).meter + frameBlocks (stampFrame s f))) ∧
    (∀ f r g u, nextOf (shrPort s p) 0 = none → nextOf (shrPort s p) 1 = none → nextOf (shrPort s p) 2 = some (f, r) →
      (shrPort s p).meter + frameBlocks f.words > 130 * rf s Reg.schedMcyc 19 0 → nextOf (shrPort s p) 3 = some (g, u) →
      ∃ t, exec (.frameTransmit p) s = .next t ∧ (shrPort t p).tx = u ∧ t.outData = stampFrame s g ∧ rb t Reg.shrStat 5 = true)) ∧
  (∃ t, exec .shrAliveTimeout s = .next t ∧ t.shr.alive = false ∧ t.pwr.spillOn = false) ∧
  (∃ t, exec .shrAliveResumed s = .next t ∧ t.shr.alive = true ∧
    t.pwr.spillOn = (decide (vmonLevel s ≠ 0) && (decide (s.dev = .config) || decide (s.dev = .run) || decide (s.dev = .tracking) ||
      decide (s.dev = .safeHold) || decide (s.dev = .maintenance)))) ∧
  (∀ p, s.dev ≠ .off → s.dev ≠ .reset → exec (.blockLockGained p) s = .next (sb s (match p with | .a => Reg.shrPstata | .b => Reg.shrPstatb) 0 true)) ∧
  (∀ p, ∃ t, exec (.blockLockLost p) s = .next t ∧ hasLock t p = false ∧ (shrPort t p).hbCnt = 0 ∧ portUp t p = portUp s p)

/-- R290, R292, R294, R296 to R300, R302 to R304, R306 to R308, R312: what a node does with the frames it receives. A damaged header or an
unknown type is counted and dropped; heartbeats bring a port UP; reports are applied when their time comes; SYNC measures the time;
a BEACON is checked; the acting manager admits; an item copy goes into its slot.
A frame of fewer than 6 words counts as damaged (log 25). -/
def Obligations.RingReceiving : Prop :=
  (∀ s p (f : Frame), ringRuns s = true → hasLock s p = true →
    (f.words.length < 6 ∨ hcrcOf f.words ≠ nth f.words 5 → exec (.unknownFrame p f) s = .next (cntHcrc s p)) ∧
    (6 ≤ f.words.length → hcrcOf f.words = nth f.words 5 → knownType (fTyp f.words) = false →
      exec (.unknownFrame p f) s = .next (cntDrop s p)) ∧
    (6 ≤ f.words.length → hcrcOf f.words = nth f.words 5 → fTyp f.words = 1 → lengthBad f.words = false → pcrcBad f.words = false →
      ∃ t, exec (.heartbeat p f) s = .next t ∧
        let n := if (shrPort s p).hbSrc = fSrc f.words then (shrPort s p).hbCnt + 1 else 1
        (shrPort t p).hbSrc = fSrc f.words ∧ (shrPort t p).hbCnt = n ∧ (shrPort t p).hbLast = some s.tb.now ∧
        (shrPort t p).echoT = fTs f.words ∧ (shrPort t p).echoR = lo32 s.tb.now ∧
        portUp t p = (portUp s p || (decide (10 ≤ n) && bit (nth (fPay f.words) 2) 1)))) ∧
  FrameOf .linkDown true (typIs 2) (fun s _ ws => takeLink s ws false) ∧
  FrameOf .linkUp true (typIs 3) (fun s _ ws => takeLink s ws true) ∧
  FrameOf .topo true (typIs 4) (fun s _ ws => takeTopo s ws) ∧
  FrameOf .syncFrame true (typIs 5) takeSync ∧
  FrameOf .beacon true (typIs 6) (fun s _ ws => takeBeacon s ws) ∧
  FrameOf .beacon false (typIs 6) (fun s _ ws => beaconRoster s ws) ∧
  FrameOf .joinReq true (typIs 7) (fun s _ ws => takeJoinReq s ws) ∧
  (∀ ad, FrameOf .joinAck ad (typIs 8) (fun s _ ws => takeJoinAck s ws)) ∧
  FrameOf .item true (typIs 0x10) takeItem ∧
  (∀ s p ws,
    (takeLink s ws true = addReport s (.link (reportAt s (fTs ws)) (fTs ws) (fSrc ws) (fld (nth (fPay ws) 0) 5 0) (bit (nth (fPay ws) 0) 6) true)) ∧
    (∀ r, s.tb.now.toNat ≤ r.time.toNat → addReport s r = { s with shr := { s.shr with reports := insReport r s.shr.reports } }) ∧
    (∀ r rest, s.shr.reports = r :: rest → ringRuns s = true →
      (r.time.toNat ≤ s.tb.now.toNat → exec .reportApply s =
        .next (twinWatch s (trackOutside (applyReport { s with shr := { s.shr with reports := rest } } r)))) ∧
      (s.tb.now.toNat < r.time.toNat → exec .reportApply s = .next s)) ∧
    (rf s Reg.tbCtl 1 0 = 1 → ∃ t, takeSync s p ws = t ∧ t.shr.syncSeen = true ∧ t.shr.syncLast = some s.tb.now ∧
      let e : Int := ((dbl (fTs ws) (nth (fPay ws) 0)).toNat : Int) + ((nth (fPay ws) 1).toNat / 16 : Nat) + linkDelay s p - s.tb.now.toNat
      if s.shr.syncSeen = false ∧ (s.dev = .config ∨ s.dev = .maintenance) ∧ rb s Reg.schedCtl 0 = false then
        t.tb.err = 0 ∧ t.tb.now = BitVec.ofInt 64 ((s.tb.now.toNat : Int) + e)
      else t.tb.err = e ∧ t.tb.now = s.tb.now) ∧
    (dbl (fCyc ws) (nth (fPay ws) 0) = dbl (rd s Reg.schedCycl) (rd s Reg.schedCych) → nth (fPay ws) 1 = ringDigest s →
      (takeBeacon s ws).shr.bcnBad = 0 ∧ (takeBeacon s ws).safeReq = s.safeReq) ∧
    (nth (fPay ws) 1 ≠ ringDigest s → s.shr.bcnBad ≥ 1 → (s.dev = .run ∨ s.dev = .tracking) → s.safeReq = none →
      (takeBeacon s ws).safeReq = some 6 ∧ rb (takeBeacon s ws) Reg.shrStat 3 = true) ∧
    (s.shr.acting = true → (rosterList s).length < 63 → rosterBit s (fSrc ws) = false → nth (fPay ws) 0 = ringDigest s →
      rosterBit (takeJoinReq s ws) (fSrc ws) = true) ∧
    (rf (takeJoinAck s ws) Reg.shrStat 25 24 = fld (nth (fPay ws) 0) 1 0 ∧
      (fld (nth (fPay ws) 0) 1 0 = 0 → rb (takeJoinAck s ws) Reg.shrStat 26 = true)) ∧
    (∀ e u sl, s.shr.items[fSub ws]? = some e → fLenw ws = itLen e → (fPay ws).length = fLenw ws → itemRx e = true →
      let t := rf s Reg.shrItact 18 13
      let m := match p with | .a => 36 | .b => 37
      let partner := decide (itPartner e ≠ 0x3F)
      let d := (fSeq ws - nth sl 0).toNat
      readWords s t (itSlot e) m 3 = (u, some sl) →
      (fSrc ws = itProd e ∨ fSrc ws = itPartner e ∧ partner = true) →
      (partner = true → fState ws = 4 ∨ fld (nth sl 1) 9 6 ≠ 4 ∨ (rd s Reg.schedCycl - nth sl 2).toNat ≥ 2) →
      (fSrc ws = fld (nth sl 1) 5 0 → 1 ≤ d ∧ d < 2 ^ 31) →
      checkMem u (hwReq m) (tarnAddr t (itSlot e)) needW spData = none →
      (∀ k, k < 3 + itLen e → bufIndex u t (itSlot e + k) = none) →
      tarnRaw (takeItem s p ws) t (itSlot e) = fSeq ws ∧ tarnRaw (takeItem s p ws) t (itSlot e + 2) = fCyc ws ∧
      fld (tarnRaw (takeItem s p ws) t (itSlot e + 1)) 5 0 = fSrc ws ∧ fld (tarnRaw (takeItem s p ws) t (itSlot e + 1)) 9 6 = fState ws ∧
      ∀ k, k < itLen e → tarnRaw (takeItem s p ws) t (itSlot e + 3 + k) = nth (fPay ws) k))

/-- R245, R247 to R249, R268 to R279: what a member of a pair does with the frames of its twin, and the Wellspring with its management
frames. Frames of another node, and management frames while the Wellspring is stopped, change nothing. Payload layouts are the
model's (log 20). -/
def Obligations.TwinFrames : Prop :=
  let tw (f : State → Port → List Word → State) (s : State) (p : Port) (ws : List Word) : State :=
    if bound s && decide (fSrc ws = twNode s) then f s p ws else s
  let mg (f : State → List Word → State) (s : State) (_ : Port) (ws : List Word) : State :=
    if !s.wspStopped && bound s && decide (fSrc ws = twNode s) then f s (fPay ws) else s
  FrameOf .snap true (subIs 0x20 1) (tw takeSnap) ∧
  FrameOf .agree true (subIs 0x20 2) (tw fun s _ ws => takeAgree s ws) ∧
  FrameOf .refuse true (subIs 0x20 3) (tw fun s _ _ => takeRefuse s) ∧
  FrameOf .record true (subIs 0x20 4) (tw fun s _ ws => takeRecord s ws) ∧
  FrameOf .handoff true (subIs 0x20 5) (tw fun s _ _ => takeHandoffFrame s) ∧
  FrameOf .twinDrop true (subIs 0x20 6) (tw fun s _ _ => takeDrop s) ∧
  FrameOf .depart true (subIs 0x20 7) (tw fun s _ _ => takeLeft s) ∧
  FrameOf .left true (subIs 0x20 8) (tw fun s _ _ => takeLeft s) ∧
  FrameOf .editPrep true (subIs 0x30 1) (mg fun s pay =>
    mgmtSend (prepAnswer s pay).1 2 [abrtWord (fld (nth pay 0) 15 0) (prepAnswer s pay).2]) ∧
  FrameOf .editPrepd true (subIs 0x30 2) (mg fun s pay => prepResult s (fld (nth pay 0) 15 0) (fld (nth pay 0) 31 16)) ∧
  FrameOf .editAbrt true (subIs 0x30 3) (mg fun s pay =>
    if edArmed s ∧ fld (nth pay 0) 15 0 = edEid s then editAbandon s (fld (nth pay 0) 20 16) else s) ∧
  FrameOf .swPrep true (subIs 0x30 4) (mg takeSwPrep) ∧
  FrameOf .swPrepd true (subIs 0x30 5) (mg takeSwPrepd) ∧
  FrameOf .swAbrt true (subIs 0x30 6) (mg fun s _ => if s.dev = .tracking then { s with twin := { s.twin with armed := none } } else s) ∧
  FrameOf .joinCopy true (subIs 0x30 7) (mg takeJoinCopy) ∧
  (∀ s p ws,
    (∀ a, a = fld (nth (fPay ws) 0) 19 15 → s.bnd.phase = .snapshots → (snapApps s).contains a = true → bit (nth (fPay ws) 0) 31 = false →
      let off := fld (nth (fPay ws) 0) 14 0
      let d := (fPay ws).drop 1
      let (t, k) := fillSide s a
      (off + d.length > inLen s a → takeSnap s p ws = cntLen s p) ∧
      (off + d.length ≤ inLen s a → routeCheck s t (k + off) needW = none →
        let u := putSnap (fabricWrite s t (k + off) d) { snapOf s a with got := (snapOf s a).got + d.length }
        snapsHere u = false → takeSnap s p ws = u)) ∧
    (s.bnd.phase = .agree → isPri s = true →
      (let x := some (bit (nth (fPay ws) 0) 16, BitVec.ofNat 32 (fld (nth (fPay ws) 0) 15 0))
       takeAgree s ws = steps57 { s with twin := { s.twin with agreed := x } }) ∧
      (takeRefuse s).bnd.phase = .idle ∧ (takeRefuse s).twin.live = false ∧ rb (takeRefuse s) Reg.grvTwstat 5 = true) ∧
    (s.bnd.phase ≠ .records → takeRecord s ws = { s with twin := { s.twin with recs := putRec s.twin.recs (recOf (fPay ws)) } }) ∧
    (s.bnd.phase ≠ .handoff → isSby s = true → takeHandoffFrame s = { s with twin := { s.twin with handoff := true } }) ∧
    (s.bnd.phase = .handoff → s.dev = .tracking → s.twin.armed ≠ some s.bnd.cyc →
      (takeHandoffFrame s).dev = .run ∧ (takeHandoffFrame s).bnd.phase = .idle) ∧
    (s.dev = .tracking → s.twin.missAt.isSome = true → (takeDrop s).dev = .safeHold ∧ (takeDrop s).cause = 6#8) ∧
    (s.dev = .run → s.twin.live = true → (takeLeft s).twin.live = false ∧ rb (takeLeft s) Reg.grvTwstat 3 = true) ∧
    (isSby s = true → s.twin.lostAt = none → s.dev = .tracking → (takeLeft s).twin.lostAt = some s.tb.now ∧
      (s.flt.length < 64 → ∃ r, (takeLeft s).flt = s.flt ++ [r] ∧ fld (nth r 0) 7 0 = 0x1B)) ∧
    (s.edit.staged = none → prepAnswer s (fPay ws) = (s, 8)) ∧
    (∀ reason, edArmed s = true → reason < 32 → rb (editAbandon s reason) Reg.schedEdctl 5 = false ∧
      rb (editAbandon s reason) Reg.schedEdstat 1 = true ∧ rf (editAbandon s reason) Reg.schedEdstat 6 2 = reason ∧
      rf (editAbandon s reason) Reg.schedEdstat 31 16 = edEid s) ∧
    (∀ pay, fld (nth pay 2) 0 0 = 0 → s.dev = .tracking → s.twin.live = true → s.twin.missAt = none → rb s Reg.grvTwstat 0 = true →
      edArmed s = false → (dbl (nth pay 0) (nth pay 1)).toNat > cycNow s →
      takeSwPrep s pay = mgmtSend { s with twin := { s.twin with armed := some (dbl (nth pay 0) (nth pay 1)) } } 5 [0, 0]) ∧
    (∀ pay d, nth pay 0 = 0 → nth pay 1 = 0 → s.twin.prep = some d → d.toNat > cycNow s + 1 →
      takeSwPrepd s pay = { s with twin := { s.twin with prep := none, armed := some d } }) ∧
    (∀ pay, fld (nth pay 0) 7 0 = jcResult → nth pay 1 = 0 → s.dev = .config → joinWaits s = true →
      takeJoinCopy s pay = { s with twin := { State.twinReset with joining := true } }) ∧
    (∀ pay, fld (nth pay 0) 7 0 = jcAck → s.dev = .run → s.twin.joining = true → s.twin.jOut = some (fld (nth pay 0) 12 8) →
      (takeJoinCopy s pay).twin.jOut = none ∧ (takeJoinCopy s pay).twin.joined.contains (fld (nth pay 0) 12 8) = true))

/-- R214, R218, R257, R260, R261, R263, R266, R403, R408, R411, R412: faults, their records and what they stop. A record takes its time,
its cycle and the next sequence number, and its last word checks it; a 65th is lost and counted. A miscompare stops its Grove,
discards the cycle and asks for the fence; the fence stays until software lifts it. The Wellspring prepares and chooses Spares.
The Wellspring's record of registers is the model's (log 38). -/
def Obligations.FaultsAndGroves : Prop := ∀ s : State,
  (∀ r : FaultInfo, s.dev ≠ .off → s.dev ≠ .reset → exec (.faultRecord r) s = .next (record s r)) ∧
  (∀ r : FaultInfo, s.flt.length < 64 → (∃ w, (record s r).flt = s.flt ++ [w] ∧ w.length = 8 ∧
      fld (nth w 0) 7 0 = r.code.toNat ∧ fld (nth w 0) 10 8 = r.scope.toNat ∧ bit (nth w 0) 11 = r.masked ∧
      bit (nth w 0) 12 = r.discard ∧ fld (nth w 0) 21 16 = r.master.toNat ∧ fld (nth w 0) 26 22 = r.app.toNat ∧
      fld (nth w 0) 30 27 = r.grove.toNat ∧ dbl (nth w 1) (nth w 2) = s.tb.now ∧ nth w 3 = rd s Reg.schedCycl ∧ nth w 4 = r.addr ∧
      nth w 5 = r.info ∧ nth w 6 = rd s Reg.fltHead ∧ nth w 7 = crc32c (w.take 7)) ∧
    rd (record s r) Reg.fltHead = rd s Reg.fltHead + 1 ∧ rf (record s r) Reg.fltStat 14 8 = s.flt.length + 1 ∧
    (s.wspStopped = false → s.evq.length < 32 → (record s r).evq.length = s.evq.length + 1)) ∧
  (∀ r : FaultInfo, 64 ≤ s.flt.length → (record s r).flt = s.flt ∧ rd (record s r) Reg.fltHead = rd s Reg.fltHead ∧
    rf (record s r) Reg.fltLost 15 0 = min 0xFFFF (rf s Reg.fltLost 15 0 + 1) ∧ rb (record s r) Reg.fltStat 0 = true) ∧
  (∀ (g : Grv) r, (grv s g.val).glade = some r → isLockstep s g.val = true → r.app < 32 →
    ∃ t, exec (.lockstepMiscompare g) s = .next t ∧ t.fenceReq = s.fenceReq ||| (3#32 <<< (2 * g.val)) ∧ (grv t g.val).glade = none ∧
      (eng t (2 * g.val)).run = .stopped ∧ (eng t (2 * g.val + 1)).run = .stopped ∧ (app t r.app).active = false ∧
      (s.flt.length < 64 → ∃ w, t.flt = s.flt ++ [w] ∧ fld (nth w 0) 7 0 = 1 ∧ fld (nth w 0) 30 27 = g.val ∧ bit (nth w 0) 12 = true)) ∧
  (∀ g : Grv, (grv s g.val).glade = none → exec (.lockstepMiscompare g) s = .next s) ∧
  (∀ g : Grv, bit s.fenceReq (2 * g.val) = true → bit s.fenceReq (2 * g.val + 1) = true →
    ∃ t, exec (.groveFence g) s = .next t ∧ engFenced t (2 * g.val) = true ∧ engFenced t (2 * g.val + 1) = true ∧
      (eng t (2 * g.val)).run = .stopped ∧ (eng t (2 * g.val + 1)).run = .stopped ∧ (grv t g.val).glade = none ∧
      (grv t g.val).halted = false ∧ t.fenceReq = s.fenceReq &&& ~~~ (3#32 <<< (2 * g.val)) ∧ t.prepared.getLsbD g.val = false) ∧
  (∀ g : Grv, bit s.fenceReq (2 * g.val) = false → bit s.fenceReq (2 * g.val + 1) = false → exec (.groveFence g) s = .next s) ∧
  (s.dev ≠ .off → s.dev ≠ .reset → s.dev ≠ .halted → s.wspStopped = false →
    ∃ t, exec .wspFault s = .next t ∧ t.wspStopped = true ∧ t.safeReq = some (s.safeReq.getD 8) ∧
      (s.flt.length < 64 → ∃ w, t.flt = s.flt ++ [w] ∧ fld (nth w 0) 7 0 = 0x15)) ∧
  (blocksRun s = true → ∃ t, exec .boundarySequencerMiscompare s = .next t ∧ t.safeReq = some (s.safeReq.getD 8) ∧
    (s.flt.length < 64 → ∃ w, t.flt = s.flt ++ [w] ∧ fld (nth w 0) 7 0 = 0x15)) ∧
  (∀ g : Grv, wspRuns s = true → grvFenced s g.val = true → groveInForce s g.val = true → s.noSpare.getLsbD g.val = false →
    rb s (Reg.grvSub + g.val) 4 = false → rb s (Reg.grvSub + g.val) 5 = false →
    (spareFor s g.val = none → ∃ t, exec (.spareChoice g) s = .next t ∧ t.noSpare.getLsbD g.val = true ∧ rb t Reg.grvStat 2 = true ∧
      (s.flt.length < 64 → ∃ w, t.flt = s.flt ++ [w] ∧ fld (nth w 0) 7 0 = 0x10)) ∧
    (∀ h t, spareFor s g.val = some h → wspWrites s (erWrites s g.val h ++ [(Reg.grvSub + g.val, BitVec.ofNat 32 (h + 16))]) = (t, true) →
      exec (.spareChoice g) s = .next t)) ∧
  (∀ (g : Grv) t, wspRuns s = true → grvSpare s g.val = true → grvFenced s g.val = false → grvIdle s g.val = true →
    s.prepared.getLsbD g.val = false → (grv s g.val).pondBusy = false → gated s g.val = false → bit (rd s Reg.pwrGctl) g.val = false →
    wspWrites (l1Clean s g.val 35) [(Reg.cmxPond + g.val, putBit (rd s (Reg.cmxPond + g.val)) 4 true)] = (t, true) →
    exec (.sparePreparation g) s = .next { t with prepared := t.prepared ||| (1#16 <<< g.val) }) ∧
  (∀ c : Fin 6, s.dev ≠ .off → rb s (Reg.fltCknom + c.val) 12 = true →
    (c.val = 0 → ∃ t, exec (.clockFault c) s = .next t ∧ t.dev = .reset ∧ rb t Reg.idRstsrc 2 = true ∧ rb t Reg.fltCkstat 0 = true) ∧
    ((c.val = 1 ∨ c.val = 4 ∨ c.val = 5) → ∃ t, exec (.clockFault c) s = .next t ∧ t.safeReq = some (s.safeReq.getD 6) ∧
      rb t Reg.fltCkstat c.val = true ∧ (s.flt.length < 64 → ∃ w, t.flt = s.flt ++ [w] ∧ fld (nth w 0) 7 0 = 0x0A)) ∧
    ((c.val = 2 ∨ c.val = 3) → ∃ t, exec (.clockFault c) s = .next t ∧ rb t Reg.fltCkstat c.val = true ∧
      portUp t (if c.val = 2 then .a else .b) = false))

/-- R341, R342, R345 to R348, R350, R510: the tarns' own work. A scrub read counts a corrected word and queues its rewrite, or records
an uncorrectable one, and moves on; a correction write mends the word without changing its data; a new owner takes effect; a group
enters retention when nothing owns it, and wakes in the time R510 gives, or is unusable until Reset. -/
def Obligations.TarnUpkeep : Prop := ∀ s : State,
  (∀ t : Tarn, rb s Reg.tarnScrub 0 = true → tarnUp s t.val = true → tarnDead s t.val = false → blocksRun s = true →
    let w := Sparse.get 0 s.scrubPos t.val
    ∃ u, exec (.scrubRead t) s = .next u ∧ Sparse.get 0 u.scrubPos t.val = (if w = 32767 then 0 else w + 1) ∧
      rd u Reg.tarnScpass = (if w = 32767 then rd s Reg.tarnScpass + 1 else rd s Reg.tarnScpass) ∧ u.mem = s.mem ∧
      (tarnCls s t.val w = .good → rd u Reg.tarnCecnt = rd s Reg.tarnCecnt ∧ u.flt = s.flt) ∧
      (tarnCls s t.val w = .single → rf u Reg.tarnCecnt 15 0 = min 0xFFFF (rf s Reg.tarnCecnt 15 0 + 1) ∧
        (Sparse.get [] u.corrQ t.val).contains w = true ∧ u.flt = s.flt) ∧
      (tarnCls s t.val w = .multi ∨ tarnCls s t.val w = .wrongAddr →
        rf u Reg.tarnUecnt 15 0 = min 0xFFFF (rf s Reg.tarnUecnt 15 0 + 1) ∧ rb u Reg.tarnStat 2 = true ∧
        (s.flt.length < 64 → ∃ r, u.flt = s.flt ++ [r] ∧ fld (nth r 0) 7 0 = 6 ∧ fld (nth r 0) 21 16 = 33 ∧
          nth r 4 = BitVec.ofNat 32 (tarnAddr t.val w)))) ∧
  (∀ (t : Tarn) w r, Sparse.get [] s.corrQ t.val = w :: r → tarnUp s t.val = true →
    ∃ u, exec (.correctionWrite t) s = .next u ∧ Sparse.get [] u.corrQ t.val = r ∧ u.mem = s.mem ∧
      (tarnCls s t.val w = .single → tarnCls u t.val w = .good) ∧ (tarnCls s t.val w ≠ .single → tarnCls u t.val w = tarnCls s t.val w)) ∧
  (∀ (t : Tarn) v, Sparse.get none s.ownPend t.val = some v → v.toNat < 256 →
    ∃ u, exec (.ownerChange t) s = .next u ∧ rf u (Reg.tarnOwn + t.val) 7 0 = v.toNat ∧ Sparse.get none u.ownPend t.val = none ∧ u.mem = s.mem) ∧
  (∀ t : Tarn, Sparse.get none s.ownPend t.val = none → exec (.ownerChange t) s = .next s) ∧
  (∀ k : Fin 15, (rb s Reg.tarnRet k.val = true ∨ vmonLevel s ≤ 2) →
    (∀ t ∈ groupTarns k.val, rf s (Reg.tarnOwn + t) 7 0 = 0 ∧ ownerShown s t = 0) → s.pwr.ret.getLsbD k.val = false →
    wakingG s k.val = false → s.pwr.dead.getLsbD k.val = false → s.pwr.wakeReq.getLsbD k.val = false → s.dev ≠ .off → s.dev ≠ .reset →
    exec (.retentionEntry k) s = .next
      { sb s Reg.tarnRetst k.val (s.pwr.rok.getLsbD k.val) with pwr := { s.pwr with ret := s.pwr.ret ||| (1#15 <<< k.val) } }) ∧
  (∀ k : Fin 15, s.pwr.ret.getLsbD k.val = true → s.pwr.wakeReq.getLsbD k.val = true →
    ∃ u, exec (.retentionWake k) s = .next u ∧ u.pwr.ret = s.pwr.ret &&& ~~~ (1#15 <<< k.val) ∧ rb u Reg.tarnRetst k.val = false ∧
      rb u Reg.tarnRetst (15 + k.val) = true ∧ Sparse.get none u.pwr.retFall k.val = some s.tb.now) ∧
  (∀ k : Fin 15, ∃ u, exec (.pwrRokRise k) s = .next u ∧ u.pwr.rok = s.pwr.rok ||| (1#15 <<< k.val) ∧
    (s.pwr.ret.getLsbD k.val = true → rb u Reg.tarnRetst k.val = true) ∧ (s.pwr.ret.getLsbD k.val = false → u.io = s.io)) ∧
  (∀ k : Fin 15, s.pwr.rok.getLsbD k.val = true → exec (.pwrRokFall k) s = .next { s with pwr :=
    { s.pwr with rok := s.pwr.rok &&& ~~~ (1#15 <<< k.val), rokFall := Sparse.set none s.pwr.rokFall k.val (some s.tb.now) } }) ∧
  (∀ (k : Fin 15) a b, Sparse.get none s.pwr.retFall k.val = some a → Sparse.get none s.pwr.rokFall k.val = some b →
    wakingG s k.val = true →
    (a.toNat + 2000 ≤ s.tb.now.toNat → b.toNat + 500 ≤ s.tb.now.toNat → ∃ u, exec (.wakeComplete k) s = .next u ∧
      rb u Reg.tarnRetst (15 + k.val) = false ∧ u.pwr.wakeReq = s.pwr.wakeReq &&& ~~~ (1#15 <<< k.val) ∧
      (b.toNat + 500 > a.toNat + 2000 → rb u Reg.pwrStat 1 = true ∧ rf u Reg.pwrStat 11 8 = k.val)) ∧
    (s.tb.now.toNat < a.toNat + 2000 ∨ s.tb.now.toNat < b.toNat + 500 → exec (.wakeComplete k) s = .next s)) ∧
  (∀ (k : Fin 15) a, Sparse.get none s.pwr.retFall k.val = some a → wakingG s k.val = true → s.pwr.rok.getLsbD k.val = true →
    a.toNat + 100000 ≤ s.tb.now.toNat → ∃ u, exec (.retentionWakeFail k) s = .next u ∧ u.pwr.dead = s.pwr.dead ||| (1#15 <<< k.val) ∧
      rb u Reg.tarnRetst (15 + k.val) = false ∧ rb u Reg.pwrStat 2 = true ∧
      (s.flt.length < 64 → ∃ r, u.flt = s.flt ++ [r] ∧ fld (nth r 0) 7 0 = 0x1A ∧ nth r 5 = BitVec.ofNat 32 k.val))

/-- R329, R337, R327, R499, R503, R504, R500: range operations end, Lake fills arrive, and the master port answers. A response with
nothing outstanding for it breaks the port's contract, and R9 states no behaviour then: the model stops.
When a write lies in outer memory and what an error leaves are the model's (logs 15, 44), and so is the stop (log 45). -/
def Obligations.OuterPort : Prop := ∀ s : State,
  (∀ c, s.cmx = some c → blocksRun s = true → c.last < c.next → preloads s = 0 →
    exec .cmxCompletion s = .next { sb (sb s Reg.cmxStat 0 false) Reg.cmxStat 1 true with cmx := none }) ∧
  (∀ c, s.cmx = some c → c.next ≤ c.last → exec .cmxCompletion s = .next s) ∧
  (∀ g : Grv, blocksRun s = true → exec (.pondOperationDone g) s = .next (putGrv s g.val { grv s g.val with pondBusy := false })) ∧
  (∀ (id : Fin 128) resp data, (∀ t ∈ s.nchm, t.id ≠ id.val) → exec (.nchmReadResponse id resp data) s = .fault .brokenContract) ∧
  (∀ (id : Fin 64) resp, (∀ t ∈ s.nchm, t.id ≠ 0x80 + id.val) → exec (.nchmWriteAck id resp) s = .fault .brokenContract) ∧
  (∀ (id : Fin 128) t resp data, nchFind s id.val = some t → t.done = none →
    (resp = 0 → ∃ u, exec (.nchmReadResponse id resp data) s = .next u ∧ nchFind u id.val = some { t with done := some true } ∧
      lineAt u t.line = data ∧ u.outerErr.contains t.line = false ∧
      ∀ b, b < 64 * t.line ∨ 64 * t.line + 64 ≤ b → byteAt u b = byteAt s b) ∧
    (resp ≠ 0 → t.use ≠ .preload → s.cmx = none → ∃ u, exec (.nchmReadResponse id resp data) s = .next u ∧
      nchFind u id.val = none ∧ u.outerErr.contains t.line = true ∧ u.mem = s.mem)) ∧
  (∀ (id : Fin 128) t resp data, nchFind s id.val = some t → t.done = some false →
    exec (.nchmReadResponse id resp data) s = .next { s with nchm := s.nchm.filter fun x => decide (x.id ≠ id.val) }) ∧
  (∀ (id : Fin 64) t resp, nchFind s (0x80 + id.val) = some t →
    (resp = 0 → exec (.nchmWriteAck id resp) s = .next { s with nchm := s.nchm.filter fun x => decide (x.id ≠ 0x80 + id.val) }) ∧
    (∀ a w n, resp ≠ 0 → t.done = none → t.use = .write a w n → ∃ u, exec (.nchmWriteAck id resp) s = .next u ∧
      nchFind u (0x80 + id.val) = none ∧ (∀ b, b < w ∨ w + n ≤ b → byteAt u b = byteAt s b) ∧
      (s.flt.length < 64 → ∃ r, u.flt = s.flt ++ [r] ∧ fld (nth r 0) 7 0 = 4 ∧ nth r 4 = BitVec.ofNat 32 w ∧ bit (nth r 0) 12 = a.isSome) ∧
      (∀ n, a = some n → (app s n).active = true → (app u n).ended = .discarded))) ∧
  (∀ (id : Byte) t, nchFind s id.toNat = some t → t.done = none → s.cmx = none →
    ∃ u, exec (.nchmTimeout id) s = .next u ∧ nchFind u id.toNat = some { t with done := some false }) ∧
  (∀ (id : Fin 128) t e i, nchFind s id.val = some t → t.done = some true → t.use = .pfh e i → blocksRun s = true →
    ∃ u, exec (.lakeFill id) s = .next u ∧ nchFind u id.val = none ∧
      (i = true → lakeWay s t.line = none → t.alloc = true → mayAlloc s 4 0 t.line = true →
        ((List.range 16).any fun w => match lakeSlot s (t.line % 4096) w with | some x => !x.locked | none => true) = true →
        (lakeWay u t.line).isSome = true)) ∧
  (∀ (addr : BitVec 20) (len : BitVec 4) wr, s.dev ≠ .off → s.dev ≠ .reset →
    (addr.toNat % 16 ≠ 0 ∨ addr.toNat % 4096 + 16 * (len.toNat + 1) > 4096) →
    exec (.nchsBadRequest addr len wr) s = .next { s with outResp := 2, outData := if wr then [] else List.replicate (4 * (len.toNat + 1)) 0#32 })

/-- R422, R424 to R426, R439, R440, R442, R500, R502, R507: the slave port. GO and ACK judge a channel's state, ACK first; a channel in
RUN after WSP_FAULT is answered by the channel logic. The pops return what they drop. A lane of the expert window is one IO access of
its host; a lane of a tarn window is one word of the tarn shown. A request that R500 or R507 refuses answers errors with data 0.
That a failed burst has data 0, and what its denial logs, are readings (logs 32, 33). -/
def Obligations.HostPort : Prop := ∀ s : State,
  (∀ (h c : Chan) v, portRuns s = true →
    let x := chan s c.val
    let m := 38 + h.val
    let ends (y : Mbx) (q : List Nat) : State :=
      { s with mbx := Sparse.set State.mbxReset s.mbx c.val y, goQ := q, outResp := 0, outData := [] }
    let go (y : Mbx) : State :=
      if y.st = 0 then ends { y with st := 1, master := m, abt := false } (s.goQ ++ [c.val]) else ends { y with rej := true } s.goQ
    (bit v 1 = false → bit v 0 = true → x.st = 0 → exec (.mbxGo h c v) s = .next (go x)) ∧
    (bit v 1 = false → bit v 0 = true → x.st ≠ 0 → exec (.mbxGo h c v) s = .next (ends { x with rej := true } s.goQ)) ∧
    (bit v 1 = true → bit v 0 = false → x.st = 2 → x.master = m → exec (.mbxAck h c v) s = .next (ends { x with st := 0 } s.goQ)) ∧
    (bit v 1 = true → bit v 0 = false → (x.st ≠ 2 ∨ x.master ≠ m) → exec (.mbxAck h c v) s = .next (ends { x with rej := true } s.goQ)) ∧
    (bit v 1 = true → bit v 0 = true → ∃ t, exec (.mbxGo h c v) s = .next t ∧ exec (.mbxAck h c v) s = .next t ∧
      (x.st = 2 → x.master = m → chan t c.val = { x with st := 1, master := m, abt := false } ∧ t.goQ = s.goQ ++ [c.val]) ∧
      (x.st = 0 → chan t c.val = { x with rej := true, st := 1, master := m, abt := false } ∧ t.goQ = s.goQ ++ [c.val]) ∧
      (x.st = 1 ∨ x.st = 2 ∧ x.master ≠ m → chan t c.val = { x with rej := true } ∧ t.goQ = s.goQ) ∧
      (∀ d, d ≠ c.val → chan t d = chan s d) ∧ t.sessions = s.sessions)) ∧
  (∀ h : Chan, portRuns s = true →
    exec (.mbxEventRead h) s = .next { s with evq := s.evq.drop 1, outResp := 0, outData := [s.evq.headD 0#32] } ∧
    (∃ t, exec (.mbxEvstatRead h) s = .next t ∧ t.outData = [hostRd s 0x1C ||| BitVec.ofNat 32 s.evq.length] ∧
      hostRd t 0x1C = hostRd s 0x1C &&& 0xFFFF#32 ∧ t.evq = s.evq) ∧
    (∃ t, exec (.mbxWinstatRead h) s = .next t ∧ t.outData = [hostRd s offWinstat] ∧ hostRd t offWinstat = 0 ∧
      ∀ o, o ≠ offWinstat → hostRd t o = hostRd s o)) ∧
  (∀ c : Chan, (s.wspStopped = true → (chan s c.val).st = 1 → ∃ t, exec (.channelAbort c) s = .next t ∧ (chan t c.val).st = 2 ∧
      (chan t c.val).abt = true ∧ Sparse.get 0#32 (chan t c.val).rsp 0 = cmdW s c.val 0 ∧
      Sparse.get 0#32 (chan t c.val).rsp 1 = BitVec.ofNat 32 stAborted ∧ Sparse.get 0#32 (chan t c.val).rsp 2 = 0 ∧
      bit (hostRd t offHintstat) c.val = true ∧ (∀ d, d ≠ c.val → chan t d = chan s d) ∧ c.val ∉ t.goQ ∧ t.evq = s.evq) ∧
    (s.wspStopped = false ∨ (chan s c.val).st ≠ 1 → exec (.channelAbort c) s = .next s)) ∧
  (∀ (h : Chan) x, portRuns s = true → burstOk x 0x4000 = false → exec (.expertWindowAccess h x) s =
    .next { s with outResp := 2, outData := List.replicate (if x.wr then 0 else 4 * x.beats) 0#32 }) ∧
  (∀ (h : Chan) x (k : Fin 4), portRuns s = true → burstOk x 0x4000 = true → x.beats = 1 →
    (if x.wr then x.be.getD 0 0 else x.be.headD 0xFFFF#16) = 0xF#16 <<< (4 * k.val) →
    let a := fld (hostRd s (offPage h.val)) 3 0 * 0x1000 + x.off / 4 + k.val
    let q := reqOf s (38 + h.val)
    let none4 : List Word := if x.wr then [] else [0, 0, 0, 0]
    (expertOpen s (38 + h.val) = false → ∃ t, exec (.expertWindowAccess h x) s = .next t ∧ t.outResp = 2 ∧ t.outData = none4 ∧
      t.io = s.io ∧ fld (hostRd t offWinstat) 15 0 = min 0xFFFF (fld (hostRd s offWinstat) 15 0 + 1)) ∧
    (expertOpen s (38 + h.val) = true → x.wr = false →
      (∀ d, ioDenied s q a needR = some d → exec (.expertWindowAccess h x) s =
        .next { logDenial s d with outResp := 2, outData := [0, 0, 0, 0] }) ∧
      (ioDenied s q a needR = none → exec (.expertWindowAccess h x) s =
        .next { ioAfterRead s q a with outResp := 0, outData := putNth [0, 0, 0, 0] k.val (ioValue s q a) })) ∧
    (expertOpen s (38 + h.val) = true → x.wr = true → ∀ t,
      (ioPut s q a (nth x.words k.val) false = .done t → exec (.expertWindowAccess h x) s = .next { t with outResp := 0, outData := [] }) ∧
      (ioPut s q a (nth x.words k.val) false = .refused t → exec (.expertWindowAccess h x) s = .next { t with outResp := 0, outData := [] }) ∧
      (ioPut s q a (nth x.words k.val) false = .full t → exec (.expertWindowAccess h x) s = .next { t with outResp := 2, outData := [] }) ∧
      (ioPut s q a (nth x.words k.val) false = .held t → exec (.expertWindowAccess h x) s = .next s) ∧
      ∀ d, ioPut s q a (nth x.words k.val) false = .denied t d →
        exec (.expertWindowAccess h x) s = .next { logDenial t d with outResp := 2, outData := [] })) ∧
  (∀ (h : Chan) (w : Fin 6) x, portRuns s = true →
    let sel := hostRd s (0x20000 + 4 * w.val)
    let t := fld sel 5 0
    let q := reqOf s (38 + h.val)
    let c := checkMem s q (tarnAddr t 0 + x.off) (if x.wr then needW else needR) spSlave
    (burstOk x 0x20000 = false ∨ bit sel 6 = false → exec (.hostTarnWindowAccess h w x) s =
      .next { s with outResp := 2, outData := List.replicate (if x.wr then 0 else 4 * x.beats) 0#32 }) ∧
    (burstOk x 0x20000 = true → bit sel 6 = true →
      (∀ d, c = some d → ∃ u, exec (.hostTarnWindowAccess h w x) s = .next u ∧ u.outResp = 2 ∧ u.mem = s.mem ∧
        u.outData = List.replicate (if x.wr then 0 else 4 * x.beats) 0#32 ∧
        rf u Reg.actVcnt 15 0 = min 0xFFFF (rf s Reg.actVcnt 15 0 + 1)) ∧
      (c = none → tarnUp s t = true → x.beats = 1 → ∀ k : Fin 4,
        (if x.wr then x.be.getD 0 0 else x.be.headD 0xFFFF#16) = 0xF#16 <<< (4 * k.val) →
        let i := x.off / 4 + k.val
        (x.wr = false → tarnCls s t i = .good → exec (.hostTarnWindowAccess h w x) s =
          .next { s with outResp := 0, outData := putNth [0, 0, 0, 0] k.val (tarnRaw s t i) }) ∧
        (x.wr = true → bufIndex s t i = none → ∃ u, exec (.hostTarnWindowAccess h w x) s = .next u ∧ u.outResp = 0 ∧
          tarnRaw u t i = nth x.words k.val ∧ tarnCls u t i = .good ∧
          ∀ a, a < tarnAddr t i ∨ tarnAddr t i + 4 ≤ a → byteAt u a = byteAt s a))))

/-- R427 to R432, R435, R433, R445: take-up, checks, responses and sessions, and the commands that read or stage. An accepted
OPEN_SESSION answers a SID and a nonce of the time, the boots and its own count; AUTH compares the MAC of the nonce, the SID, the level
and the master; its third failure in succession locks the master out for 1 s. Which free SID is given is open (log 41); the layout of
the staging area is the model's (log 40). -/
def Obligations.SessionsAndReads : Prop :=
  OmiOf .getInfo ⟨0x01, .open', inA, 0, 0⟩ (fun s c => complete s c stOk 0
    [ipverWord, ipcfgWord, idStateWord s, ioValue s wspReq Reg.idUpstat, s.boot.version, ioValue s wspReq Reg.shrNode,
     BitVec.ofNat 32 (ringRole s), BitVec.ofNat 32 s.sessions.length]) ∧
  OmiOf .openSession ⟨0x02, .unlocked, inA, 4, 4⟩ openSession ∧
  OmiOf .auth ⟨0x03, .own, inA, 32, 32⟩ authSession ∧
  OmiOf .closeSession ⟨0x04, .basic, inA, 0, 0⟩ (fun s c => complete (closeSession s (cmdSid s c) 3) c stOk 0 []) ∧
  OmiOf .readFaults ⟨0x1D, .basic, inA, 4, 4⟩ readFaults ∧
  OmiOf .readJournal ⟨0x1E, .basic, inA, 8, 8⟩ readJournal ∧
  OmiOf .ackJournal ⟨0x1F, .basic, inA, 4, 4⟩ ackJournal ∧
  OmiOf .readStatus ⟨0x20, .basic, inA, 0, 0⟩ (fun s c => complete s c stOk 0
    ([Reg.idState, Reg.schedStat, Reg.schedCycl].map (ioValue s wspReq) ++ [rd s Reg.schedCych] ++
      [Reg.schedOvr, Reg.grvStat, Reg.grvTwstat, Reg.grvQstat, Reg.grvFence, Reg.jrnUsed, Reg.fltStat, Reg.tbStat, Reg.tbOffs,
       Reg.shrStat, Reg.pwrVstat, Reg.imgSafeout].map (ioValue s wspReq))) ∧
  OmiOf .loadBegin ⟨0x21, .basic, inA, 8, 8⟩ loadBegin ∧
  OmiOf .loadData ⟨0x22, .basic, inA, 8, 1008⟩ loadData ∧
  OmiOf .loadEnd ⟨0x23, .basic, inA, 4, 4⟩ loadEnd ∧
  OmiOf .loadCancel ⟨0x24, .basic, inA, 0, 0⟩ (fun s c => complete (freeObj s c) c stOk 0 []) ∧
  (∀ (s : State) (h : Chan), (myTurn s h.val = true → (∀ r ∈ omiBasic ++ omiExpert, r.code ≠ cmdCode s h.val) →
    exec (.unknownCommand h) s = .next (complete s h.val stUnknown 0 []))) ∧
  (∀ (s : State) (c n reason : Nat) (data : List Word), c < 8 → n < 256 → reason < 256 → data.length < 253 →
    let t := complete s c n reason data
    let rsp (i : Nat) : Word := Sparse.get 0#32 (chan t c).rsp i
    (chan t c).st = 2 ∧ (chan t c).abt = false ∧ rsp 0 = cmdW s c 0 ∧ fld (rsp 1) 7 0 = n ∧ fld (rsp 1) 15 8 = reason ∧
    fld (rsp 1) 31 16 = 4 * data.length ∧ rsp 2 = hseqOf s c ∧ rsp 3 = 0 ∧ (∀ i, i < data.length → rsp (4 + i) = nth data i) ∧
    (∀ d, d ≠ c → chan t d = chan s d) ∧ bit (hostRd t offHintstat) c = true ∧ c ∉ t.goQ ∧ waitsOn t c = false ∧
    t.io = s.io ∧ t.mem = s.mem ∧ t.engs = s.engs) ∧
  (∀ (s : State) (c : Nat), let p := param s c 0
    let ok := p &&& 0xF000FFFE#32 = 0 ∧ fld p 27 16 ≤ 3600
    (¬ ok → openSession s c = complete s c stBadParam 0 []) ∧
    (ok → (∀ b ∈ omiKey s (bit p 0), b = 0) → openSession s c = complete s c stNotAuth 0 []) ∧
    (ok → (∃ b ∈ omiKey s (bit p 0), b ≠ 0) → 8 ≤ s.sessions.length → openSession s c = complete s c stBusy 0 []) ∧
    (ok → (∃ b ∈ omiKey s (bit p 0), b ≠ 0) → s.sessions.length < 8 → ∃ l x, (openSession s c).sessions = l ++ [x] ∧
      l.length = s.sessions.length ∧ 1 ≤ x.sid ∧ x.sid ≤ 0xFFFF ∧ x.master = (chan s c).master ∧ x.expert = bit p 0 ∧ x.authed = false ∧
      x.timeout = (if fld p 27 16 = 0 then 60 else fld p 27 16) ∧ x.lastUse = s.tb.now ∧ x.obj = none ∧
      x.nonce = [lo32 s.tb.now, hi32 s.tb.now, rd s Reg.idBootcnt, s.openCnt + 1] ∧ (openSession s c).openCnt = s.openCnt + 1)) ∧
  (∀ (s : State) (c : Nat) x, sessionOf s c = some x → let t := authSession s c
    let m := (chan s c).master
    let mac := hmac256 (omiKey s x.expert) (authMsg x)
    (mac = wordsBytes (params s c 8) → (∃ y ∈ t.sessions, y.sid = x.sid ∧ y.authed = true ∧ y.lastUse = s.tb.now) ∧
      Sparse.get 0 t.authFail m = 0) ∧
    (mac ≠ wordsBytes (params s c 8) → (∀ y ∈ t.sessions, y.sid ≠ x.sid) ∧
      (Sparse.get 0 s.authFail m < 2 → Sparse.get 0 t.authFail m = Sparse.get 0 s.authFail m + 1) ∧
      (2 ≤ Sparse.get 0 s.authFail m → Sparse.get none t.authLock m = some (s.tb.now + 1000000000)))) ∧
  (∀ (s : State) (h : Chan), lockedOut s (38 + h.val) = false →
    exec (.authLockoutEnd h) s = .next { s with authLock := Sparse.set none s.authLock (38 + h.val) none }) ∧
  (∀ (s : State) (k : BitVec 16) x, (s.sessions.find? fun y => decide (y.sid = k.toNat)) = some x → omiFull s = true → s.evq.length < 32 →
    (∀ c, c < 8 → (chan s c).st = 1 → x.isOf s c = false) →
    let ends (arg : Nat) : State := { s with
      sessions := s.sessions.filter fun y => decide (y.sid ≠ k.toNat)
      evq := s.evq ++ [BitVec.ofNat 32 (0x80000005 + 0x100 * arg + 0x10000 * (k.toNat % 0x8000))] }
    (x.authed = true → x.lastUse.toNat + x.timeout * 1000000000 ≤ s.tb.now.toNat → exec (.sessionTimeout k) s = .next (ends 1)) ∧
    (x.authed = true → s.tb.now.toNat < x.lastUse.toNat + x.timeout * 1000000000 → exec (.sessionTimeout k) s = .next s) ∧
    (x.authed = false → x.lastUse.toNat + 1000000000 ≤ s.tb.now.toNat → exec (.authTimeout k) s = .next (ends 2))) ∧
  (∀ (s t : State) (c : Nat), let n := fld (param s c 0) 30 0
    let rs := s.flt.take n
    (31 < n → readFaults s c = complete s c stLength 0 []) ∧ (n = 0 → readFaults s c = complete s c stBadParam 0 []) ∧
    (n ≠ 0 → n ≤ 31 → (bit (param s c 0) 31 = false ∨ s.flt = []) → readFaults s c = complete s c stOk 0 rs.flatten) ∧
    (∀ r, n ≠ 0 → n ≤ 31 → bit (param s c 0) 31 = true → rs.getLast? = some r → wspPut s Reg.fltAck (nth r 6) = .done t →
      readFaults s c = complete t c stOk 0 rs.flatten)) ∧
  (∀ (s t : State) (c : Nat), let q := param s c 0
    let n := (param s c 1).toNat
    (31 < n → readJournal s c = complete s c stLength 0 []) ∧
    (n ≤ 31 → (n = 0 ∨ jrnUsedN s < (q - rd s Reg.jrnTail).toNat + n) → readJournal s c = complete s c stBadParam 0 []) ∧
    (n ≤ 31 → n ≠ 0 → (q - rd s Reg.jrnTail).toNat + n ≤ jrnUsedN s →
      (∀ ws, journalWords s q n = (t, some ws) → readJournal s c = complete t c stOk 0 ws) ∧
      (journalWords s q n = (t, none) → readJournal s c = complete t c stAborted 0 [])) ∧
    (∀ u ws r v, readWords s 63 (jrnSlot q) 32 8 = (u, some ws) → journalWords u (q + 1) n = (v, some r) →
      journalWords s q (n + 1) = (v, some (ws ++ r))) ∧
    (wspPut s Reg.jrnAck q = .done t → ackJournal s c = complete t c stOk 0 []) ∧
    (wspPut s Reg.jrnAck q = .refused t → ackJournal s c = complete t c stBadParam 0 [])) ∧
  (∀ (s t : State) (c : Nat), let k := (param s c 0).toNat
    let n := (param s c 1).toNat
    (k = 0 ∨ 5 < k → loadBegin s c = complete s c stBadParam 0 []) ∧
    (∀ el most, ((k, el, most) = (1, 32, 2048) ∨ (k, el, most) = (2, 16, 8192) ∨ (k, el, most) = (3, 16, 16384) ∨
        (k, el, most) = (4, 8, 32768) ∨ (k, el, most) = (5, 12, 49152)) →
      (most < n → loadBegin s c = complete s c stLength 0 []) ∧
      (n ≤ most → (n = 0 ∨ n % el ≠ 0) → loadBegin s c = complete s c stBadParam 0 []) ∧
      (n ≤ most → n ≠ 0 → n % el = 0 → (objOf s c).isSome = true → loadBegin s c = complete s c stBusy 0 []) ∧
      (n ≤ most → n ≠ 0 → n % el = 0 → objOf s c = none → ∀ b, stageFree s (n / 4) = some b →
        loadBegin s c = complete (putObj s c ⟨k, n, b, false⟩) c stOk 0 [])) ∧
    (∀ o, objOf s c = some o → let d := cmdLen s c / 4 - 1
      let ws := (params s c (d + 1)).drop 1
      (o.total < k + 4 * d → loadData s c = complete s c stLength 0 []) ∧
      (k + 4 * d ≤ o.total → k % 4 ≠ 0 → loadData s c = complete s c stBadParam 0 []) ∧
      (k + 4 * d ≤ o.total → k % 4 = 0 → wspTarnWrite s 61 (stageBase + o.base + k / 4) ws = (t, true) →
        loadData s c = complete (putObj t c { o with passed := false }) c stOk 0 []) ∧
      ∀ ws, objWords s o = (t, some ws) →
        (crc32c ws = param t c 0 → loadEnd s c = complete (putObj t c { o with passed := true }) c stOk 0 []) ∧
        (crc32c ws ≠ param t c 0 → loadEnd s c = complete t c stBadParam 0 [])))

/-- R26, R61, R95, R96, R110, R237, R243, R247, R249, R261, R265, R268, R270, R278, R307, R310, R396, R409, R433 to R438, R457: the
management commands that configure. Each makes its writes in order up to the first that is refused: a full journal answers
JOURNAL_FULL, a register's refusal BAD_STATE with its code. Reserved bits and missing objects are bad parameters (log 39, log 40). -/
def Obligations.ConfigurationCommands : Prop :=
  let writes (out : State) (c : Nat) (s : State) (ws : List (Nat × Word)) (reason : State → Nat) (fin : State → State) : Prop :=
    ∀ t, (omiWrites s ws = (t, .done) → out = fin t) ∧ (omiWrites s ws = (t, .full) → out = complete t c stJournal 0 []) ∧
      (omiWrites s ws = (t, .refused) → out = complete t c stBadState (reason t) [])
  let regs (run : State → Nat → State) (ok : State → Nat → Bool) (ws : State → Nat → List (Nat × Word)) : Prop := ∀ s c,
    (ok s c = false → run s c = complete s c stBadParam 0 []) ∧
    (ok s c = true → writes (run s c) c s (ws s c) (fun _ => 0) fun t => complete t c stOk 0 [])
  let p (s : State) (c i : Nat) : Nat := (param s c i).toNat
  OmiOf .setProfile ⟨0x10, .basic, inCM, 4, 4⟩ setProfile ∧ OmiOf .appDefine ⟨0x11, .basic, inA, 52, 52⟩ appDefine ∧
  OmiOf .appRemove ⟨0x12, .basic, inA, 4, 4⟩ appRemove ∧ OmiOf .scheduleSet ⟨0x13, .basic, inCRSM, 8, 8⟩ scheduleSet ∧
  OmiOf .filterSet ⟨0x14, .basic, inA, 12, 12⟩ filterSet ∧ OmiOf .routesSet ⟨0x15, .basic, inA, 4, 4⟩ routesSet ∧
  OmiOf .itemsSet ⟨0x16, .basic, inA, 12, 12⟩ itemsSet ∧ OmiOf .start ⟨0x17, .basic, inC, 4, 4⟩ startCmd ∧
  OmiOf .switchover ⟨0x18, .basic, inR, 4, 4⟩ switchCmd ∧ OmiOf .safeHold ⟨0x19, .basic, inA, 0, 0⟩ safeHoldCmd ∧
  OmiOf .editStage ⟨0x1A, .basic, inRT, 8, 8⟩ editStage ∧ OmiOf .editCommit ⟨0x1B, .basic, inR, 8, 8⟩ editCommit ∧
  OmiOf .editAbort ⟨0x1C, .basic, inR, 4, 4⟩ editAbort ∧ OmiOf .maintEnter ⟨0x40, .expert, inCTS, 0, 0⟩ maintEnter ∧
  OmiOf .maintLeave ⟨0x41, .expert, [.maintenance], 0, 0⟩ (fun s c => complete (setDev s .config 4) c stOk 0 []) ∧
  OmiOf .safeClear ⟨0x42, .expert, [.safeHold], 0, 0⟩ safeClear ∧ OmiOf .setAccess ⟨0x43, .expert, inA, 12, 12⟩ setAccess ∧
  OmiOf .setRegion ⟨0x44, .expert, inCM, 16, 16⟩ setRegion ∧ OmiOf .groveMode ⟨0x45, .expert, inA, 12, 12⟩ groveMode ∧
  OmiOf .fence ⟨0x46, .expert, inA, 4, 4⟩ (fun s c => omiPuts s c [(Reg.grvFence, param s c 0)]) ∧
  (∀ pass, OmiOf (fun h => .unfence h pass) ⟨0x47, .expert, inA, 4, 4⟩ (unfenceCmd · · pass)) ∧
  OmiOf .twinBind ⟨0x48, .expert, inCSM, 4, 4⟩ (fun s c => omiRegs s c [(Reg.grvTwctl, param s c 0)]) ∧
  OmiOf .ringConfig ⟨0x49, .expert, inCSM, 24, 24⟩ ringConfig ∧ OmiOf .timeConfig ⟨0x4A, .expert, inCSM, 36, 36⟩ timeConfig ∧
  OmiOf .tarnConfig ⟨0x4B, .expert, inA, 8, 488⟩ tarnConfig ∧
  OmiOf .cvuConfig ⟨0x4C, .expert, inCSM, 8, 8⟩
    (fun s c => omiRegs s c [(Reg.cvuVcfg, param s c 0), (Reg.icuPrigrp, param s c 1)]) ∧
  OmiOf .icuConfig ⟨0x4D, .expert, inA, 12, 12⟩ icuConfig ∧ OmiOf .wdConfig ⟨0x57, .expert, inA, 72, 72⟩ wdConfig ∧
  (∀ s : State, omiWrites s [] = (s, .done)) ∧
  (∀ (s t : State) a v r, (wspPut s a v = .done t → omiWrites s ((a, v) :: r) = omiWrites t r) ∧
    (wspPut s a v = .full t → omiWrites s ((a, v) :: r) = (t, .full)) ∧
    (wspPut s a v = .refused t → omiWrites s ((a, v) :: r) = (t, .refused))) ∧
  regs (fun s c => omiPuts s c [(Reg.grvFence, param s c 0)]) (fun _ _ => true) (fun s c => [(Reg.grvFence, param s c 0)]) ∧
  (let good (ws : State → Nat → List (Nat × Word)) (s : State) (c : Nat) : Bool := !strayWrites (ws s c)
   let reg (run : State → Nat → State) (lim : State → Nat → Bool) (ws : State → Nat → List (Nat × Word)) : Prop :=
     regs run (fun s c => lim s c && good ws s c) ws
   regs setAccess (fun s c => decide (p s c 0 < 0x100 ∧ p s c 1 < 64 ∧ p s c 2 < 0x10000))
     (fun s c => [(Reg.actTsel, param s c 0), (Reg.actEnt + p s c 1 / 2,
       let e := BitVec.ofNat 16 (p s c 2)
       if p s c 1 % 2 = 0 then actEntry s (p s c 0) (p s c 1 + 1) ++ e else e ++ actEntry s (p s c 0) (p s c 1 - 1))]) ∧
   reg setRegion (fun s c => decide (p s c 0 < 16)) (fun s c =>
     [(Reg.actRbase + 2 * p s c 0, param s c 1), (Reg.actRlim + 2 * p s c 0, param s c 2), (Reg.cmxRattr + p s c 0, param s c 3)]) ∧
   reg groveMode (fun s c => decide (p s c 0 < 16)) (fun s c =>
     [(Reg.grvMode + p s c 0, param s c 1), (Reg.cmxPond + p s c 0, param s c 2)]) ∧
   reg (fun s c => omiRegs s c [(Reg.grvTwctl, param s c 0)]) (fun _ _ => true) (fun s c => [(Reg.grvTwctl, param s c 0)]) ∧
   reg ringConfig (fun _ _ => true) (fun s c => [(Reg.shrNode, param s c 0), (Reg.shrCtl, param s c 1), (Reg.grvQw, param s c 2),
     (Reg.grvQw + 1, param s c 3), (Reg.grvQw + 2, param s c 4), (Reg.grvQw + 3, param s c 5)]) ∧
   reg (fun s c => omiRegs s c [(Reg.cvuVcfg, param s c 0), (Reg.icuPrigrp, param s c 1)]) (fun _ _ => true)
     (fun s c => [(Reg.cvuVcfg, param s c 0), (Reg.icuPrigrp, param s c 1)]) ∧
   reg icuConfig (fun s c => decide (p s c 0 < 256)) (fun s c =>
     [(Reg.icuSrc + p s c 0, param s c 1), (Reg.icuHold + p s c 0 / 8, param s c 2)]) ∧
   reg timeConfig (fun s c => decide (p s c 8 < 256)) (fun s c =>
     ([0, 1, 2, 3, 4, 5, 6, 7].filter fun i => bit (param s c 8) i).map fun i =>
       ([Reg.tbCtl, Reg.tbSetl, Reg.tbSeth, Reg.schedMcyc, Reg.schedGap, Reg.schedAgrto, Reg.schedEpochl, Reg.schedEpochh].getD i 0,
        param s c i)) ∧
   ∀ s c k, cmdLen s c = 8 + 8 * k → (∀ i, i < k → p s c (2 + 2 * i) ≤ 63) →
     let ws := [(Reg.tarnScrub, param s c 0), (Reg.tarnRet, param s c 1)] ++
       (List.range k).map fun i => (Reg.tarnOwn + p s c (2 + 2 * i), param s c (3 + 2 * i))
     strayWrites ws = false → writes (tarnConfig s c) c s ws (fun _ => 0) fun t => complete t c stOk 0 []) ∧
  (∀ s c, (p s c 0 < 16 → writes (unfenceCmd s c true) c s [(Reg.grvUnfence, BitVec.ofNat 32 (2 ^ p s c 0))] (fun _ => 0)
      fun t => complete t c stOk 0 []) ∧
    (p s c 0 < 16 → ∃ t, unfenceCmd s c false = complete t c stBadState 0x1A [] ∧
      (s.flt.length < 64 → ∃ r, t.flt = s.flt ++ [r] ∧ fld (nth r 0) 7 0 = 0x1A ∧ fld (nth r 0) 30 27 = p s c 0)) ∧
    (0x10000 ≤ p s c 0 ∨ 256 ≤ p s c 17 ∨ (∃ i, i < 16 ∧ 64 ≤ p s c (1 + i)) → wdConfig s c = complete s c stBadParam 0 []) ∧
    (p s c 0 < 0x10000 → (∀ i, i < 16 → p s c (1 + i) < 64) → p s c 17 < 256 →
      let ws := ((List.range 16).filter fun k => bit (param s c 0) k).map fun k => (Reg.wdiCfg + k, param s c (1 + k))
      (p s c 17 = 0 → writes (wdConfig s c) c s ws (fun _ => 0) fun t => complete t c stOk 0 []) ∧
      (∀ t, p s c 17 ≠ 0 → omiWrites s ws = (t, .done) →
        writes (wdConfig s c) c t [(Reg.wdiSet, param s c 17)] (fun _ => 8) fun u => complete u c stOk 0 []))) ∧
  (∀ s c, let k := p s c 0
    (2 < k → setProfile s c = complete s c stBadParam 0 []) ∧
    (∀ t, k ≤ 2 → grantAll s ((List.range 0xC2).map fun t => ⟨t, [19, 20, 21, 22], fun _ => true, fun _ => BitVec.ofNat 16 (profileNib s k t)⟩)
      = (t, .done) → setProfile s c = complete t c stOk 0 []) ∧
    (∀ t, profileNib s 0 t = 0 ∧ (k ≠ 0 → 0x50 ≤ t → t ≤ 0x60 → t ≠ 0x56 → t ≠ 0x5F → profileNib s k t = needR)) ∧
    (∀ t, k ≠ 0 → t < 64 → profileNib s k t = (if ∃ a ∈ enabledAny s, t ∈ sidesOf s a ++ markersOf s a then needR else 0) +
      if k = 2 ∧ ∃ a ∈ enabledAny s, t ∈ sidesOf s a ++ markersOf s a ∧ auxApp s a = true then needW else 0)) ∧
  (∀ (s : State) c, let k := p s c 0
    let fits := param s c 1 &&& 0xFFFFC001#32 = 0 ∧ p s c 4 < 2
    let ws (a : Nat) : List (Nat × Word) :=
      [(Reg.schedSlota + a, param s c 2), (Reg.schedSlotb + a, param s c 3), (Reg.schedAslot, putBit (rd s Reg.schedAslot) a (bit (param s c 4) 0)),
       (Reg.imgInt + a, param s c 5), (Reg.imgInl + a, param s c 6), (Reg.imgOutt + a, param s c 7), (Reg.imgOutl + a, param s c 8),
       (Reg.imgMrkt + a, param s c 9), (Reg.imgMrkl + a, param s c 10), (Reg.imgRet + a, param s c 11), (Reg.imgSafe + a, param s c 12)]
    (k = 0xFF → (∀ a, a < 32 → isDef s a = true) → appDefine s c = complete s c stAppLimit 0 []) ∧
    (∀ a, (k = a ∧ k ≠ 0xFF ∨ k = 0xFF ∧ a < 32 ∧ isDef s a = false ∧ ∀ b, b < a → isDef s b = true) →
      (31 < a ∨ ¬ fits ∨ strayWrites (ws a) = true → appDefine s c = complete s c stBadParam 0 []) ∧
      (a ≤ 31 → fits → strayWrites (ws a) = false → appEither s a = true → ∀ t, omiWrites s [(Reg.imgInt + a, param s c 5)] = (t, .refused) →
        appDefine s c = complete t c stBadState (imgErr t) []) ∧
      (a ≤ 31 → fits → strayWrites (ws a) = false → appEither s a = false → ∀ t,
        (omiWrites s (ws a) = (t, .refused) → appDefine s c = complete t c stBadState (imgErr t) []) ∧
        (omiWrites s (ws a) = (t, .done) → ∀ u,
          let d := { t with defs := Sparse.set none t.defs a (some (param s c 1)) }
          grantAll d (appGrants d a (bit (param s c 1) 1)) = (u, .done) → appDefine s c = complete u c stOk 0 [BitVec.ofNat 32 a]))) ∧
    (31 < k → appRemove s c = complete s c stBadParam 0 []) ∧
    (k ≤ 31 → appEither s k = true → appRemove s c = complete s c stBadState 0 []) ∧
    (∀ t, k ≤ 31 → appEither s k = false → omiWrites s ([Reg.imgInl, Reg.imgOutl, Reg.imgMrkl, Reg.imgRet, Reg.imgInt, Reg.imgOutt,
        Reg.imgMrkt, Reg.imgSafe].map fun r => (r + k, 0#32)) = (t, .done) →
      appRemove s c = complete { t with defs := Sparse.set none t.defs k none } c stOk 0 [])) ∧
  (∀ (s : State) c, (passedObj s c 1 = none → scheduleSet s c = complete s c stBadParam 0 []) ∧
    (∀ o t ws, passedObj s c 1 = some o → objWords s o = (t, some ws) →
      let swap := bit (param s c 0) 0
      let lead := fld (param s c 0) 15 8
      let b := !aBank t
      let bad := param s c 0 &&& 0xFFFF00FE#32 ≠ 0 ∨ (swap = true ∧ lead < 2) ∨ strayTable entMasks ws = true ∨
        ∃ a, a < 32 ∧ bit (param s c 1) a = true ∧ isDef t a = false
      (bad → scheduleSet s c = complete t c stBadParam 0 []) ∧
      (¬ bad → swap = true → t.twin.joining = true → scheduleSet s c = complete t c stBusy 0 []) ∧
      (¬ bad → swap = true → t.twin.joining = false → schedOn t = false → scheduleSet s c = complete t c stBadState 0 []) ∧
      (¬ bad → swap = false → (schedOn t = true ∨ t.dev = .safeHold) → scheduleSet s c = complete t c stBadState 0 []) ∧
      (¬ bad → swap = true → t.twin.joining = false → schedOn t = true → swapPend t = true → scheduleSet s c = complete t c stBusy 0 []) ∧
      (∀ u, ¬ bad → omiWrites t ((Reg.schedCtl, ctlWord t b) :: bankWrites t (param s c 1) ws) = (u, .done) →
        (∀ v, swap = false → schedOn t = false → t.dev ≠ .safeHold → omiWrites u [(Reg.schedCtl, ctlWord u b ||| 1#32)] = (v, .done) →
          (schedOn v = true → scheduleSet s c = complete (freeObj v c) c stOk 0
            [lo32 (BitVec.ofNat 64 (nextCyc v)), hi32 (BitVec.ofNat 64 (nextCyc v))]) ∧
          (schedOn v = false → scheduleSet s c = complete v c stBadParam (rf v Reg.schedStat 7 4) (cfgData v))) ∧
        (swap = true → t.twin.joining = false → schedOn t = true → swapPend t = false →
          let d := BitVec.ofNat 64 (swapCycle u (cycNow u + lead))
          ∀ v x, omiWrites u [(Reg.schedSwapl, lo32 d), (Reg.schedSwaph, hi32 d)] = (v, .done) → swapsWithTwin v = false →
            omiWrites v [(Reg.schedCtl, ctlWord v b ||| 8#32)] = (x, .done) →
            (swapPend x = true → scheduleSet s c = complete (freeObj x c) c stOk 0 [lo32 d, hi32 d]) ∧
            (swapPend x = false → scheduleSet s c = complete x c stBadParam (rf x Reg.schedStat 7 4) (cfgData x)))))) ∧
  (∀ (s : State) c o t ws u, let x := p s c 0
    let y := p s c 1
    let z := p s c 2
    let placed (kind tn off : Nat) (masks : List Word) : Prop := passedObj s c kind = some o ∧ off + o.total / 4 ≤ 0x8000 ∧
      tarnUp s tn = true ∧ objWords s o = (t, some ws) ∧ strayTable masks ws = false ∧ wspTarnWrite t tn off ws = (u, true)
    (15 < x ∨ itTarnOk y = false ∨ 0x7FFF < z → filterSet s c = complete s c stBadParam 0 []) ∧
    (x ≤ 15 → itTarnOk y = true → z ≤ 0x7FFF → placed 2 y z filterMasks →
      writes (filterSet s c) c u [(Reg.attFlt + x, BitVec.ofNat 32 (y + z * 2 ^ 6 + ws.length / 4 * 2 ^ 21))] (fun _ => 0)
        fun v => complete (freeObj v c) c stOk 0 []) ∧
    (0x7FFF < x → routesSet s c = complete s c stBadParam 0 []) ∧
    (∀ v w, x ≤ 0x7FFF → placed 3 61 x routeMasks → omiWrites u [(Reg.imgRtbl, BitVec.ofNat 32 (x + ws.length / 4 * 2 ^ 15))] = (v, .done) →
      (routeDecide v = (w, true) → routesSet s c = complete (freeObj w c) c stOk 0 []) ∧
      (routeDecide v = (w, false) → routesSet s c = complete w c stBadParam (imgErr w) [])) ∧
    (∀ v w, itTarnOk x = true → y ≤ 0x7FFF → z ≤ 63 → placed 4 x y itemMasks →
      omiWrites u [(Reg.shrItbl, BitVec.ofNat 32 (x + y * 2 ^ 6))] = (v, .done) →
      let n := BitVec.ofNat 32 (ws.length / 2 + z * 2 ^ 13)
      omiWrites v [(Reg.shrItcnt, n)] = (w, .done) →
      ((itemDecide v n).2 = true → itemsSet s c = complete (freeObj w c) c stOk 0 []) ∧
      ((itemDecide v n).2 = false → itemsSet s c = complete w c stBadParam (itErr w) []))) ∧
  (∀ (s : State) c, let k := p s c 0
    (2 < k → startCmd s c = complete s c stBadParam 0 []) ∧
    (k ≤ 2 → (k = 0 ↔ bound s = true) → startCmd s c = complete s c stBadState 0 []) ∧
    (k ≤ 2 → ¬ (k = 0 ↔ bound s = true) → joinWaits s = false → ringEn s = true → ringAdmitted s = false →
      startCmd s c = if rf s Reg.shrStat 25 24 = 1 then complete s c stNodeExcess 0 [] else complete s c stBadState 0 []) ∧
    (k < 2 → ¬ (k = 0 ↔ bound s = true) → joinWaits s = false → (ringEn s = false ∨ ringAdmitted s = true) →
      startCmd s c = complete (setDev s .run 4) c stOk 0 []) ∧
    (k = 2 → bound s = true → joinWaits s = false → (ringEn s = false ∨ ringAdmitted s = true) →
      (joinFit s = false → startCmd s c = complete s c stBadState 0 []) ∧
      (joinFit s = true → (reachSet s).contains (twNode s) = true → ∃ t, startCmd s c = mgmtSend t 7
        [jcWord jcRequest 0 true, joinDigest s, BitVec.ofNat 32 (twNode s)] ∧ t.waits = s.waits ++ [⟨c, .startStandby, none⟩])) ∧
    (k < 2 ∨ 255 < k → switchCmd s c = complete s c stBadParam 0 []) ∧
    (2 ≤ k → k ≤ 255 → s.twin.joining = true → switchCmd s c = complete s c stBusy 0 []) ∧
    (2 ≤ k → k ≤ 255 → s.twin.joining = false → (bound s && s.twin.live && inStep s) = false → switchCmd s c = complete s c stBadState 0 []) ∧
    (2 ≤ k → k ≤ 255 → s.twin.joining = false → (bound s && s.twin.live && inStep s) = true →
      (editBusy s || s.waits.any (·.isTwin) || s.twin.armed.isSome) = false →
      let d := BitVec.ofNat 64 (cycNow s + k)
      ∃ t, switchCmd s c = mgmtSend t 4 [lo32 d, hi32 d, 0, 0] ∧ t.waits = s.waits ++ [⟨c, .switchover d, none⟩] ∧ t.twin.prep = some d) ∧
    (s.dev = .safeHold → safeHoldCmd s c = complete s c stOk 0 []) ∧
    ((s.dev = .config ∨ s.dev = .run ∨ s.dev = .tracking ∨ s.dev = .maintenance) → s.bnd.phase = .idle →
      ∃ t, safeHoldCmd s c = complete t c stOk 0 [] ∧ t.dev = .safeHold ∧ t.cause = 4 ∧ ∀ a, a < 32 → (app t a).active = false) ∧
    (let held := rb s Reg.wdiStat 2 = true ∨ rb s Reg.pwrVstat 4 = true
     (held → safeClear s c = complete s c stBadState 0 [] ∧ (s.dev = .safeHold → maintEnter s c = complete s c stBadState 0 [])) ∧
     (¬ held → safeClear s c = complete (setDev s .config 4) c stOk 0 []) ∧
     (¬ held ∨ s.dev ≠ .safeHold → s.dev ≠ .maintenance → s.bnd.phase = .idle → ∃ t, maintEnter s c = complete t c stOk 0 [] ∧
       t.dev = .maintenance ∧ t.cause = 4 ∧ (s.twin.live = true → t.twin.live = false)))) ∧
  (∀ (s : State) c, let a := p s c 0
    let q := p s c 1
    (31 < a ∨ 1 < q → editStage s c = complete s c stBadParam 0 []) ∧
    (a ≤ 31 → q ≤ 1 → (s.twin.joining || editBusy s) = true → editStage s c = complete s c stBusy 0 []) ∧
    (a ≤ 31 → q ≤ 1 → (s.twin.joining || editBusy s) = false → ∀ t u n,
      (objOf s c = none ∧ u = s ∧ n = 0 ∨ ∃ o v ws, objOf s c = some o ∧ o.kind = 5 ∧ o.passed = true ∧ objWords s o = (v, some ws) ∧
        wspTarnWrite v 61 migBase ws = (u, true) ∧ n = ws.length / 3) →
      (∀ r, editCheck u a (decide (q = 1)) migBase n none = (t, .error r) → editStage s c = complete t c (editStatus r) r []) ∧
      (∀ st, editCheck u a (decide (q = 1)) migBase n none = (t, .ok st) →
        ∃ v, editStage s c = complete v c stOk 0 [BitVec.ofNat 32 st.t5] ∧ v.edit.staged = some st)) ∧
    (31 < a ∨ q < 2 ∨ 255 < q → editCommit s c = complete s c stBadParam 0 []) ∧
    (a ≤ 31 → 2 ≤ q → q ≤ 255 → (s.twin.joining || editBusy s) = true → editCommit s c = complete s c stBusy 0 []) ∧
    (a ≤ 31 → 2 ≤ q → q ≤ 255 → (s.twin.joining || editBusy s) = false →
      ((bound s && s.twin.live) = false → editCommit s c = complete s c stBadState 0 []) ∧
      ((bound s && s.twin.live) = true → (∀ st, s.edit.staged = some st → st.app ≠ a) → editCommit s c = complete s c stBadState 1 []) ∧
      (∀ st b t u r h, (bound s && s.twin.live) = true → s.edit.staged = some st → st.app = a → bankNow s = some b →
        let k := appPer s b a
        let n := (cycNow s + q + k - 1) / k * k
        (recheck s st false n = (t, .error r) → editCommit s c = complete t c (editStatus r) r []) ∧
        (∀ st2, recheck s st false n = (t, .ok st2) → pendHeader t a = (u, some h) →
          ∃ v, editCommit s c = mgmtSend v 1 (prepWords ((u.edit.eid.toNat + 1) % 65536) n false h st2) ∧
            v.waits = u.waits ++ [⟨c, .edit a (BitVec.ofNat 64 n) false, none⟩] ∧ v.edit.staged = some st2))) ∧
    (31 < a → editAbort s c = complete s c stBadParam 0 []) ∧
    (a ≤ 31 → s.twin.joining = true → editAbort s c = complete s c stBusy 0 []) ∧
    (a ≤ 31 → s.twin.joining = false → (edArmed s = false ∨ edApp s ≠ a) → editAbort s c = complete s c stBadState 0 []) ∧
    (∀ t, a ≤ 31 → s.twin.joining = false → edArmed s = true → edApp s = a → s.bnd.phase = .idle →
      omiWrites s [(Reg.schedEdctl, putBit (rd s Reg.schedEdctl) 5 false)] = (t, .done) →
      editAbort s c = complete (if bound t then mgmtSend t 3 [abrtWord (edEid s) 0x0F] else t) c stOk 0 []))

/-- R26, R282, R446 to R458, R494, R495, R512, R513, R227 to R229: resets, the boot order and the firmware commands. A reset source sets
its bit of ID_RSTSRC and leaves the time, FLT_CKSTAT, the debug registers and memory in place. Each boot step runs in its order; a
failure ends in Safe Hold with CAUSE 0x03 and its FAIL code. The flash ANDs programmed bits (log 28); after ERR the sector is open.
What the tarns hold after a power loss is the model's (log 2); the regions of the boot area too (log 29). -/
def Obligations.ResetBootFirmware : Prop :=
  let p (s : State) (c i : Nat) : Nat := (param s c i).toNat
  let failed (t : State) (n : Nat) : Prop := t.dev = .safeHold ∧ t.cause = 3 ∧ rf t Reg.idBoot 19 16 = n
  (∀ s : State, s.flash = none →
    (∃ t, exec .aonPowerUp s = .next t ∧ t.dev = .reset ∧ t.io = State.reset.io ∧ t.host = [] ∧ t.dbg = [] ∧ t.engs = [] ∧
      t.tb = State.tbReset ∧ t.flt = [] ∧ t.sessions = [] ∧ t.mem = s.mem ∧ t.pending = s.pending) ∧
    (∃ t, exec .powerRemoval s = .next t ∧ t.dev = .off ∧ (∀ a, a < 0x80000000 → byteAt t a = byteAt s a) ∧
      (∀ a, 0x80000000 ≤ a → byteAt t a = 0) ∧ t.pending = s.pending) ∧
    (∀ r, s.dev = .off → exec (.resetAssert r) s = .next s) ∧
    (∀ r k, s.dev ≠ .off → (r, k) ∈ [(RstSrc.pin, 1), (.clock, 2), (.cmd, 3), (.debug, 4)] →
      ∃ t, exec (.resetAssert r) s = .next t ∧ t.dev = .reset ∧ rb t Reg.idRstsrc k = true ∧
        (s.dev ≠ .reset → rd t Reg.idRstsrc = BitVec.ofNat 32 (2 ^ k) ∧ t.cause = 1 ∧ t.prevDev = BitVec.ofNat 4 s.dev.code) ∧
        t.tb.now = s.tb.now ∧ rd t Reg.fltCkstat = rd s Reg.fltCkstat ∧ t.dbg = s.dbg ∧ t.dbgSt = s.dbgSt ∧ t.mem = s.mem ∧
        t.host = [] ∧ t.flt = [] ∧ t.sessions = [] ∧ t.evq = [] ∧ (∀ c, chan t c = State.mbxReset) ∧ t.pending = s.pending) ∧
    (s.dev ≠ .off → ∃ t, exec (.resetAssert .por) s = .next t ∧ t.dev = .reset ∧ rd t Reg.idRstsrc = 1 ∧ t.dbg = [] ∧ t.tb.now = 0)) ∧
  (∀ (s : State) w, s.dev = .reset → s.rstSrc ≠ 0 → exec (.resetRelease w) s = .next (sb { s with rstSrc := 0 } Reg.grvQstat 17 w)) ∧
  (∀ (s : State) ws, s.dev = .reset → s.rstSrc = 0 → ∃ t, exec (.fuseLoad ws) s = .next t ∧ t.fuseDone = true ∧ t.boot.step = 2 ∧
    rf t Reg.idBoot 6 4 = 2 ∧ (rb s Reg.pwrVstat 4 = false → t.dev = .boot) ∧ (rb s Reg.pwrVstat 4 = true → t.dev = .safeHold ∧ t.cause = 9) ∧
    (eng t 32).run = .running ∧ (eng t 32).pc = 0xA0000000 ∧
    ∀ i, i < 328 → ¬ (0x10C ≤ i ∧ i ≤ 0x10F) → ¬ (0x11C ≤ i ∧ i ≤ 0x11F) → fuseWord t i =
      match ws[i]? with
      | some f => if f.err then (if i = 0x108 ∨ i = 0x109 then 0xFFFF else 0) else f.data
      | none => if i = 0x108 ∨ i = 0x109 then 0xFFFF else 0) ∧
  (∀ s : State, s.dev = .boot → s.boot.step = 2 → exec .commitRecordRead s = .next (bootStep (readRecord (bootRegions s)) 3)) ∧
  (∀ (s u v : State) a b, readCopy s false = (u, a) → readCopy u true = (v, b) → let r := (readRecord s).boot
    (∀ x y, a = some x → b = some y → (genLater (nth y 1) (nth x 1) = true → r.record = b ∧ r.copyB = true) ∧
      (genLater (nth y 1) (nth x 1) = false → r.record = a ∧ r.copyB = false)) ∧
    (b = none → r.record = a) ∧ (a = none → r.record = b ∧ r.copyB = true)) ∧
  (∀ s : State, s.dev = .boot → s.boot.step = 3 → s.boot.fwLen = 0 →
    let r := (bootRecord s).1
    let order := (bootRecord s).2
    (s.boot.record = none → order = [false, true] ∧ r = ⟨1, 0, 0, 0xFF, 0xFF, 1⟩) ∧
    (∀ x, s.boot.record.map toRec = some x → r.pend = 0xFF ∧ r.bootcnt = x.bootcnt + 1 ∧ r.active = x.active ∧ r.commit = x.commit ∧
      r.trials = x.pend ∧ (x.commit &&& 3 = 0 → order = [false, true]) ∧
      (x.commit &&& 3 = 3 → order = let b := (if x.pend ≠ 0xFF then x.pend else x.active).getLsbD 0; [b, !b])) ∧
    let s2 := if s.boot.record.isNone then sb s Reg.idBoot 3 true else s
    let s3 := wr (recWrite s2 r) Reg.idBootcnt r.bootcnt
    (∀ u, slotFirst s3 order = (u, none) → ∃ t, exec .slotSelection s = .next t ∧ failed t 1) ∧
    (∀ u b im, slotFirst s3 order = (u, some (b, im)) → ∃ t, exec .slotSelection s = .next t ∧ t.dev = u.dev ∧ rb t Reg.idBoot 0 = b ∧
      rb t Reg.idBoot 1 = decide (r.trials = BitVec.ofNat 8 (b2n b)) ∧ rb t Reg.idBoot 2 = decide (order.head? ≠ some b) ∧
      t.boot.fwLen = fwLen im.hdr ∧ rd t Reg.idBootcnt = rd u Reg.idBootcnt)) ∧
  (∀ (s u v : State) b h, flashRead s (slotOff b) 0xA0 = (u, some h) → slotFormat u b h = (v, none) →
    (∀ w, flashRead v (slotOff b + 0xA0) (fwLen h + 96) = (w, none) → slotCheck s b = (w, .error 7)) ∧
    ∀ w body, flashRead v (slotOff b + 0xA0) (fwLen h + 96) = (w, some body) →
      let ct := body.take (fwLen h)
      let sig := body.drop (fwLen h)
      let genuine := sha384 (fwPub h) = fuseBytes w 0x110 12 ∧ sigOk (fwPub h) sig (h ++ ct) = true
      let release := getB h 8 = 3 ∧ getB h 9 = 0
      let fresh := fld (fuseWord w 0x108) 15 0 ≤ leField h 6 2
      let opened := gcmOpen (fuseBytes w 0x128 8) ((h.drop 0x18).take 12) (h.take 0x28 ++ (h.drop 0x40).take 0x60) ((h.drop 0x28).take 16) ct
      (¬ genuine → slotCheck s b = (w, .error 2)) ∧ (genuine → ¬ release → slotCheck s b = (w, .error 3)) ∧
      (genuine → release → ¬ fresh → slotCheck s b = (w, .error 4)) ∧
      (genuine → release → fresh → opened = none → slotCheck s b = (w, .error 5)) ∧
      (∀ code, genuine → release → fresh → opened = some code → slotCheck s b = (w, .ok ⟨h, code⟩))) ∧
  (∀ s : State, s.dev = .boot → s.boot.step = 3 → s.boot.fwLen ≠ 0 → ∀ u h, flashRead s (slotOff (rb s Reg.idBoot 0)) 0xA0 = (u, some h) →
    (fwPcOff h = 0 → fld (fuseWord u 0x109) 15 0 = 0 → exec .patchLoad s = .next (bootStep (patchEnd u 0 0) 4)) ∧
    (fwPcOff h = 0 → fld (fuseWord u 0x109) 15 0 > 0 → exec .patchLoad s = .next (patchFail u 7)) ∧
    (∀ v w p0 q, fwPcOff h ≠ 0 → flashRead u (slotOff (rb s Reg.idBoot 0) + fwPcOff h) 0x30 = (v, some p0) →
      flashRead v (slotOff (rb s Reg.idBoot 0) + fwPcOff h) (min (patchSize p0) (0x40000 - fwPcOff h)) = (w, some q) →
      (∀ c, patchCheck w (fwPub h) q = .error c → exec .patchLoad s = .next (patchFail w c)) ∧
      (∀ ms ws, patchCheck w (fwPub h) q = .ok (ms, ws) → let x := patchWrite w ms ws
        (patchBack x ms ws = true → exec .patchLoad s = .next (bootStep (patchEnd x (leField q 6 2) 1) 4)) ∧
        (patchBack x ms ws = false → exec .patchLoad s = .next (patchFail x 8))))) ∧
  (∀ (s : State) n, s.dev ≠ .safeHold → n < 16 → failed (bootFail s n) n) ∧
  (∀ (s : State) r, s.dev = .boot → s.boot.step = 4 →
    (∀ t, t < 62 → t ≠ 60 → ∀ a, tarnAddr t 0 ≤ a → a < tarnAddr (t + 1) 0 → byteAt (marchTest s) a = 0) ∧
    (∀ a, a < 0x80000000 ∨ tarnAddr 60 0 ≤ a ∧ a < tarnAddr 61 0 → byteAt (marchTest s) a = byteAt s a) ∧
    (r.tarnsBad = 0 → r.grovesBad = 0 → let u := marchTest s
      (fwSound u = true → tarnSound u 62 = true → tarnSound u 63 = true →
        (r.selfOk = true → exec (.tarnBist r) s = .next (bootStep u 5)) ∧
        (r.selfOk = false → ∃ t, exec (.tarnBist r) s = .next t ∧ failed t 4)) ∧
      (fwSound u = false ∨ tarnSound u 62 = false ∨ tarnSound u 63 = false → ∃ t, exec (.tarnBist r) s = .next t ∧ failed t 3)) ∧
    (r.tarnsBad &&& 0xF000000000000000 ≠ 0 → ∃ t, exec (.tarnBist r) s = .next t ∧ failed t 3)) ∧
  (∀ s : State, s.dev = .boot → s.boot.step = 5 → ∃ t, exec .omiReady s = .next t ∧ t.dev = .config ∧ t.cause = 2 ∧
    rb t Reg.jrnStat 4 = true ∧ t.boot.step = 7 ∧ rf t Reg.idBoot 6 4 = 7) ∧
  OmiOf .fwInfo ⟨0x50, .expert, inA, 0, 0⟩ fwInfo ∧ OmiOf .fwErase ⟨0x51, .expert, inA, 4, 4⟩ fwErase ∧
  OmiOf .fwWrite ⟨0x52, .expert, inA, 12, 1008⟩ fwWrite ∧ OmiOf .fwVerify ⟨0x53, .expert, inA, 4, 4⟩ fwVerify ∧
  OmiOf .fwActivate ⟨0x54, .expert, inA, 4, 4⟩ fwActivate ∧ OmiOf .fwConfirm ⟨0x55, .expert, inCTSM, 0, 0⟩ fwConfirm ∧
  OmiOf .deviceReset ⟨0x56, .expert, inCTSM, 0, 0⟩ (fun s _ => deviceReset s) ∧
  (∀ (s : State) c, let k := p s c 0
    let starts (s out : State) (ops : List FlashOp) (check : Option (Nat × List Byte)) : Prop :=
      out = { s with flash := ops.head?, waits := s.waits ++ [⟨c, .flash ops check, none⟩] }
    let rec2 (s : State) (r : CommitRec) : List FlashOp :=
      let a := if s.boot.copyB then 0 else 0x1000
      [.erase a, .program a (wordsBytes (recNext s r))]
    let r := recHeld s
    (1 < k → fwErase s c = complete s c stBadParam 0 [] ∧ fwVerify s c = complete s c stBadParam 0 [] ∧
      fwActivate s c = complete s c stBadParam 0 []) ∧
    (flashBusy s = true → fwInfo s c = complete s c stBusy 0 [] ∧ fwConfirm s c = complete s c stBusy 0 [] ∧
      (k ≤ 1 → fwErase s c = complete s c stBusy 0 [] ∧ fwVerify s c = complete s c stBusy 0 [] ∧ fwActivate s c = complete s c stBusy 0 [])) ∧
    (flashBusy s = false →
      (k ≤ 1 → (isRunning s k || isActive s k) = true → fwErase s c = complete s c stBadState 1 []) ∧
      (k ≤ 1 → (isRunning s k || isActive s k) = false → starts s (fwErase s c)
        (rec2 s { r with commit := r.commit &&& ~~~ BitVec.ofNat 8 (2 ^ k), pend := if r.pend = BitVec.ofNat 8 k then 0xFF else r.pend } ++
          (List.range 64).map fun i => .erase ((if k = 1 then 0x50000 else 0x10000) + 4096 * i)) none) ∧
      (k ≤ 1 → p s c 1 % 4 = 0 → p s c 1 + (cmdLen s c - 8) ≤ 0x40000 → (isRunning s k || isActive s k) = false →
        let a := (if k = 1 then 0x50000 else 0x10000) + p s c 1
        let bs := wordsBytes ((params s c (cmdLen s c / 4)).drop 2)
        starts s (fwWrite s c) (pageOps 8 a bs) (some (a, bs))) ∧
      (k ≤ 1 → isActive s k = true → fwActivate s c = complete s c stBadState 1 []) ∧
      (k ≤ 1 → ∀ t im, slotCheck s (decide (k = 1)) = (t, im) →
        (∀ n, im = .error n → fwVerify s c = complete t c stBadState n []) ∧ (∀ x, im = .ok x → fwVerify s c = complete t c stOk 0 []) ∧
        (∀ n, isActive s k = false → im = .error n → fwActivate s c = complete t c stBadState n []) ∧
        (∀ x, isActive s k = false → im = .ok x →
          starts t (fwActivate s c) (rec2 t { recHeld t with pend := BitVec.ofNat 8 k }) none)) ∧
      (rb s Reg.idBoot 1 = false → fwConfirm s c = complete s c stBadState 1 []) ∧
      (rb s Reg.idBoot 1 = true → let b := b2n (rb s Reg.idBoot 0)
        starts s (fwConfirm s c) (rec2 s { r with active := BitVec.ofNat 8 b, commit := r.commit ||| BitVec.ofNat 8 (2 ^ b), trials := 0xFF }) none)) ∧
    (k ≤ 1 → p s c 1 % 4 = 0 → 0x40000 < p s c 1 + (cmdLen s c - 8) → fwWrite s c = complete s c stLength 0 []) ∧
    (1 < k ∨ p s c 1 % 4 ≠ 0 → fwWrite s c = complete s c stBadParam 0 [])) ∧
  (∀ s : State, (∃ t, deviceReset s = t ∧ t.dev = .reset ∧ rb t Reg.idRstsrc 3 = true) ∧
    (∀ e, s.flash = none → exec (.flashCommandDone e) s = .next s) ∧
    (∀ op, s.flash = some op → let t := { s with flash := none }
      exec (.flashCommandDone false) s = .next (flashNext (recDone (flashApply t op) op) false) ∧
      exec (.flashCommandDone true) s = .next (flashNext (flashCut t op) true)) ∧
    (∀ a, let u := flashApply s (.erase a)
      let lo := fwBase s + a / 4096 * 4096
      (∀ b, lo ≤ b → b < lo + 4096 → byteAt u b = 0xFF) ∧ ∀ b, b < lo ∨ lo + 4096 ≤ b → byteAt u b = byteAt s b) ∧
    (∀ a d, let u := flashApply s (.program a d)
      let lo := fwBase s + a
      (∀ i, i < d.length → byteAt u (lo + i) = byteAt s (lo + i) &&& d.getD i 0) ∧ ∀ b, b < lo ∨ lo + d.length ≤ b → byteAt u b = byteAt s b) ∧
    (∀ c op ops check, s.waits = [⟨c, .flash (op :: ops) check, none⟩] → s.wspStopped = false →
      (flashNext s true = complete s c stBadState 7 []) ∧
      (ops = [] → check = none → flashNext s false = complete s c stOk 0 []) ∧
      (∀ a bs, ops = [] → check = some (a, bs) → ∀ t rs, flashRead s a bs.length = (t, some rs) →
        flashNext s false = if rs = bs then complete t c stOk 0 [] else complete t c stBadState 6 []) ∧
      (∀ o r, ops = o :: r → flashNext s false = { s with flash := some o, waits := [⟨c, .flash (o :: r) check, none⟩] })))

/-- R26, R415 to R418, R463, R468, R469, R509: supply levels, Grove power and the watchdog. A lower level acts as soon as it is accepted
and sheds what it passes; LOSS latches and ends in Safe Hold with CAUSE 0x09; PWR_SAFE rises 22 us after it at the latest. A Grove's
power follows the handshake. WD_BITE, once until Reset, freezes every PC and enters Safe Hold with CAUSE 0x0A; the capture writes 33
journal entries.
RAW is a reading (log 46). -/
def Obligations.PowerAndWatchdog : Prop := ∀ s : State,
  (∀ c l, ((c, l) = (Instr.vmonSag1, 2) ∨ (c, l) = (.vmonSag2, 1) ∨ (c, l) = (.vmonLoss, 0)) → s.dev ≠ .off →
    (vmonLevel s ≤ l → ∃ t, exec c s = .next t ∧ vmonLevel t = vmonLevel s ∧ t.flt = s.flt ∧ t.dev = s.dev) ∧
    (l < vmonLevel s → ∃ t, exec c s = .next t ∧ vmonLevel t = l ∧ rf t Reg.pwrVstat 1 0 = l ∧ rb t Reg.pwrVstat 6 = true ∧
      bit (dbgRd t 0x030) 4 = false ∧ bit (dbgRd t 0x030) 5 = true ∧
      (s.flt.length < 64 → ∃ w r, t.flt = s.flt ++ w :: r ∧ fld (nth w 0) 7 0 = 0x16 ∧ nth w 5 = BitVec.ofNat 32 l) ∧
      (vmonLevel s = 3 → rf t Reg.pwrVcnt 7 0 = min 0xFF (rf s Reg.pwrVcnt 7 0 + 1)) ∧
      (2 ≤ vmonLevel s → l ≤ 1 → rf t Reg.pwrVcnt 15 8 = min 0xFF (rf s Reg.pwrVcnt 15 8 + 1)) ∧
      (l ≤ 1 → t.auxHeld = true ∧ ∀ g r, g < 16 → (grv s g).glade = some r → appIsVital s r.app = false → (grv t g).trip = some .force) ∧
      (l = 0 → rb t Reg.pwrVstat 4 = true ∧ (s.dev ≠ .reset → t.pwr.lossAt = some s.tb.now) ∧
        ((s.dev = .boot ∨ s.dev = .config ∨ s.dev = .run ∨ s.dev = .tracking ∨ s.dev = .maintenance) → t.dev = .safeHold ∧ t.cause = 9)))) ∧
  (∀ l : VLevel, s.dev ≠ .off →
    (vmonLevel s < VLevel.code l → rb s Reg.pwrVstat 4 = false → ∃ t, exec (.vmonRise l) s = .next t ∧ vmonLevel t = VLevel.code l ∧ t.dev = s.dev ∧
      (vmonLevel s ≤ 1 → 2 ≤ VLevel.code l → ∀ g, g < 16 → isSplit s g = true → gated s g = true → t.pwr.upReq.getLsbD g = true)) ∧
    (rb s Reg.pwrVstat 4 = true → ∃ t, exec (.vmonRise l) s = .next t ∧ vmonLevel t = vmonLevel s)) ∧
  (s.pwr.lossAt = none → exec .pwrSafeAssert s = .next s) ∧
  (∀ t0, s.pwr.lossAt = some t0 → s.dev ≠ .off → s.dev ≠ .reset →
    (t0.toNat + 22000 ≤ s.tb.now.toNat ∨ s.pwr.lossSent = true ∧ s.pwr.marked = true) →
    ∃ t, exec .pwrSafeAssert s = .next t ∧ t.pwr.safe = true) ∧
  (∀ g : Grv, s.dev ≠ .off → s.dev ≠ .reset →
    (grvIdle s g.val = true → rb s Reg.pwrGstat g.val = true → rb s Reg.pwrGstat (16 + g.val) = false → s.pwr.upReq.getLsbD g.val = false →
      (rb s Reg.pwrGctl g.val = true ∨ isSplit s g.val = true ∧ vmonLevel s ≤ 1) →
      ∃ t, exec (.grovePowerDown g) s = .next t ∧ t.pwr.gen = s.pwr.gen &&& ~~~ (1#16 <<< g.val) ∧ rb t Reg.pwrGstat g.val = false ∧
        rb t Reg.pwrGstat (16 + g.val) = true ∧ t.engs = s.engs) ∧
    (grvIdle s g.val = false ∨ rb s Reg.pwrGctl g.val = false ∧ 1 < vmonLevel s → exec (.grovePowerDown g) s = .next s) ∧
    (s.pwr.upReq.getLsbD g.val = true → s.pwr.gen.getLsbD g.val = false → s.pwr.gok.getLsbD g.val = false →
      ∃ t, exec (.grovePowerUp g) s = .next t ∧ t.pwr.gen = s.pwr.gen ||| (1#16 <<< g.val) ∧
        Sparse.get none t.pwr.genRise g.val = some s.tb.now ∧ rb t Reg.pwrGstat (16 + g.val) = true) ∧
    (s.pwr.gok.getLsbD g.val = true → exec (.grovePowerUp g) s = .next s) ∧
    (s.pwr.gok.getLsbD g.val = true → s.pwr.gen.getLsbD g.val = false → ∃ t, exec (.pwrGokFall g) s = .next t ∧
      t.pwr.gok = s.pwr.gok &&& ~~~ (1#16 <<< g.val) ∧ rb t Reg.pwrGstat (16 + g.val) = false) ∧
    (s.pwr.gok.getLsbD g.val = true → s.pwr.gen.getLsbD g.val = true → s.wspStopped = false → ∃ u, exec (.pwrGokFall g) s =
      .next (wspPut u Reg.grvFence (BitVec.ofNat 32 (3 * 2 ^ (2 * g.val)))).state ∧ u.pwr.gok = s.pwr.gok &&& ~~~ (1#16 <<< g.val)) ∧
    (∀ r, Sparse.get none s.pwr.gokRise g.val = some r → s.pwr.gen.getLsbD g.val = true → s.pwr.gok.getLsbD g.val = true →
      rb s Reg.pwrGstat g.val = false →
      (s.tb.now.toNat < r.toNat + 500 → exec (.grovePowerUpDone g) s = .next s) ∧
      (r.toNat + 500 ≤ s.tb.now.toNat → ∃ t, exec (.grovePowerUpDone g) s = .next t ∧ rb t Reg.pwrGstat g.val = true ∧
        rb t Reg.pwrGstat (16 + g.val) = false ∧ t.pwr.upReq.getLsbD g.val = false ∧ (grv t g.val).l1i = [] ∧ (grv t g.val).l1d = [] ∧
        (grv t g.val).victim = [] ∧ (grv t g.val).ipond = [] ∧ (grv t g.val).dpond = [] ∧
        ∀ e, (e = 2 * g.val ∨ e = 2 * g.val + 1) → (eng t e).ers = (eng s e).ers ∧ (eng t e).term = (eng s e).term ∧ (eng t e).cells = [] ∧
          (eng t e).run = (if engFenced s e then .stopped else .idle))) ∧
    (∀ r, Sparse.get none s.pwr.genRise g.val = some r → s.pwr.gen.getLsbD g.val = true → s.pwr.gok.getLsbD g.val = false →
      rb s Reg.pwrGstat g.val = false →
      (s.tb.now.toNat < r.toNat + 20000 → exec (.powerUpTimeout g) s = .next s) ∧
      (r.toNat + 20000 ≤ s.tb.now.toNat → s.wspStopped = false → ∃ u, exec (.powerUpTimeout g) s =
        .next (wspPut u Reg.grvFence (BitVec.ofNat 32 (3 * 2 ^ (2 * g.val)))).state ∧ u.pwr.gen = s.pwr.gen &&& ~~~ (1#16 <<< g.val) ∧
        rb u Reg.pwrStat 0 = true ∧ rf u Reg.pwrStat 7 4 = g.val))) ∧
  (∀ g : Grv, exec (.pwrGokRise g) s = .next { s with pwr := { s.pwr with
    gok := s.pwr.gok ||| (1#16 <<< g.val), gokRise := Sparse.set none s.pwr.gokRise g.val (some s.tb.now) } }) ∧
  (s.dev ≠ .off → s.dev ≠ .reset →
    (∃ t, exec .wdOpenRise s = .next t ∧ rb t Reg.wdiStat 0 = true ∧ rf t Reg.wdiStat 31 16 = 0 ∧ rb t Reg.wdiStat 2 = rb s Reg.wdiStat 2) ∧
    exec .wdOpenFall s = .next (sb s Reg.wdiStat 0 false) ∧
    (rb s Reg.wdiStat 2 = true → exec .wdBite s = .next s) ∧
    (rb s Reg.wdiStat 2 = false → ∃ t, exec .wdBite s = .next t ∧ rb t Reg.wdiStat 2 = true ∧
      t.frozen = some ((List.range 33).map fun e =>
        if e < 32 ∧ (engFenced s e = true ∨ gated s (e / 2) = true) then 0xFFFFFFFF else (eng s e).pc) ∧
      (s.flt.length < 64 → ∃ w r, t.flt = s.flt ++ w :: r ∧ fld (nth w 0) 7 0 = 0x17) ∧
      ((s.dev = .config ∨ s.dev = .run ∨ s.dev = .tracking ∨ s.dev = .maintenance) → t.dev = .safeHold ∧ t.cause = 0xA))) ∧
  ((s.dev = .off ∨ s.dev = .reset) → exec .wdOpenRise s = .next s ∧ exec .wdOpenFall s = .next s ∧ exec .wdBite s = .next s) ∧
  (∀ pcs, s.frozen = some pcs → s.captured = false →
    let es : List (Nat × Word × Word) := ((List.range 16).map fun g => (g, nth pcs (2 * g), nth pcs (2 * g + 1))) ++
      [(0x10, nth pcs 32, rd s Reg.schedCycl)] ++
      ((List.range 16).map fun k => (0x20 + k, rd s (Reg.wdiLastl + k), rd s (Reg.wdiLasth + k)))
    exec .biteCapture s = .next
      { es.foldl (fun st x => jrnEvent st 4 x.1 0x5C x.2.1 x.2.2) s with captured := true, frozen := none }) ∧
  ((s.frozen = none ∨ s.captured = true) → exec .biteCapture s = .next s)

/-- R12, R17, R422, R470 to R487: the debug port, and register writes over all three paths. Nothing answers without power; an access
below its level has no effect and RESP 0b10. Authentication, halts, releases, steps, feeding, the stack, the terminal, the memory master
and trace. That the time words of the challenge are latched at GO, the levels of ESEL, MADDR, MCTL and trace, and
the corners of feeding and of the trace ring, are the model's (logs 25, 31, 37). -/
def Obligations.DebugPort : Prop := ∀ s : State,
  let ends (c : Instr) (rnw : Bool) (a : Nat) (r : BitVec 2) (v : Word) (t : State) : Prop := exec c s = .next (dacc t rnw a r v)
  (s.dev = .off → ∀ v, ∀ c ∈ [Instr.debugReset, .tapReset, .debugAuth v, .haltGrove v, .haltDevice v, .releaseGrove v, .releaseDevice v,
    .step v, .feed v, .xferPush v, .xferPop, .vtxRead, .vrxWrite v, .mdataRead, .mdataWrite v, .debugResetRequest v, .dbgTrcdropRead],
    exec c s = .next s) ∧
  (s.dev ≠ .off → ∀ v, (dbgLevel s < 2 → ends (.haltGrove v) false 0x010 2 0 s ∧ (bit v 16 = true → ends (.haltDevice v) false 0x010 2 0 s ∧
      ends (.releaseDevice v) false 0x011 2 0 s) ∧ (bit v 17 = false → ends (.releaseGrove v) false 0x011 2 0 s) ∧
      (bit v 17 = true → ends (.step v) false 0x011 2 0 s) ∧ (bit v 11 = true → ends (.feed v) false 0x016 2 0 s) ∧
      ends (.xferPush v) false 0x018 2 0 s ∧ ends .xferPop true 0x018 2 0 s ∧ ends (.mdataWrite v) false 0x022 2 0 s ∧
      ends (.debugResetRequest v) false 0x03F 2 0 s) ∧
    (dbgLevel s < 1 → ends .vtxRead true 0x019 2 0 s ∧ ends (.vrxWrite v) false 0x01A 2 0 s ∧ ends .mdataRead true 0x022 2 0 s ∧
      ends .dbgTrcdropRead true 0x034 2 0 s)) ∧
  (s.dev ≠ .off → ∀ v, let st := dbgRd s 0
    let lvl := min 2 (fld v 1 0)
    let chal := [s.dbgSt.counter, dbgRd s 2, dbgRd s 3, rd s Reg.idBootcnt]
    let good := (∃ b ∈ fuseBytes s 0x140 8, b ≠ 0) ∧
      hmac256 (fuseBytes s 0x140 8) (wordsBytes chal ++ [BitVec.ofNat 8 lvl]) = wordsBytes ((List.range 8).map fun w => dbgRd s (8 + w))
    (bit v 2 = false → ends (.debugAuth v) false 5 0 0 s) ∧
    (bit v 2 = true → ∃ t, ends (.debugAuth v) false 5 (if bit st 3 then 2 else 0) 0 t ∧ t.dbgSt.counter = s.dbgSt.counter + 1 ∧
      dbgRd t 2 = lo32 s.tb.now ∧ dbgRd t 3 = hi32 s.tb.now ∧
      (bit st 3 = true → t.dbgSt.granted = s.dbgSt.granted ∧ dbgRd t 0 = st) ∧
      (bit st 3 = false → lvl = 0 → t.dbgSt.granted = 0 ∧ dbgRd t 0 = st) ∧
      (bit st 3 = false → lvl ≠ 0 → good → t.dbgSt.granted = min lvl (dbgLvlSvc s) ∧ fld (dbgRd t 0) 23 16 = 0) ∧
      (bit st 3 = false → lvl ≠ 0 → ¬ good → t.dbgSt.granted = s.dbgSt.granted ∧
        fld (dbgRd t 0) 23 16 = min 0xFF (fld st 23 16 + 1) ∧ (bit (dbgRd t 0) 3 = true ↔ 2 ≤ fld st 23 16) ∧
        (2 ≤ fld st 23 16 → t.dbgSt.lockEnd = some (s.tb.now + 1000000000))))) ∧
  (∀ e, s.dev ≠ .off → s.dbgSt.lockEnd = some e → (s.tb.now.toNat < e.toNat → exec .debugLockoutEnd s = .next s) ∧
    (e.toNat ≤ s.tb.now.toNat → ∃ t, exec .debugLockoutEnd s = .next t ∧ bit (dbgRd t 0) 3 = false ∧ t.dbgSt.lockEnd = none)) ∧
  (s.dev ≠ .off → exec .tapReset s = .next { s with dbgSt := { s.dbgSt with tapIr := 1 } } ∧
    ∃ t, exec .debugReset s = .next t ∧ t.dbg = [] ∧ t.dbgSt = State.dbgReset ∧ t.dev ≠ .halted ∧ t.devHalt = false ∧
      (∀ g, g < 16 → (grv t g).halted = false ∧ (grv t g).haltReq = false) ∧ (∀ e, (eng t e).term = State.engReset.term)) ∧
  (s.dev ≠ .off → dbgLevel s = 2 → ∀ g : Grv, let v := BitVec.ofNat 32 (2 ^ g.val)
    let x := grv s g.val
    (haltAllowed s g.val = false → ∃ t, ends (.haltGrove v) false 0x010 0 0 t ∧ bit (dbgRd t 0) 8 = true ∧ t.grvs = s.grvs) ∧
    (haltAllowed s g.val = true → x.halted = false → ∃ t, ends (.haltGrove v) false 0x010 0 0 t ∧
      (grvIdle s g.val = true → (grv t g.val).halted = true ∧ bit (eng t (2 * g.val)).rsv 0 = false ∧
        bit (eng t (2 * g.val + 1)).rsv 0 = false) ∧
      (grvIdle s g.val = false → grv t g.val = { x with haltReq := true } ∧ t.engs = s.engs) ∧ rb t Reg.wdiStat 1 = true) ∧
    (∃ t, ends (.releaseGrove v) false 0x011 0 0 t ∧ grv t g.val = { x with haltReq := false, halted := false, stepping := false } ∧
      ∀ k, k ≠ g.val → grv t k = grv s k) ∧
    (∃ t, ends (.step (v + 0x20000)) false 0x011 0 0 t ∧
      grv t g.val = if x.halted then { x with halted := false, stepping := true } else x)) ∧
  (∀ g : Grv, let x := grv s g.val
    (x.haltReq = true → x.halted = false → ∃ t, exec (.groveHalted g) s = .next t ∧ grv t g.val = { x with haltReq := false, halted := true } ∧
      ∀ e, (e = 2 * g.val ∨ e = 2 * g.val + 1) → bit (eng t e).rsv 0 = false ∧
        ((eng s e).run = .waiting → (eng t e).run = .running ∧ (eng t e).pc = (eng s e).pc - 1) ∧
        ((eng s e).run ≠ .waiting → (eng t e).pc = (eng s e).pc ∧ (eng t e).cells = (eng s e).cells)) ∧
    (x.haltReq = false ∨ x.halted = true → exec (.groveHalted g) s = .next s)) ∧
  (s.dev ≠ .off → dbgLevel s = 2 →
    (∃ t, ends (.haltDevice 0x10000) false 0x010 0 0 t ∧
      ((s.dev = .config ∨ s.dev = .safeHold ∨ s.dev = .maintenance) → t.devHalt = true ∧ rb t Reg.wdiStat 1 = true) ∧
      (s.dev ≠ .config → s.dev ≠ .safeHold → s.dev ≠ .maintenance → t.devHalt = s.devHalt ∧ bit (dbgRd t 0) 8 = true)) ∧
    (s.devHalt = true → s.bnd.phase = .idle →
      (s.safeReq = none → (s.dev = .config ∨ s.dev = .safeHold ∨ s.dev = .maintenance) → ∃ t, exec .deviceHalted s = .next t ∧ t.dev = .halted ∧
        t.cause = 0xB ∧ t.prevDev = BitVec.ofNat 4 s.dev.code ∧ t.devHalt = false) ∧
      (s.safeReq ≠ none → ∃ t, exec .deviceHalted s = .next t ∧ t.dev = s.dev ∧ t.devHalt = false ∧ bit (dbgRd t 0) 8 = true)) ∧
    (s.devHalt = false ∨ s.bnd.phase ≠ .idle → exec .deviceHalted s = .next s) ∧
    (∀ d, s.dev = .halted → (s.prevDev, d) ∈ [(3#4, Dev.config), (6, .safeHold), (7, .maintenance)] → rb s Reg.pwrVstat 4 = false →
      rb s Reg.wdiStat 2 = false → ∃ t, ends (.releaseDevice 0x10000) false 0x011 0 0 t ∧ t.dev = d ∧ t.cause = 0xC ∧
        t.bnd.next = BitVec.ofNat 64 (nextCyc s) ∧ rb t (pstat .a) 1 = false ∧ rb t (pstat .b) 1 = false)) ∧
  (s.dev ≠ .off → dbgLevel s = 2 → ∀ v, bit v 11 = true → let e := dbgEng s
    let t := dbgWr s 0x016 (v &&& 0x7FF)
    let b (k : Nat) : Byte := (dbgRd s 0x015).extractLsb' (8 * k) 8
    let insn := feedInsn e (b 0) (b 1) (bytesWord (b 1) (b 2) (b 3) (v.extractLsb' 0 8))
    (engHalted s e = false → ends (.feed v) false 0x016 3 0 s) ∧
    (engHalted s e = true → (∀ body, insn ≠ some (fld v 10 8, body)) →
      ends (.feed v) false 0x016 0 0 (dbgWr t 0x017 (BitVec.ofNat 32 (2 + 4 * 1)))) ∧
    (∀ body u, engHalted s e = true → insn = some (fld v 10 8, body) →
      (body.run (feedStart t e (fld v 10 8)) = .ok ((), u) → ∃ w, ends (.feed v) false 0x016 0 0 w ∧
        dbgRd w 0x017 = (match (eng u e).dueTrap with | none => 0 | some k => BitVec.ofNat 32 (2 + 4 * k)) ∧
        (eng w e).pc = (if (eng u e).foldAt.isNone then (eng u e).pc else (eng s e).pc) ∧ (eng w e).cells = (eng u e).cells ∧
        (eng w e).stat = (eng u e).stat ∧ (eng w e).dueTrap = (eng s e).dueTrap ∧ w.mem = u.mem) ∧
      (∀ k g, body.run (feedStart t e (fld v 10 8)) = .error (.fault k none g) →
        ends (.feed v) false 0x016 0 0 (dbgWr { t with dbg := g } 0x017 (BitVec.ofNat 32 (2 + 4 * k)))))) ∧
  (s.dev ≠ .off → dbgLevel s = 2 → let x := eng s (dbgEng s)
    (engHalted s (dbgEng s) = false → (∀ v, ends (.xferPush v) false 0x018 3 0 s) ∧ ends .xferPop true 0x018 3 0 s) ∧
    (engHalted s (dbgEng s) = true → (∀ v, x.cells.length < 32 → ∃ t, ends (.xferPush v) false 0x018 0 0 t ∧
        (eng t (dbgEng s)).cells = v :: x.cells ∧ (eng t (dbgEng s)).ddepth = x.ddepth + 1 ∧ t.mem = s.mem) ∧
      (∀ v r, x.cells = v :: r → r.length < 32 → 0 < x.ddepth.toNat → ∃ t, ends .xferPop true 0x018 0 v t ∧
        (eng t (dbgEng s)).cells = r ∧ (eng t (dbgEng s)).ddepth = x.ddepth - 1 ∧ t.mem = s.mem) ∧
      (x.ddepth = 0 → ends .xferPop true 0x018 3 0 s))) ∧
  (s.dev ≠ .off → 1 ≤ dbgLevel s → let e := dbgEng s
    let x := eng s e
    ends .vtxRead true 0x019 0 (if x.term.txFull then x.term.tx else 0) (putEng s e { x with term := { x.term with txFull := false } }) ∧
    (∀ v, (x.term.rxValid = true → ends (.vrxWrite v) false 0x01A 1 0 s) ∧
      (x.term.rxValid = false → ends (.vrxWrite v) false 0x01A 0 0 (putEng s e { x with term := { x.term with rx := v, rxValid := true } }))) ∧
    ends .dbgTrcdropRead true 0x034 0 (dbgRd s 0x034) (dbgWr s 0x034 0)) ∧
  (s.dev ≠ .off → s.dev ≠ .reset → let a := (dbgRd s 0x020).toNat
    let ctl := dbgRd s 0x021
    let next (u : State) (n : Nat) : State := if bit ctl 4 then dbgWr u 0x020 (BitVec.ofNat 32 (a + n)) else u
    let mark (u : State) (k : Nat) : State := dbgWr u 0 (putFld (putBit (dbgRd u 0) 5 true) 7 6 k)
    let q := reqOf s 46
    (1 ≤ dbgLevel s → fld ctl 1 0 = 1 → ends .mdataRead true 0x022 0 (ioValue s q (a % 65536)) (next s 1)) ∧
    (∀ t w, fld ctl 1 0 = 0 → fld ctl 3 2 = 2 → a % 4 = 0 → placeOf a = .tarn t w →
      (1 ≤ dbgLevel s → checkMem s q a needR spData = none → tarnUp s t = true → tarnCls s t w = .good →
        ends .mdataRead true 0x022 0 (tarnRaw s t w) (next s 4)) ∧
      (∀ d, 1 ≤ dbgLevel s → checkMem s q a needR spData = some d → ∃ u, ends .mdataRead true 0x022 3 0 u ∧
        bit (dbgRd u 0) 5 = true ∧ fld (dbgRd u 0) 7 6 = 1 ∧ u.mem = s.mem) ∧
      (∀ v, dbgLevel s = 2 → checkMem s q a needW spData = none → tarnUp s t = true → bufIndex s t w = none →
        ∃ u, ends (.mdataWrite v) false 0x022 0 0 u ∧ tarnRaw u t w = v ∧ tarnCls u t w = .good ∧
          (bit ctl 4 = true → dbgRd u 0x020 = BitVec.ofNat 32 (a + 4)) ∧ ∀ k, k < a ∨ a + 4 ≤ k → byteAt u k = byteAt s k)) ∧
    (∀ v, dbgLevel s = 2 → fld ctl 1 0 = 1 → ∀ u,
      (ioPut s q (a % 65536) v false = .done u → ends (.mdataWrite v) false 0x022 0 0 (mAdvance u)) ∧
      (ioPut s q (a % 65536) v false = .full u → ends (.mdataWrite v) false 0x022 3 0 (mAdvance (mark u 3))))) ∧
  (∀ x y r, s.dbgSt.trace = (x, y) :: r → s.dev ≠ .off → s.dev ≠ .reset →
    let p := (dbgRd s 0x033).toNat
    let len := (dbgRd s 0x032).toNat
    let o := if p + 8 ≤ len then p else 0
    let a := ((dbgRd s 0x031 &&& 0xFFFFFFF8) + BitVec.ofNat 32 o).toNat
    let t := dbgWr { s with dbgSt := { s.dbgSt with trace := r } } 0x033 (BitVec.ofNat 32 (if o + 16 ≤ len then o + 8 else 0))
    (8 ≤ len → a < 0x80000000 → exec .traceWrite s = .next (mWrites t (wordBytes x ++ wordBytes y) [(a, 4), (a + 4, 4)]).1)) ∧
  (s.dbgSt.trace = [] → exec .traceWrite s = .next s) ∧
  (s.dev ≠ .off → dbgLevel s = 2 → ∀ v, (bit v 0 = false → ends (.debugResetRequest v) false 0x03F 0 0 s) ∧
    (bit v 0 = true → ∃ t, exec (.debugResetRequest v) s = .next t ∧ t.dev = .reset ∧ rb t Reg.idRstsrc 4 = true)) ∧
  (∀ m a v, exec (.registerWrite (.io m a) v) s =
    .next (if masterActs s m.val then (ioPost s (reqOf s m.val) a.toNat v).state else s)) ∧
  (∀ (h : Chan) off be v, s.dev ≠ .off → s.dev ≠ .reset → off.toNat < 0xC000 ∨ 0x10000 ≤ off.toNat ∧ off.toNat < 0x40000 →
    (off.toNat % 4 ≠ 0 ∨ be ≠ 0xF → exec (.registerWrite (.host h off be) v) s = .next { s with outResp := 2, outData := [] }) ∧
    (off.toNat % 4 = 0 → be = 0xF → ∃ t, exec (.registerWrite (.host h off be) v) s = .next { t with outResp := 0, outData := [] } ∧
      (off = 0x10 → t = hostWr s 0x10 (hostRd s 0x10 &&& ~~~ (v &&& 0xFF))) ∧
      (off = 0x14 → t = hostWr s 0x14 (v &&& 0x3FF)) ∧
      (off.toNat = 0x20 + 4 * h.val → t = hostWr s off.toNat (v &&& 0xF)) ∧
      (0x20000 ≤ off.toNat → off.toNat < 0x20018 → t = hostWr s off.toNat (v &&& 0x7F)) ∧
      (∀ c i, c < 8 → i < 256 → off.toNat = 0x1400 + 0x1000 * c + 4 * i →
        ((chan s c).st = 1 → chan t c = { chan s c with rej := true }) ∧
        ((chan s c).st ≠ 1 → chan t c = { chan s c with cmd := Sparse.set 0#32 (chan s c).cmd i v })))) ∧
  (∀ a v, s.dev ≠ .off →
    (∀ k, a.toNat = k → k ∈ [0x015, 0x016] → dbgLevel s < 2 → ends (.registerWrite (.dbg a) v) false k 2 0 s) ∧
    (a = 0x015 → dbgLevel s = 2 → ends (.registerWrite (.dbg a) v) false 0x015 0 0 (dbgWr s 0x015 v)) ∧
    (a = 0x013 → 1 ≤ dbgLevel s → ends (.registerWrite (.dbg a) v) false 0x013 0 0 (dbgWr s 0x013 (v &&& 0x1F))) ∧
    (a = 0x020 → 1 ≤ dbgLevel s → ends (.registerWrite (.dbg a) v) false 0x020 0 0 (dbgWr s 0x020 v)) ∧
    (∀ k, k < 8 → a.toNat = 8 + k → ends (.registerWrite (.dbg a) v) false (8 + k) 0 0 (dbgWr s (8 + k) v)) ∧
    (a = 0x000 → ends (.registerWrite (.dbg a) v) false 0 0 0 (dbgWr s 0 (dbgRd s 0 &&& ~~~ (v &&& 0x130)))))

/-- A command at the front of the queue is taken by the next step, which is exec on the state with the rest of the queue; an empty
queue leaves the block as it is (log 1). A command put at the front by a table word: no row of the table gives bits, so there is none. -/
def Obligations.StepRunsTheFront : Prop :=
  (∀ (c : Instr) (r : List Instr) (s : State), s.pending = c :: r → step s = exec c { s with pending := r }) ∧
  (∀ s : State, s.pending = [] → step s = .next s) ∧
  ∀ (s : State) (nbits w : Nat), decodeTableWord nbits w = none ∧ s.withFetchWord nbits w = s

/-- R11, R25, R39, R446, R494: the machine after reset: in Reset with PREV and CAUSE 0, TB_NOW 0, ID_RSTSRC showing POR, no session, no
event, no fault record and no command waiting; and the invariant of the next statement holds. Values at reset that the spec does not
give are the model's (log 5). -/
def Obligations.ResetState : Prop :=
  State.reset.Inv ∧ State.reset.dev = .reset ∧ State.reset.prevDev = 0 ∧ State.reset.cause = 0 ∧ State.reset.tb.now = 0 ∧
  rd State.reset Reg.idRstsrc = 1 ∧ State.reset.sessions = [] ∧ State.reset.evq = [] ∧ State.reset.flt = [] ∧ State.reset.pending = [] ∧
  (∀ c, (chan State.reset c).st = 0) ∧ ∀ a, byteAt State.reset a = 0

/-- R412, R424: every step keeps the machine's shape. The byte memory stays in its one canonical form, the event queue holds
at most 32 events and the fault log at most 64 records; and a step takes from the queue of commands exactly the one at its front. -/
def Obligations.StepKeepsInvariant : Prop := ∀ s t : State, s.Inv → step s = .next t → t.Inv ∧ t.pending = s.pending.drop 1
end

