-- ==== Sys2Proof/Laws/Sparse.lean ====
section
/-! SUPPORT. Laws of sparse stores: a read after a write, writes to one key, and the canonical form. -/

namespace Sys2Proof

variable {α : Type}

/-- A key that is dropped reads the default. -/
theorem Sparse.get_del_self (d : α) (m : Sparse α) (k : Nat) : Sparse.get d (m.del k) k = d := by
  induction m with
  | nil => rfl
  | cons p r ih =>
    obtain ⟨j, v⟩ := p
    by_cases h : j = k
    · simpa [Sparse.del, h] using ih
    · simpa [Sparse.del, h, Sparse.get] using ih

/-- Dropping one key leaves every other. -/
theorem Sparse.get_del_ne (d : α) (m : Sparse α) {k i : Nat} (h : i ≠ k) : Sparse.get d (m.del k) i = Sparse.get d m i := by
  induction m with
  | nil => rfl
  | cons p r ih =>
    obtain ⟨j, v⟩ := p
    by_cases hj : j = k
    · have : ¬ k = i := fun e => h e.symm
      simpa [Sparse.del, hj, Sparse.get, this] using ih
    · by_cases hi : j = i
      · subst hi; simp [Sparse.del, hj, Sparse.get]
      · simpa [Sparse.del, hj, Sparse.get, hi] using ih

/-- The key inserted reads its value where the list did not hold it. -/
theorem Sparse.get_ins_self (d : α) (m : Sparse α) (k : Nat) (v : α) (h : ∀ p ∈ m, p.1 ≠ k) :
    Sparse.get d (Sparse.ins k v m) k = v := by
  induction m with
  | nil => simp [Sparse.ins, Sparse.get]
  | cons p r ih =>
    obtain ⟨j, w⟩ := p
    by_cases hk : k < j
    · simp [Sparse.ins, hk, Sparse.get]
    · have hj : j ≠ k := h (j, w) (by simp)
      simp [Sparse.ins, hk, Sparse.get, hj, ih fun q hq => h q (by simp [hq])]

/-- Insertion leaves every other key. -/
theorem Sparse.get_ins_ne (d : α) (m : Sparse α) {k i : Nat} (v : α) (h : i ≠ k) :
    Sparse.get d (Sparse.ins k v m) i = Sparse.get d m i := by
  have h' : ¬ k = i := fun e => h e.symm
  induction m with
  | nil => simp [Sparse.ins, Sparse.get, h']
  | cons p r ih =>
    obtain ⟨j, w⟩ := p
    by_cases hk : k < j
    · simp [Sparse.ins, hk, Sparse.get, h']
    · by_cases hi : j = i
      · subst hi; simp [Sparse.ins, hk, Sparse.get]
      · simp [Sparse.ins, hk, Sparse.get, hi, ih]

/-- A dropped key is not listed. -/
theorem Sparse.not_mem_del (m : Sparse α) (k : Nat) : ∀ p ∈ m.del k, p.1 ≠ k := by
  intro p hp
  simpa [Sparse.del] using (List.mem_filter.mp hp).2

/-- Dropping a key that was just inserted. -/
theorem Sparse.del_ins (m : Sparse α) (k : Nat) (v : α) : Sparse.del (Sparse.ins k v m) k = Sparse.del m k := by
  induction m with
  | nil => simp [Sparse.ins, Sparse.del]
  | cons p r ih =>
    obtain ⟨j, w⟩ := p
    by_cases hk : k < j
    · simp [Sparse.ins, hk, Sparse.del]
    · by_cases hj : j = k
      · simpa [Sparse.ins, hk, Sparse.del, hj] using ih
      · simpa [Sparse.ins, hk, Sparse.del, hj] using ih

/-- Dropping twice is dropping once. -/
theorem Sparse.del_del (m : Sparse α) (k : Nat) : (m.del k).del k = m.del k := by
  simp [Sparse.del]

variable [DecidableEq α]

/-- A write reads back. -/
@[simp] theorem Sparse.get_set_self (d : α) (m : Sparse α) (k : Nat) (v : α) : Sparse.get d (Sparse.set d m k v) k = v := by
  unfold Sparse.set
  split
  · rename_i h; rw [Sparse.get_del_self, h]
  · exact Sparse.get_ins_self d _ k v (Sparse.not_mem_del m k)

/-- A write leaves every other key, whatever default that one reads with. -/
theorem Sparse.get_set_of_ne (d d' : α) (m : Sparse α) {k i : Nat} (v : α) (h : i ≠ k) :
    Sparse.get d' (Sparse.set d m k v) i = Sparse.get d' m i := by
  unfold Sparse.set
  split
  · exact Sparse.get_del_ne d' m h
  · rw [Sparse.get_ins_ne d' _ v h, Sparse.get_del_ne d' m h]

/-- A write leaves every other key. -/
theorem Sparse.get_set_ne (d : α) (m : Sparse α) {k i : Nat} (v : α) (h : i ≠ k) :
    Sparse.get d (Sparse.set d m k v) i = Sparse.get d m i := Sparse.get_set_of_ne d d m v h

/-- Both cases at once. -/
theorem Sparse.get_set (d : α) (m : Sparse α) (k i : Nat) (v : α) :
    Sparse.get d (Sparse.set d m k v) i = if i = k then v else Sparse.get d m i := by
  by_cases h : i = k
  · subst h; simp
  · rw [if_neg h, Sparse.get_set_ne d m v h]

/-- The later of two writes to one key stands. -/
@[simp] theorem Sparse.set_set (d : α) (m : Sparse α) (k : Nat) (v w : α) :
    Sparse.set d (Sparse.set d m k v) k w = Sparse.set d m k w := by
  unfold Sparse.set
  split <;> split <;> simp [Sparse.del_del, Sparse.del_ins]

/-! ### The canonical form -/

theorem Sparse.wf_nil (d : α) : Sparse.wf d ([] : Sparse α) := by simp [Sparse.wf]

/-- Dropping keeps the form. -/
theorem Sparse.wf_del (d : α) {m : Sparse α} (h : Sparse.wf d m) (k : Nat) : Sparse.wf d (m.del k) := by
  refine ⟨?_, fun p hp => h.2 p (List.mem_filter.mp hp).1⟩
  exact List.Pairwise.sublist (List.Sublist.map _ (List.filter_sublist (l := m))) h.1

omit [DecidableEq α] in
/-- Members of an insertion. -/
theorem Sparse.mem_ins {m : Sparse α} {k : Nat} {v : α} {p : Nat × α} (h : p ∈ Sparse.ins k v m) : p = (k, v) ∨ p ∈ m := by
  induction m with
  | nil => simpa [Sparse.ins] using h
  | cons q r ih =>
    obtain ⟨j, w⟩ := q
    by_cases hk : k < j
    · simp only [Sparse.ins, hk, if_true, List.mem_cons] at h
      simpa using h
    · simp only [Sparse.ins, hk, if_false, List.mem_cons] at h
      rcases h with h | h
      · exact .inr (by simp [h])
      · rcases ih h with h | h
        · exact .inl h
        · exact .inr (by simp [h])

omit [DecidableEq α] in
/-- Insertion of a key not listed keeps the keys rising. -/
theorem Sparse.pairwise_ins {m : Sparse α} {k : Nat} {v : α} (h : (m.map Prod.fst).Pairwise (· < ·)) (hk : ∀ p ∈ m, p.1 ≠ k) :
    ((Sparse.ins k v m).map Prod.fst).Pairwise (· < ·) := by
  induction m with
  | nil => simp [Sparse.ins]
  | cons q r ih =>
    obtain ⟨j, w⟩ := q
    rw [List.map_cons, List.pairwise_cons] at h
    by_cases hj : k < j
    · simp only [Sparse.ins, hj, if_true, List.map_cons, List.pairwise_cons]
      refine ⟨?_, h.1, h.2⟩
      intro x hx
      rcases List.mem_cons.mp hx with rfl | hx
      · exact hj
      · exact Nat.lt_trans hj (h.1 x hx)
    · simp only [Sparse.ins, hj, if_false, List.map_cons, List.pairwise_cons]
      refine ⟨?_, ih h.2 fun p hp => hk p (by simp [hp])⟩
      intro x hx
      obtain ⟨p, hp, rfl⟩ := List.mem_map.mp hx
      rcases Sparse.mem_ins hp with rfl | hp
      · have := hk (j, w) (by simp); simp only at this ⊢; omega
      · exact h.1 _ (List.mem_map.mpr ⟨p, hp, rfl⟩)

/-- A write keeps the form. -/
theorem Sparse.wf_set (d : α) {m : Sparse α} (h : Sparse.wf d m) (k : Nat) (v : α) : Sparse.wf d (Sparse.set d m k v) := by
  unfold Sparse.set
  split
  · exact Sparse.wf_del d h k
  · rename_i hv
    have hd := Sparse.wf_del d h k
    refine ⟨Sparse.pairwise_ins hd.1 (Sparse.not_mem_del m k), fun p hp => ?_⟩
    rcases Sparse.mem_ins hp with rfl | hp
    · exact hv
    · exact hd.2 p hp

end Sys2Proof
end

