-- ==== Sys2Proof/Laws/Eng.lean ====
section
/-! SUPPORT. Laws of engine work: how its steps run, and one law of a whole instruction. -/

namespace Sys2Proof.Machine

@[simp] theorem eng_putEng (s : State) (e : Nat) (x : Engine) : eng (putEng s e x) e = x := by simp [eng, putEng]
theorem eng_putEng_ne (s : State) {e f : Nat} (x : Engine) (h : f ≠ e) : eng (putEng s e x) f = eng s f := by
  simp [eng, putEng, Sparse.get_set_ne _ _ _ h]
@[simp] theorem putEng_putEng (s : State) (e : Nat) (x y : Engine) : putEng (putEng s e x) e y = putEng s e y := by
  simp [putEng]
@[simp] theorem grv_putGrv (s : State) (g : Nat) (x : Grove) : grv (putGrv s g x) g = x := by simp [grv, putGrv]
theorem grv_putGrv_ne (s : State) {g h : Nat} (x : Grove) (n : h ≠ g) : grv (putGrv s g x) h = grv s h := by
  simp [grv, putGrv, Sparse.get_set_ne _ _ _ n]
@[simp] theorem putGrv_putGrv (s : State) (g : Nat) (x y : Grove) : putGrv (putGrv s g x) g y = putGrv s g y := by
  simp [putGrv]
@[simp] theorem eng_putGrv (s : State) (g e : Nat) (x : Grove) : eng (putGrv s g x) e = eng s e := (rfl)
@[simp] theorem grv_putEng (s : State) (g e : Nat) (x : Engine) : grv (putEng s e x) g = grv s g := (rfl)
@[simp] theorem byteAt_putEng (s : State) (e a : Nat) (x : Engine) : byteAt (putEng s e x) a = byteAt s a := (rfl)
@[simp] theorem byteAt_putGrv (s : State) (g a : Nat) (x : Grove) : byteAt (putGrv s g x) a = byteAt s a := (rfl)
@[simp] theorem rd_putEng (s : State) (e a : Nat) (x : Engine) : rd (putEng s e x) a = rd s a := (rfl)
@[simp] theorem rd_putGrv (s : State) (g a : Nat) (x : Grove) : rd (putGrv s g x) a = rd s a := (rfl)
@[simp] theorem byteAt_putByte (s : State) (a : Nat) (b : Byte) : byteAt (putByte s a b) a = b := by simp [byteAt, putByte]
theorem byteAt_putByte_ne (s : State) {a c : Nat} (b : Byte) (h : c ≠ a) : byteAt (putByte s a b) c = byteAt s c := by
  simp [byteAt, putByte, Sparse.get_set_ne _ _ _ h]
@[simp] theorem rd_wr (s : State) (a : Nat) (v : Word) : rd (wr s a v) a = v := by simp [rd, wr]
theorem rd_wr_ne (s : State) {a c : Nat} (v : Word) (h : c ≠ a) : rd (wr s a v) c = rd s c := by
  simp [rd, wr, Sparse.get_set_of_ne _ _ _ _ h]
@[simp] theorem eng_wr (s : State) (a e : Nat) (v : Word) : eng (wr s a v) e = eng s e := (rfl)
@[simp] theorem grv_wr (s : State) (a g : Nat) (v : Word) : grv (wr s a v) g = grv s g := (rfl)
@[simp] theorem byteAt_wr (s : State) (a c : Nat) (v : Word) : byteAt (wr s a v) c = byteAt s c := (rfl)

/-! ### How engine work runs -/

@[simp] theorem run_bind_ok {α β : Type} (m : EM α) (f : α → EM β) (s t : State) (a : α) (h : m.run s = .ok (a, t)) :
    (m >>= f).run s = (f a).run t := by
  show (m s >>= fun p => f p.1 p.2) = _
  have h' : m s = .ok (a, t) := h
  rw [h']; rfl

@[simp] theorem run_pure {α : Type} (a : α) (s : State) : (pure a : EM α).run s = .ok (a, s) := (rfl)
@[simp] theorem run_getE (e : Nat) (s : State) : (getE e).run s = .ok (eng s e, s) := (rfl)
@[simp] theorem run_modE (e : Nat) (f : Engine → Engine) (s : State) : (modE e f).run s = .ok ((), onEng s e f) := (rfl)
@[simp] theorem run_modS (f : State → State) (s : State) : (modS f).run s = .ok ((), f s) := (rfl)
@[simp] theorem run_get (s : State) : (get : EM State).run s = .ok (s, s) := (rfl)
@[simp] theorem run_set (s t : State) : (set t : EM Unit).run s = .ok ((), t) := (rfl)
@[simp] theorem run_pushN (e : Nat) (ws : List Word) (s : State) : (pushN e ws).run s = .ok ((), onEng s e (pushed ws)) := (rfl)
@[simp] theorem run_raise {α : Type} (v : Nat) (d : Option Denial) (s : State) :
    (raise v d : EM α).run s = .error (.fault v d s.dbg) := (rfl)

/-- Two changes of one engine's registers are one. -/
@[simp] theorem onEng_onEng (s : State) (e : Nat) (f g : Engine → Engine) : onEng (onEng s e f) e g = onEng s e (g ∘ f) := by
  simp [onEng]

/-- The engine after a change of its registers. -/
@[simp] theorem eng_onEng (s : State) (e : Nat) (f : Engine → Engine) : eng (onEng s e f) e = f (eng s e) := by simp [onEng]

/-- Work that succeeds, then the rest. -/
theorem run_bind_of {α β : Type} {m : EM α} {f : α → EM β} {s t : State} {a : α} {r : Except Stop (β × State)}
    (h : m.run s = .ok (a, t)) (h2 : (f a).run t = r) : (m >>= f).run s = r := by rw [run_bind_ok _ _ _ _ _ h, h2]

/-- The Overflow trap of an instruction (R152). -/
theorem run_trapOv (e : Nat) (f : Flagged) (s : State) : (trapOv e f).run s = .ok ((), if decide (f.v = some true) && bit (eng s e).trapen 0
    then onEng s e fun x => { x with dueTrap := some vOvf } else s) := by
  refine run_bind_of (run_getE e s) ?_
  unfold trapIf
  split
  · rfl
  · rfl

/-- Cells pushed, flags written, the Overflow trap. -/
theorem run_result (e : Nat) (u : State) (fl : Flagged) (r : List Word) :
    (do pushN e r; writeF e fl; trapOv e fl : EM Unit).run u = .ok ((), result u e r fl true) := by
  refine run_bind_of (run_pushN _ _ _) (run_bind_of (run_modE _ _ _) ?_)
  rw [run_trapOv]
  unfold result
  by_cases h : (decide (fl.v = some true) && bit (eng u e).trapen 0) = true
  · simp [pushed, h, onEng]
  · simp [pushed, h, onEng]

/-- Cells pushed, flags written. -/
theorem run_result_noTrap (e : Nat) (u : State) (fl : Flagged) (r : List Word) :
    (do pushN e r; writeF e fl : EM Unit).run u = .ok ((), result u e r fl false) := by
  refine run_bind_of (run_pushN _ _ _) ?_
  unfold writeF
  rw [run_modE]
  simp [result, onEng, pushed]

/-- A started instruction whose work succeeds retires. -/
theorem runInsn_retires {e : Nat} {i : Insn} {body : EM Unit} {s t u : State} (h : Started e i s t) (hb : Runs body t () u)
    (hk : i.keepRpa = false) : runInsn e i body s = retire u e := by
  obtain ⟨hc, hd, hs⟩ := h
  have hi : (issue e i body).run s = .ok ((), onEng u e fun x => { x with stat := putBit x.stat stRPA false }) := by
    unfold issue
    rw [run_bind_ok _ _ _ _ _ hs, run_bind_ok _ _ _ _ _ hb]
    simp [endInsn, hk]
  simp [runInsn, hc, hd, hi, finish, retire]

/-- A started instruction whose work raises a fault takes it, from the state before the instruction. -/
theorem runInsn_faults {e : Nat} {i : Insn} {body : EM Unit} {s t : State} {v : Nat} {d : Option Denial} {g : Sparse Word}
    (h : Started e i s t) (hb : body.run t = .error (.fault v d g)) : runInsn e i body s = takeFault s e v d g := by
  obtain ⟨hc, hd, hs⟩ := h
  have hi : (issue e i body).run s = .error (.fault v d g) := by
    unfold issue
    rw [run_bind_ok _ _ _ _ _ hs]
    show (body t >>= fun p => endInsn e i p.2) = _
    have hb' : body t = .error (.fault v d g) := hb
    rw [hb']; rfl
  simp [runInsn, hc, hd, hi, finish]

end Sys2Proof.Machine
end

