-- ==== Sys2Proof/Laws/State.lean ====
section
/-! SUPPORT. What each small update of the state leaves: one lemma per field it does not touch, and the read of what it writes. -/

namespace Sys2Proof.Machine

/-! ### wr -/

@[simp] theorem wr_pending (s : State) (a : Nat) (v : Word) : (wr s a v).pending = s.pending := (rfl)
@[simp] theorem wr_outResp (s : State) (a : Nat) (v : Word) : (wr s a v).outResp = s.outResp := (rfl)
@[simp] theorem wr_outData (s : State) (a : Nat) (v : Word) : (wr s a v).outData = s.outData := (rfl)
@[simp] theorem wr_free (s : State) (a : Nat) (v : Word) : (wr s a v).free = s.free := (rfl)
@[simp] theorem wr_dev (s : State) (a : Nat) (v : Word) : (wr s a v).dev = s.dev := (rfl)
@[simp] theorem wr_prevDev (s : State) (a : Nat) (v : Word) : (wr s a v).prevDev = s.prevDev := (rfl)
@[simp] theorem wr_cause (s : State) (a : Nat) (v : Word) : (wr s a v).cause = s.cause := (rfl)
@[simp] theorem wr_tb (s : State) (a : Nat) (v : Word) : (wr s a v).tb = s.tb := (rfl)
@[simp] theorem wr_host (s : State) (a : Nat) (v : Word) : (wr s a v).host = s.host := (rfl)
@[simp] theorem wr_dbg (s : State) (a : Nat) (v : Word) : (wr s a v).dbg = s.dbg := (rfl)
@[simp] theorem wr_engs (s : State) (a : Nat) (v : Word) : (wr s a v).engs = s.engs := (rfl)
@[simp] theorem wr_grvs (s : State) (a : Nat) (v : Word) : (wr s a v).grvs = s.grvs := (rfl)
@[simp] theorem wr_lake (s : State) (a : Nat) (v : Word) : (wr s a v).lake = s.lake := (rfl)
@[simp] theorem wr_lfsr16 (s : State) (a : Nat) (v : Word) : (wr s a v).lfsr16 = s.lfsr16 := (rfl)
@[simp] theorem wr_mem (s : State) (a : Nat) (v : Word) : (wr s a v).mem = s.mem := (rfl)
@[simp] theorem wr_tarnErr (s : State) (a : Nat) (v : Word) : (wr s a v).tarnErr = s.tarnErr := (rfl)
@[simp] theorem wr_corrQ (s : State) (a : Nat) (v : Word) : (wr s a v).corrQ = s.corrQ := (rfl)
@[simp] theorem wr_scrubPos (s : State) (a : Nat) (v : Word) : (wr s a v).scrubPos = s.scrubPos := (rfl)
@[simp] theorem wr_ownPend (s : State) (a : Nat) (v : Word) : (wr s a v).ownPend = s.ownPend := (rfl)
@[simp] theorem wr_outerErr (s : State) (a : Nat) (v : Word) : (wr s a v).outerErr = s.outerErr := (rfl)
@[simp] theorem wr_nchm (s : State) (a : Nat) (v : Word) : (wr s a v).nchm = s.nchm := (rfl)
@[simp] theorem wr_cmx (s : State) (a : Nat) (v : Word) : (wr s a v).cmx = s.cmx := (rfl)
@[simp] theorem wr_pwr (s : State) (a : Nat) (v : Word) : (wr s a v).pwr = s.pwr := (rfl)
@[simp] theorem wr_dbgSt (s : State) (a : Nat) (v : Word) : (wr s a v).dbgSt = s.dbgSt := (rfl)
@[simp] theorem wr_fuse (s : State) (a : Nat) (v : Word) : (wr s a v).fuse = s.fuse := (rfl)
@[simp] theorem wr_act (s : State) (a : Nat) (v : Word) : (wr s a v).act = s.act := (rfl)
@[simp] theorem wr_jPend (s : State) (a : Nat) (v : Word) : (wr s a v).jPend = s.jPend := (rfl)
@[simp] theorem wr_jRel (s : State) (a : Nat) (v : Word) : (wr s a v).jRel = s.jRel := (rfl)
@[simp] theorem wr_flt (s : State) (a : Nat) (v : Word) : (wr s a v).flt = s.flt := (rfl)
@[simp] theorem wr_safeReq (s : State) (a : Nat) (v : Word) : (wr s a v).safeReq = s.safeReq := (rfl)
@[simp] theorem wr_fenceReq (s : State) (a : Nat) (v : Word) : (wr s a v).fenceReq = s.fenceReq := (rfl)
@[simp] theorem wr_wspStopped (s : State) (a : Nat) (v : Word) : (wr s a v).wspStopped = s.wspStopped := (rfl)
@[simp] theorem wr_evq (s : State) (a : Nat) (v : Word) : (wr s a v).evq = s.evq := (rfl)
@[simp] theorem wr_apps (s : State) (a : Nat) (v : Word) : (wr s a v).apps = s.apps := (rfl)
@[simp] theorem wr_cutSince (s : State) (a : Nat) (v : Word) : (wr s a v).cutSince = s.cutSince := (rfl)
@[simp] theorem wr_routes (s : State) (a : Nat) (v : Word) : (wr s a v).routes = s.routes := (rfl)
@[simp] theorem wr_waitRoutes (s : State) (a : Nat) (v : Word) : (wr s a v).waitRoutes = s.waitRoutes := (rfl)
@[simp] theorem wr_valRoutes (s : State) (a : Nat) (v : Word) : (wr s a v).valRoutes = s.valRoutes := (rfl)
@[simp] theorem wr_att (s : State) (a : Nat) (v : Word) : (wr s a v).att = s.att := (rfl)
@[simp] theorem wr_attLast (s : State) (a : Nat) (v : Word) : (wr s a v).attLast = s.attLast := (rfl)
@[simp] theorem wr_holdRun (s : State) (a : Nat) (v : Word) : (wr s a v).holdRun = s.holdRun := (rfl)
@[simp] theorem wr_ucErr (s : State) (a : Nat) (v : Word) : (wr s a v).ucErr = s.ucErr := (rfl)
@[simp] theorem wr_upatch (s : State) (a : Nat) (v : Word) : (wr s a v).upatch = s.upatch := (rfl)
@[simp] theorem wr_bnd (s : State) (a : Nat) (v : Word) : (wr s a v).bnd = s.bnd := (rfl)
@[simp] theorem wr_twin (s : State) (a : Nat) (v : Word) : (wr s a v).twin = s.twin := (rfl)
@[simp] theorem wr_edit (s : State) (a : Nat) (v : Word) : (wr s a v).edit = s.edit := (rfl)
@[simp] theorem wr_shadow (s : State) (a : Nat) (v : Word) : (wr s a v).shadow = s.shadow := (rfl)
@[simp] theorem wr_outQ (s : State) (a : Nat) (v : Word) : (wr s a v).outQ = s.outQ := (rfl)
@[simp] theorem wr_inQ (s : State) (a : Nat) (v : Word) : (wr s a v).inQ = s.inQ := (rfl)
@[simp] theorem wr_shr (s : State) (a : Nat) (v : Word) : (wr s a v).shr = s.shr := (rfl)
@[simp] theorem wr_cvu (s : State) (a : Nat) (v : Word) : (wr s a v).cvu = s.cvu := (rfl)
@[simp] theorem wr_vjob (s : State) (a : Nat) (v : Word) : (wr s a v).vjob = s.vjob := (rfl)
@[simp] theorem wr_mbx (s : State) (a : Nat) (v : Word) : (wr s a v).mbx = s.mbx := (rfl)
@[simp] theorem wr_goQ (s : State) (a : Nat) (v : Word) : (wr s a v).goQ = s.goQ := (rfl)
@[simp] theorem wr_sessions (s : State) (a : Nat) (v : Word) : (wr s a v).sessions = s.sessions := (rfl)
@[simp] theorem wr_openCnt (s : State) (a : Nat) (v : Word) : (wr s a v).openCnt = s.openCnt := (rfl)
@[simp] theorem wr_authFail (s : State) (a : Nat) (v : Word) : (wr s a v).authFail = s.authFail := (rfl)
@[simp] theorem wr_authLock (s : State) (a : Nat) (v : Word) : (wr s a v).authLock = s.authLock := (rfl)
@[simp] theorem wr_waits (s : State) (a : Nat) (v : Word) : (wr s a v).waits = s.waits := (rfl)
@[simp] theorem wr_defs (s : State) (a : Nat) (v : Word) : (wr s a v).defs = s.defs := (rfl)
@[simp] theorem wr_flash (s : State) (a : Nat) (v : Word) : (wr s a v).flash = s.flash := (rfl)
@[simp] theorem wr_boot (s : State) (a : Nat) (v : Word) : (wr s a v).boot = s.boot := (rfl)
@[simp] theorem wr_prepared (s : State) (a : Nat) (v : Word) : (wr s a v).prepared = s.prepared := (rfl)
@[simp] theorem wr_noSpare (s : State) (a : Nat) (v : Word) : (wr s a v).noSpare = s.noSpare := (rfl)
@[simp] theorem wr_frozen (s : State) (a : Nat) (v : Word) : (wr s a v).frozen = s.frozen := (rfl)
@[simp] theorem wr_captured (s : State) (a : Nat) (v : Word) : (wr s a v).captured = s.captured := (rfl)
@[simp] theorem wr_wdSet (s : State) (a : Nat) (v : Word) : (wr s a v).wdSet = s.wdSet := (rfl)
@[simp] theorem wr_rstSrc (s : State) (a : Nat) (v : Word) : (wr s a v).rstSrc = s.rstSrc := (rfl)
@[simp] theorem wr_fuseDone (s : State) (a : Nat) (v : Word) : (wr s a v).fuseDone = s.fuseDone := (rfl)
@[simp] theorem wr_devHalt (s : State) (a : Nat) (v : Word) : (wr s a v).devHalt = s.devHalt := (rfl)
@[simp] theorem wr_auxHeld (s : State) (a : Nat) (v : Word) : (wr s a v).auxHeld = s.auxHeld := (rfl)

/-! ### wf -/

@[simp] theorem wf_pending (s : State) (a hi lo v : Nat) : (wf s a hi lo v).pending = s.pending := (rfl)
@[simp] theorem wf_outResp (s : State) (a hi lo v : Nat) : (wf s a hi lo v).outResp = s.outResp := (rfl)
@[simp] theorem wf_outData (s : State) (a hi lo v : Nat) : (wf s a hi lo v).outData = s.outData := (rfl)
@[simp] theorem wf_free (s : State) (a hi lo v : Nat) : (wf s a hi lo v).free = s.free := (rfl)
@[simp] theorem wf_dev (s : State) (a hi lo v : Nat) : (wf s a hi lo v).dev = s.dev := (rfl)
@[simp] theorem wf_prevDev (s : State) (a hi lo v : Nat) : (wf s a hi lo v).prevDev = s.prevDev := (rfl)
@[simp] theorem wf_cause (s : State) (a hi lo v : Nat) : (wf s a hi lo v).cause = s.cause := (rfl)
@[simp] theorem wf_tb (s : State) (a hi lo v : Nat) : (wf s a hi lo v).tb = s.tb := (rfl)
@[simp] theorem wf_host (s : State) (a hi lo v : Nat) : (wf s a hi lo v).host = s.host := (rfl)
@[simp] theorem wf_dbg (s : State) (a hi lo v : Nat) : (wf s a hi lo v).dbg = s.dbg := (rfl)
@[simp] theorem wf_engs (s : State) (a hi lo v : Nat) : (wf s a hi lo v).engs = s.engs := (rfl)
@[simp] theorem wf_grvs (s : State) (a hi lo v : Nat) : (wf s a hi lo v).grvs = s.grvs := (rfl)
@[simp] theorem wf_lake (s : State) (a hi lo v : Nat) : (wf s a hi lo v).lake = s.lake := (rfl)
@[simp] theorem wf_lfsr16 (s : State) (a hi lo v : Nat) : (wf s a hi lo v).lfsr16 = s.lfsr16 := (rfl)
@[simp] theorem wf_mem (s : State) (a hi lo v : Nat) : (wf s a hi lo v).mem = s.mem := (rfl)
@[simp] theorem wf_tarnErr (s : State) (a hi lo v : Nat) : (wf s a hi lo v).tarnErr = s.tarnErr := (rfl)
@[simp] theorem wf_corrQ (s : State) (a hi lo v : Nat) : (wf s a hi lo v).corrQ = s.corrQ := (rfl)
@[simp] theorem wf_scrubPos (s : State) (a hi lo v : Nat) : (wf s a hi lo v).scrubPos = s.scrubPos := (rfl)
@[simp] theorem wf_ownPend (s : State) (a hi lo v : Nat) : (wf s a hi lo v).ownPend = s.ownPend := (rfl)
@[simp] theorem wf_outerErr (s : State) (a hi lo v : Nat) : (wf s a hi lo v).outerErr = s.outerErr := (rfl)
@[simp] theorem wf_nchm (s : State) (a hi lo v : Nat) : (wf s a hi lo v).nchm = s.nchm := (rfl)
@[simp] theorem wf_cmx (s : State) (a hi lo v : Nat) : (wf s a hi lo v).cmx = s.cmx := (rfl)
@[simp] theorem wf_pwr (s : State) (a hi lo v : Nat) : (wf s a hi lo v).pwr = s.pwr := (rfl)
@[simp] theorem wf_dbgSt (s : State) (a hi lo v : Nat) : (wf s a hi lo v).dbgSt = s.dbgSt := (rfl)
@[simp] theorem wf_fuse (s : State) (a hi lo v : Nat) : (wf s a hi lo v).fuse = s.fuse := (rfl)
@[simp] theorem wf_act (s : State) (a hi lo v : Nat) : (wf s a hi lo v).act = s.act := (rfl)
@[simp] theorem wf_jPend (s : State) (a hi lo v : Nat) : (wf s a hi lo v).jPend = s.jPend := (rfl)
@[simp] theorem wf_jRel (s : State) (a hi lo v : Nat) : (wf s a hi lo v).jRel = s.jRel := (rfl)
@[simp] theorem wf_flt (s : State) (a hi lo v : Nat) : (wf s a hi lo v).flt = s.flt := (rfl)
@[simp] theorem wf_safeReq (s : State) (a hi lo v : Nat) : (wf s a hi lo v).safeReq = s.safeReq := (rfl)
@[simp] theorem wf_fenceReq (s : State) (a hi lo v : Nat) : (wf s a hi lo v).fenceReq = s.fenceReq := (rfl)
@[simp] theorem wf_wspStopped (s : State) (a hi lo v : Nat) : (wf s a hi lo v).wspStopped = s.wspStopped := (rfl)
@[simp] theorem wf_evq (s : State) (a hi lo v : Nat) : (wf s a hi lo v).evq = s.evq := (rfl)
@[simp] theorem wf_apps (s : State) (a hi lo v : Nat) : (wf s a hi lo v).apps = s.apps := (rfl)
@[simp] theorem wf_cutSince (s : State) (a hi lo v : Nat) : (wf s a hi lo v).cutSince = s.cutSince := (rfl)
@[simp] theorem wf_routes (s : State) (a hi lo v : Nat) : (wf s a hi lo v).routes = s.routes := (rfl)
@[simp] theorem wf_waitRoutes (s : State) (a hi lo v : Nat) : (wf s a hi lo v).waitRoutes = s.waitRoutes := (rfl)
@[simp] theorem wf_valRoutes (s : State) (a hi lo v : Nat) : (wf s a hi lo v).valRoutes = s.valRoutes := (rfl)
@[simp] theorem wf_att (s : State) (a hi lo v : Nat) : (wf s a hi lo v).att = s.att := (rfl)
@[simp] theorem wf_attLast (s : State) (a hi lo v : Nat) : (wf s a hi lo v).attLast = s.attLast := (rfl)
@[simp] theorem wf_holdRun (s : State) (a hi lo v : Nat) : (wf s a hi lo v).holdRun = s.holdRun := (rfl)
@[simp] theorem wf_ucErr (s : State) (a hi lo v : Nat) : (wf s a hi lo v).ucErr = s.ucErr := (rfl)
@[simp] theorem wf_upatch (s : State) (a hi lo v : Nat) : (wf s a hi lo v).upatch = s.upatch := (rfl)
@[simp] theorem wf_bnd (s : State) (a hi lo v : Nat) : (wf s a hi lo v).bnd = s.bnd := (rfl)
@[simp] theorem wf_twin (s : State) (a hi lo v : Nat) : (wf s a hi lo v).twin = s.twin := (rfl)
@[simp] theorem wf_edit (s : State) (a hi lo v : Nat) : (wf s a hi lo v).edit = s.edit := (rfl)
@[simp] theorem wf_shadow (s : State) (a hi lo v : Nat) : (wf s a hi lo v).shadow = s.shadow := (rfl)
@[simp] theorem wf_outQ (s : State) (a hi lo v : Nat) : (wf s a hi lo v).outQ = s.outQ := (rfl)
@[simp] theorem wf_inQ (s : State) (a hi lo v : Nat) : (wf s a hi lo v).inQ = s.inQ := (rfl)
@[simp] theorem wf_shr (s : State) (a hi lo v : Nat) : (wf s a hi lo v).shr = s.shr := (rfl)
@[simp] theorem wf_cvu (s : State) (a hi lo v : Nat) : (wf s a hi lo v).cvu = s.cvu := (rfl)
@[simp] theorem wf_vjob (s : State) (a hi lo v : Nat) : (wf s a hi lo v).vjob = s.vjob := (rfl)
@[simp] theorem wf_mbx (s : State) (a hi lo v : Nat) : (wf s a hi lo v).mbx = s.mbx := (rfl)
@[simp] theorem wf_goQ (s : State) (a hi lo v : Nat) : (wf s a hi lo v).goQ = s.goQ := (rfl)
@[simp] theorem wf_sessions (s : State) (a hi lo v : Nat) : (wf s a hi lo v).sessions = s.sessions := (rfl)
@[simp] theorem wf_openCnt (s : State) (a hi lo v : Nat) : (wf s a hi lo v).openCnt = s.openCnt := (rfl)
@[simp] theorem wf_authFail (s : State) (a hi lo v : Nat) : (wf s a hi lo v).authFail = s.authFail := (rfl)
@[simp] theorem wf_authLock (s : State) (a hi lo v : Nat) : (wf s a hi lo v).authLock = s.authLock := (rfl)
@[simp] theorem wf_waits (s : State) (a hi lo v : Nat) : (wf s a hi lo v).waits = s.waits := (rfl)
@[simp] theorem wf_defs (s : State) (a hi lo v : Nat) : (wf s a hi lo v).defs = s.defs := (rfl)
@[simp] theorem wf_flash (s : State) (a hi lo v : Nat) : (wf s a hi lo v).flash = s.flash := (rfl)
@[simp] theorem wf_boot (s : State) (a hi lo v : Nat) : (wf s a hi lo v).boot = s.boot := (rfl)
@[simp] theorem wf_prepared (s : State) (a hi lo v : Nat) : (wf s a hi lo v).prepared = s.prepared := (rfl)
@[simp] theorem wf_noSpare (s : State) (a hi lo v : Nat) : (wf s a hi lo v).noSpare = s.noSpare := (rfl)
@[simp] theorem wf_frozen (s : State) (a hi lo v : Nat) : (wf s a hi lo v).frozen = s.frozen := (rfl)
@[simp] theorem wf_captured (s : State) (a hi lo v : Nat) : (wf s a hi lo v).captured = s.captured := (rfl)
@[simp] theorem wf_wdSet (s : State) (a hi lo v : Nat) : (wf s a hi lo v).wdSet = s.wdSet := (rfl)
@[simp] theorem wf_rstSrc (s : State) (a hi lo v : Nat) : (wf s a hi lo v).rstSrc = s.rstSrc := (rfl)
@[simp] theorem wf_fuseDone (s : State) (a hi lo v : Nat) : (wf s a hi lo v).fuseDone = s.fuseDone := (rfl)
@[simp] theorem wf_devHalt (s : State) (a hi lo v : Nat) : (wf s a hi lo v).devHalt = s.devHalt := (rfl)
@[simp] theorem wf_auxHeld (s : State) (a hi lo v : Nat) : (wf s a hi lo v).auxHeld = s.auxHeld := (rfl)

/-! ### sb -/

@[simp] theorem sb_pending (s : State) (a i : Nat) (b : Bool) : (sb s a i b).pending = s.pending := (rfl)
@[simp] theorem sb_outResp (s : State) (a i : Nat) (b : Bool) : (sb s a i b).outResp = s.outResp := (rfl)
@[simp] theorem sb_outData (s : State) (a i : Nat) (b : Bool) : (sb s a i b).outData = s.outData := (rfl)
@[simp] theorem sb_free (s : State) (a i : Nat) (b : Bool) : (sb s a i b).free = s.free := (rfl)
@[simp] theorem sb_dev (s : State) (a i : Nat) (b : Bool) : (sb s a i b).dev = s.dev := (rfl)
@[simp] theorem sb_prevDev (s : State) (a i : Nat) (b : Bool) : (sb s a i b).prevDev = s.prevDev := (rfl)
@[simp] theorem sb_cause (s : State) (a i : Nat) (b : Bool) : (sb s a i b).cause = s.cause := (rfl)
@[simp] theorem sb_tb (s : State) (a i : Nat) (b : Bool) : (sb s a i b).tb = s.tb := (rfl)
@[simp] theorem sb_host (s : State) (a i : Nat) (b : Bool) : (sb s a i b).host = s.host := (rfl)
@[simp] theorem sb_dbg (s : State) (a i : Nat) (b : Bool) : (sb s a i b).dbg = s.dbg := (rfl)
@[simp] theorem sb_engs (s : State) (a i : Nat) (b : Bool) : (sb s a i b).engs = s.engs := (rfl)
@[simp] theorem sb_grvs (s : State) (a i : Nat) (b : Bool) : (sb s a i b).grvs = s.grvs := (rfl)
@[simp] theorem sb_lake (s : State) (a i : Nat) (b : Bool) : (sb s a i b).lake = s.lake := (rfl)
@[simp] theorem sb_lfsr16 (s : State) (a i : Nat) (b : Bool) : (sb s a i b).lfsr16 = s.lfsr16 := (rfl)
@[simp] theorem sb_mem (s : State) (a i : Nat) (b : Bool) : (sb s a i b).mem = s.mem := (rfl)
@[simp] theorem sb_tarnErr (s : State) (a i : Nat) (b : Bool) : (sb s a i b).tarnErr = s.tarnErr := (rfl)
@[simp] theorem sb_corrQ (s : State) (a i : Nat) (b : Bool) : (sb s a i b).corrQ = s.corrQ := (rfl)
@[simp] theorem sb_scrubPos (s : State) (a i : Nat) (b : Bool) : (sb s a i b).scrubPos = s.scrubPos := (rfl)
@[simp] theorem sb_ownPend (s : State) (a i : Nat) (b : Bool) : (sb s a i b).ownPend = s.ownPend := (rfl)
@[simp] theorem sb_outerErr (s : State) (a i : Nat) (b : Bool) : (sb s a i b).outerErr = s.outerErr := (rfl)
@[simp] theorem sb_nchm (s : State) (a i : Nat) (b : Bool) : (sb s a i b).nchm = s.nchm := (rfl)
@[simp] theorem sb_cmx (s : State) (a i : Nat) (b : Bool) : (sb s a i b).cmx = s.cmx := (rfl)
@[simp] theorem sb_pwr (s : State) (a i : Nat) (b : Bool) : (sb s a i b).pwr = s.pwr := (rfl)
@[simp] theorem sb_dbgSt (s : State) (a i : Nat) (b : Bool) : (sb s a i b).dbgSt = s.dbgSt := (rfl)
@[simp] theorem sb_fuse (s : State) (a i : Nat) (b : Bool) : (sb s a i b).fuse = s.fuse := (rfl)
@[simp] theorem sb_act (s : State) (a i : Nat) (b : Bool) : (sb s a i b).act = s.act := (rfl)
@[simp] theorem sb_jPend (s : State) (a i : Nat) (b : Bool) : (sb s a i b).jPend = s.jPend := (rfl)
@[simp] theorem sb_jRel (s : State) (a i : Nat) (b : Bool) : (sb s a i b).jRel = s.jRel := (rfl)
@[simp] theorem sb_flt (s : State) (a i : Nat) (b : Bool) : (sb s a i b).flt = s.flt := (rfl)
@[simp] theorem sb_safeReq (s : State) (a i : Nat) (b : Bool) : (sb s a i b).safeReq = s.safeReq := (rfl)
@[simp] theorem sb_fenceReq (s : State) (a i : Nat) (b : Bool) : (sb s a i b).fenceReq = s.fenceReq := (rfl)
@[simp] theorem sb_wspStopped (s : State) (a i : Nat) (b : Bool) : (sb s a i b).wspStopped = s.wspStopped := (rfl)
@[simp] theorem sb_evq (s : State) (a i : Nat) (b : Bool) : (sb s a i b).evq = s.evq := (rfl)
@[simp] theorem sb_apps (s : State) (a i : Nat) (b : Bool) : (sb s a i b).apps = s.apps := (rfl)
@[simp] theorem sb_cutSince (s : State) (a i : Nat) (b : Bool) : (sb s a i b).cutSince = s.cutSince := (rfl)
@[simp] theorem sb_routes (s : State) (a i : Nat) (b : Bool) : (sb s a i b).routes = s.routes := (rfl)
@[simp] theorem sb_waitRoutes (s : State) (a i : Nat) (b : Bool) : (sb s a i b).waitRoutes = s.waitRoutes := (rfl)
@[simp] theorem sb_valRoutes (s : State) (a i : Nat) (b : Bool) : (sb s a i b).valRoutes = s.valRoutes := (rfl)
@[simp] theorem sb_att (s : State) (a i : Nat) (b : Bool) : (sb s a i b).att = s.att := (rfl)
@[simp] theorem sb_attLast (s : State) (a i : Nat) (b : Bool) : (sb s a i b).attLast = s.attLast := (rfl)
@[simp] theorem sb_holdRun (s : State) (a i : Nat) (b : Bool) : (sb s a i b).holdRun = s.holdRun := (rfl)
@[simp] theorem sb_ucErr (s : State) (a i : Nat) (b : Bool) : (sb s a i b).ucErr = s.ucErr := (rfl)
@[simp] theorem sb_upatch (s : State) (a i : Nat) (b : Bool) : (sb s a i b).upatch = s.upatch := (rfl)
@[simp] theorem sb_bnd (s : State) (a i : Nat) (b : Bool) : (sb s a i b).bnd = s.bnd := (rfl)
@[simp] theorem sb_twin (s : State) (a i : Nat) (b : Bool) : (sb s a i b).twin = s.twin := (rfl)
@[simp] theorem sb_edit (s : State) (a i : Nat) (b : Bool) : (sb s a i b).edit = s.edit := (rfl)
@[simp] theorem sb_shadow (s : State) (a i : Nat) (b : Bool) : (sb s a i b).shadow = s.shadow := (rfl)
@[simp] theorem sb_outQ (s : State) (a i : Nat) (b : Bool) : (sb s a i b).outQ = s.outQ := (rfl)
@[simp] theorem sb_inQ (s : State) (a i : Nat) (b : Bool) : (sb s a i b).inQ = s.inQ := (rfl)
@[simp] theorem sb_shr (s : State) (a i : Nat) (b : Bool) : (sb s a i b).shr = s.shr := (rfl)
@[simp] theorem sb_cvu (s : State) (a i : Nat) (b : Bool) : (sb s a i b).cvu = s.cvu := (rfl)
@[simp] theorem sb_vjob (s : State) (a i : Nat) (b : Bool) : (sb s a i b).vjob = s.vjob := (rfl)
@[simp] theorem sb_mbx (s : State) (a i : Nat) (b : Bool) : (sb s a i b).mbx = s.mbx := (rfl)
@[simp] theorem sb_goQ (s : State) (a i : Nat) (b : Bool) : (sb s a i b).goQ = s.goQ := (rfl)
@[simp] theorem sb_sessions (s : State) (a i : Nat) (b : Bool) : (sb s a i b).sessions = s.sessions := (rfl)
@[simp] theorem sb_openCnt (s : State) (a i : Nat) (b : Bool) : (sb s a i b).openCnt = s.openCnt := (rfl)
@[simp] theorem sb_authFail (s : State) (a i : Nat) (b : Bool) : (sb s a i b).authFail = s.authFail := (rfl)
@[simp] theorem sb_authLock (s : State) (a i : Nat) (b : Bool) : (sb s a i b).authLock = s.authLock := (rfl)
@[simp] theorem sb_waits (s : State) (a i : Nat) (b : Bool) : (sb s a i b).waits = s.waits := (rfl)
@[simp] theorem sb_defs (s : State) (a i : Nat) (b : Bool) : (sb s a i b).defs = s.defs := (rfl)
@[simp] theorem sb_flash (s : State) (a i : Nat) (b : Bool) : (sb s a i b).flash = s.flash := (rfl)
@[simp] theorem sb_boot (s : State) (a i : Nat) (b : Bool) : (sb s a i b).boot = s.boot := (rfl)
@[simp] theorem sb_prepared (s : State) (a i : Nat) (b : Bool) : (sb s a i b).prepared = s.prepared := (rfl)
@[simp] theorem sb_noSpare (s : State) (a i : Nat) (b : Bool) : (sb s a i b).noSpare = s.noSpare := (rfl)
@[simp] theorem sb_frozen (s : State) (a i : Nat) (b : Bool) : (sb s a i b).frozen = s.frozen := (rfl)
@[simp] theorem sb_captured (s : State) (a i : Nat) (b : Bool) : (sb s a i b).captured = s.captured := (rfl)
@[simp] theorem sb_wdSet (s : State) (a i : Nat) (b : Bool) : (sb s a i b).wdSet = s.wdSet := (rfl)
@[simp] theorem sb_rstSrc (s : State) (a i : Nat) (b : Bool) : (sb s a i b).rstSrc = s.rstSrc := (rfl)
@[simp] theorem sb_fuseDone (s : State) (a i : Nat) (b : Bool) : (sb s a i b).fuseDone = s.fuseDone := (rfl)
@[simp] theorem sb_devHalt (s : State) (a i : Nat) (b : Bool) : (sb s a i b).devHalt = s.devHalt := (rfl)
@[simp] theorem sb_auxHeld (s : State) (a i : Nat) (b : Bool) : (sb s a i b).auxHeld = s.auxHeld := (rfl)

/-! ### hostWr -/

@[simp] theorem hostWr_pending (s : State) (a : Nat) (v : Word) : (hostWr s a v).pending = s.pending := (rfl)
@[simp] theorem hostWr_outResp (s : State) (a : Nat) (v : Word) : (hostWr s a v).outResp = s.outResp := (rfl)
@[simp] theorem hostWr_outData (s : State) (a : Nat) (v : Word) : (hostWr s a v).outData = s.outData := (rfl)
@[simp] theorem hostWr_free (s : State) (a : Nat) (v : Word) : (hostWr s a v).free = s.free := (rfl)
@[simp] theorem hostWr_dev (s : State) (a : Nat) (v : Word) : (hostWr s a v).dev = s.dev := (rfl)
@[simp] theorem hostWr_prevDev (s : State) (a : Nat) (v : Word) : (hostWr s a v).prevDev = s.prevDev := (rfl)
@[simp] theorem hostWr_cause (s : State) (a : Nat) (v : Word) : (hostWr s a v).cause = s.cause := (rfl)
@[simp] theorem hostWr_tb (s : State) (a : Nat) (v : Word) : (hostWr s a v).tb = s.tb := (rfl)
@[simp] theorem hostWr_io (s : State) (a : Nat) (v : Word) : (hostWr s a v).io = s.io := (rfl)
@[simp] theorem hostWr_dbg (s : State) (a : Nat) (v : Word) : (hostWr s a v).dbg = s.dbg := (rfl)
@[simp] theorem hostWr_engs (s : State) (a : Nat) (v : Word) : (hostWr s a v).engs = s.engs := (rfl)
@[simp] theorem hostWr_grvs (s : State) (a : Nat) (v : Word) : (hostWr s a v).grvs = s.grvs := (rfl)
@[simp] theorem hostWr_lake (s : State) (a : Nat) (v : Word) : (hostWr s a v).lake = s.lake := (rfl)
@[simp] theorem hostWr_lfsr16 (s : State) (a : Nat) (v : Word) : (hostWr s a v).lfsr16 = s.lfsr16 := (rfl)
@[simp] theorem hostWr_mem (s : State) (a : Nat) (v : Word) : (hostWr s a v).mem = s.mem := (rfl)
@[simp] theorem hostWr_tarnErr (s : State) (a : Nat) (v : Word) : (hostWr s a v).tarnErr = s.tarnErr := (rfl)
@[simp] theorem hostWr_corrQ (s : State) (a : Nat) (v : Word) : (hostWr s a v).corrQ = s.corrQ := (rfl)
@[simp] theorem hostWr_scrubPos (s : State) (a : Nat) (v : Word) : (hostWr s a v).scrubPos = s.scrubPos := (rfl)
@[simp] theorem hostWr_ownPend (s : State) (a : Nat) (v : Word) : (hostWr s a v).ownPend = s.ownPend := (rfl)
@[simp] theorem hostWr_outerErr (s : State) (a : Nat) (v : Word) : (hostWr s a v).outerErr = s.outerErr := (rfl)
@[simp] theorem hostWr_nchm (s : State) (a : Nat) (v : Word) : (hostWr s a v).nchm = s.nchm := (rfl)
@[simp] theorem hostWr_cmx (s : State) (a : Nat) (v : Word) : (hostWr s a v).cmx = s.cmx := (rfl)
@[simp] theorem hostWr_pwr (s : State) (a : Nat) (v : Word) : (hostWr s a v).pwr = s.pwr := (rfl)
@[simp] theorem hostWr_dbgSt (s : State) (a : Nat) (v : Word) : (hostWr s a v).dbgSt = s.dbgSt := (rfl)
@[simp] theorem hostWr_fuse (s : State) (a : Nat) (v : Word) : (hostWr s a v).fuse = s.fuse := (rfl)
@[simp] theorem hostWr_act (s : State) (a : Nat) (v : Word) : (hostWr s a v).act = s.act := (rfl)
@[simp] theorem hostWr_jPend (s : State) (a : Nat) (v : Word) : (hostWr s a v).jPend = s.jPend := (rfl)
@[simp] theorem hostWr_jRel (s : State) (a : Nat) (v : Word) : (hostWr s a v).jRel = s.jRel := (rfl)
@[simp] theorem hostWr_flt (s : State) (a : Nat) (v : Word) : (hostWr s a v).flt = s.flt := (rfl)
@[simp] theorem hostWr_safeReq (s : State) (a : Nat) (v : Word) : (hostWr s a v).safeReq = s.safeReq := (rfl)
@[simp] theorem hostWr_fenceReq (s : State) (a : Nat) (v : Word) : (hostWr s a v).fenceReq = s.fenceReq := (rfl)
@[simp] theorem hostWr_wspStopped (s : State) (a : Nat) (v : Word) : (hostWr s a v).wspStopped = s.wspStopped := (rfl)
@[simp] theorem hostWr_evq (s : State) (a : Nat) (v : Word) : (hostWr s a v).evq = s.evq := (rfl)
@[simp] theorem hostWr_apps (s : State) (a : Nat) (v : Word) : (hostWr s a v).apps = s.apps := (rfl)
@[simp] theorem hostWr_cutSince (s : State) (a : Nat) (v : Word) : (hostWr s a v).cutSince = s.cutSince := (rfl)
@[simp] theorem hostWr_routes (s : State) (a : Nat) (v : Word) : (hostWr s a v).routes = s.routes := (rfl)
@[simp] theorem hostWr_waitRoutes (s : State) (a : Nat) (v : Word) : (hostWr s a v).waitRoutes = s.waitRoutes := (rfl)
@[simp] theorem hostWr_valRoutes (s : State) (a : Nat) (v : Word) : (hostWr s a v).valRoutes = s.valRoutes := (rfl)
@[simp] theorem hostWr_att (s : State) (a : Nat) (v : Word) : (hostWr s a v).att = s.att := (rfl)
@[simp] theorem hostWr_attLast (s : State) (a : Nat) (v : Word) : (hostWr s a v).attLast = s.attLast := (rfl)
@[simp] theorem hostWr_holdRun (s : State) (a : Nat) (v : Word) : (hostWr s a v).holdRun = s.holdRun := (rfl)
@[simp] theorem hostWr_ucErr (s : State) (a : Nat) (v : Word) : (hostWr s a v).ucErr = s.ucErr := (rfl)
@[simp] theorem hostWr_upatch (s : State) (a : Nat) (v : Word) : (hostWr s a v).upatch = s.upatch := (rfl)
@[simp] theorem hostWr_bnd (s : State) (a : Nat) (v : Word) : (hostWr s a v).bnd = s.bnd := (rfl)
@[simp] theorem hostWr_twin (s : State) (a : Nat) (v : Word) : (hostWr s a v).twin = s.twin := (rfl)
@[simp] theorem hostWr_edit (s : State) (a : Nat) (v : Word) : (hostWr s a v).edit = s.edit := (rfl)
@[simp] theorem hostWr_shadow (s : State) (a : Nat) (v : Word) : (hostWr s a v).shadow = s.shadow := (rfl)
@[simp] theorem hostWr_outQ (s : State) (a : Nat) (v : Word) : (hostWr s a v).outQ = s.outQ := (rfl)
@[simp] theorem hostWr_inQ (s : State) (a : Nat) (v : Word) : (hostWr s a v).inQ = s.inQ := (rfl)
@[simp] theorem hostWr_shr (s : State) (a : Nat) (v : Word) : (hostWr s a v).shr = s.shr := (rfl)
@[simp] theorem hostWr_cvu (s : State) (a : Nat) (v : Word) : (hostWr s a v).cvu = s.cvu := (rfl)
@[simp] theorem hostWr_vjob (s : State) (a : Nat) (v : Word) : (hostWr s a v).vjob = s.vjob := (rfl)
@[simp] theorem hostWr_mbx (s : State) (a : Nat) (v : Word) : (hostWr s a v).mbx = s.mbx := (rfl)
@[simp] theorem hostWr_goQ (s : State) (a : Nat) (v : Word) : (hostWr s a v).goQ = s.goQ := (rfl)
@[simp] theorem hostWr_sessions (s : State) (a : Nat) (v : Word) : (hostWr s a v).sessions = s.sessions := (rfl)
@[simp] theorem hostWr_openCnt (s : State) (a : Nat) (v : Word) : (hostWr s a v).openCnt = s.openCnt := (rfl)
@[simp] theorem hostWr_authFail (s : State) (a : Nat) (v : Word) : (hostWr s a v).authFail = s.authFail := (rfl)
@[simp] theorem hostWr_authLock (s : State) (a : Nat) (v : Word) : (hostWr s a v).authLock = s.authLock := (rfl)
@[simp] theorem hostWr_waits (s : State) (a : Nat) (v : Word) : (hostWr s a v).waits = s.waits := (rfl)
@[simp] theorem hostWr_defs (s : State) (a : Nat) (v : Word) : (hostWr s a v).defs = s.defs := (rfl)
@[simp] theorem hostWr_flash (s : State) (a : Nat) (v : Word) : (hostWr s a v).flash = s.flash := (rfl)
@[simp] theorem hostWr_boot (s : State) (a : Nat) (v : Word) : (hostWr s a v).boot = s.boot := (rfl)
@[simp] theorem hostWr_prepared (s : State) (a : Nat) (v : Word) : (hostWr s a v).prepared = s.prepared := (rfl)
@[simp] theorem hostWr_noSpare (s : State) (a : Nat) (v : Word) : (hostWr s a v).noSpare = s.noSpare := (rfl)
@[simp] theorem hostWr_frozen (s : State) (a : Nat) (v : Word) : (hostWr s a v).frozen = s.frozen := (rfl)
@[simp] theorem hostWr_captured (s : State) (a : Nat) (v : Word) : (hostWr s a v).captured = s.captured := (rfl)
@[simp] theorem hostWr_wdSet (s : State) (a : Nat) (v : Word) : (hostWr s a v).wdSet = s.wdSet := (rfl)
@[simp] theorem hostWr_rstSrc (s : State) (a : Nat) (v : Word) : (hostWr s a v).rstSrc = s.rstSrc := (rfl)
@[simp] theorem hostWr_fuseDone (s : State) (a : Nat) (v : Word) : (hostWr s a v).fuseDone = s.fuseDone := (rfl)
@[simp] theorem hostWr_devHalt (s : State) (a : Nat) (v : Word) : (hostWr s a v).devHalt = s.devHalt := (rfl)
@[simp] theorem hostWr_auxHeld (s : State) (a : Nat) (v : Word) : (hostWr s a v).auxHeld = s.auxHeld := (rfl)

/-! ### dbgWr -/

@[simp] theorem dbgWr_pending (s : State) (a : Nat) (v : Word) : (dbgWr s a v).pending = s.pending := (rfl)
@[simp] theorem dbgWr_outResp (s : State) (a : Nat) (v : Word) : (dbgWr s a v).outResp = s.outResp := (rfl)
@[simp] theorem dbgWr_outData (s : State) (a : Nat) (v : Word) : (dbgWr s a v).outData = s.outData := (rfl)
@[simp] theorem dbgWr_free (s : State) (a : Nat) (v : Word) : (dbgWr s a v).free = s.free := (rfl)
@[simp] theorem dbgWr_dev (s : State) (a : Nat) (v : Word) : (dbgWr s a v).dev = s.dev := (rfl)
@[simp] theorem dbgWr_prevDev (s : State) (a : Nat) (v : Word) : (dbgWr s a v).prevDev = s.prevDev := (rfl)
@[simp] theorem dbgWr_cause (s : State) (a : Nat) (v : Word) : (dbgWr s a v).cause = s.cause := (rfl)
@[simp] theorem dbgWr_tb (s : State) (a : Nat) (v : Word) : (dbgWr s a v).tb = s.tb := (rfl)
@[simp] theorem dbgWr_io (s : State) (a : Nat) (v : Word) : (dbgWr s a v).io = s.io := (rfl)
@[simp] theorem dbgWr_host (s : State) (a : Nat) (v : Word) : (dbgWr s a v).host = s.host := (rfl)
@[simp] theorem dbgWr_engs (s : State) (a : Nat) (v : Word) : (dbgWr s a v).engs = s.engs := (rfl)
@[simp] theorem dbgWr_grvs (s : State) (a : Nat) (v : Word) : (dbgWr s a v).grvs = s.grvs := (rfl)
@[simp] theorem dbgWr_lake (s : State) (a : Nat) (v : Word) : (dbgWr s a v).lake = s.lake := (rfl)
@[simp] theorem dbgWr_lfsr16 (s : State) (a : Nat) (v : Word) : (dbgWr s a v).lfsr16 = s.lfsr16 := (rfl)
@[simp] theorem dbgWr_mem (s : State) (a : Nat) (v : Word) : (dbgWr s a v).mem = s.mem := (rfl)
@[simp] theorem dbgWr_tarnErr (s : State) (a : Nat) (v : Word) : (dbgWr s a v).tarnErr = s.tarnErr := (rfl)
@[simp] theorem dbgWr_corrQ (s : State) (a : Nat) (v : Word) : (dbgWr s a v).corrQ = s.corrQ := (rfl)
@[simp] theorem dbgWr_scrubPos (s : State) (a : Nat) (v : Word) : (dbgWr s a v).scrubPos = s.scrubPos := (rfl)
@[simp] theorem dbgWr_ownPend (s : State) (a : Nat) (v : Word) : (dbgWr s a v).ownPend = s.ownPend := (rfl)
@[simp] theorem dbgWr_outerErr (s : State) (a : Nat) (v : Word) : (dbgWr s a v).outerErr = s.outerErr := (rfl)
@[simp] theorem dbgWr_nchm (s : State) (a : Nat) (v : Word) : (dbgWr s a v).nchm = s.nchm := (rfl)
@[simp] theorem dbgWr_cmx (s : State) (a : Nat) (v : Word) : (dbgWr s a v).cmx = s.cmx := (rfl)
@[simp] theorem dbgWr_pwr (s : State) (a : Nat) (v : Word) : (dbgWr s a v).pwr = s.pwr := (rfl)
@[simp] theorem dbgWr_dbgSt (s : State) (a : Nat) (v : Word) : (dbgWr s a v).dbgSt = s.dbgSt := (rfl)
@[simp] theorem dbgWr_fuse (s : State) (a : Nat) (v : Word) : (dbgWr s a v).fuse = s.fuse := (rfl)
@[simp] theorem dbgWr_act (s : State) (a : Nat) (v : Word) : (dbgWr s a v).act = s.act := (rfl)
@[simp] theorem dbgWr_jPend (s : State) (a : Nat) (v : Word) : (dbgWr s a v).jPend = s.jPend := (rfl)
@[simp] theorem dbgWr_jRel (s : State) (a : Nat) (v : Word) : (dbgWr s a v).jRel = s.jRel := (rfl)
@[simp] theorem dbgWr_flt (s : State) (a : Nat) (v : Word) : (dbgWr s a v).flt = s.flt := (rfl)
@[simp] theorem dbgWr_safeReq (s : State) (a : Nat) (v : Word) : (dbgWr s a v).safeReq = s.safeReq := (rfl)
@[simp] theorem dbgWr_fenceReq (s : State) (a : Nat) (v : Word) : (dbgWr s a v).fenceReq = s.fenceReq := (rfl)
@[simp] theorem dbgWr_wspStopped (s : State) (a : Nat) (v : Word) : (dbgWr s a v).wspStopped = s.wspStopped := (rfl)
@[simp] theorem dbgWr_evq (s : State) (a : Nat) (v : Word) : (dbgWr s a v).evq = s.evq := (rfl)
@[simp] theorem dbgWr_apps (s : State) (a : Nat) (v : Word) : (dbgWr s a v).apps = s.apps := (rfl)
@[simp] theorem dbgWr_cutSince (s : State) (a : Nat) (v : Word) : (dbgWr s a v).cutSince = s.cutSince := (rfl)
@[simp] theorem dbgWr_routes (s : State) (a : Nat) (v : Word) : (dbgWr s a v).routes = s.routes := (rfl)
@[simp] theorem dbgWr_waitRoutes (s : State) (a : Nat) (v : Word) : (dbgWr s a v).waitRoutes = s.waitRoutes := (rfl)
@[simp] theorem dbgWr_valRoutes (s : State) (a : Nat) (v : Word) : (dbgWr s a v).valRoutes = s.valRoutes := (rfl)
@[simp] theorem dbgWr_att (s : State) (a : Nat) (v : Word) : (dbgWr s a v).att = s.att := (rfl)
@[simp] theorem dbgWr_attLast (s : State) (a : Nat) (v : Word) : (dbgWr s a v).attLast = s.attLast := (rfl)
@[simp] theorem dbgWr_holdRun (s : State) (a : Nat) (v : Word) : (dbgWr s a v).holdRun = s.holdRun := (rfl)
@[simp] theorem dbgWr_ucErr (s : State) (a : Nat) (v : Word) : (dbgWr s a v).ucErr = s.ucErr := (rfl)
@[simp] theorem dbgWr_upatch (s : State) (a : Nat) (v : Word) : (dbgWr s a v).upatch = s.upatch := (rfl)
@[simp] theorem dbgWr_bnd (s : State) (a : Nat) (v : Word) : (dbgWr s a v).bnd = s.bnd := (rfl)
@[simp] theorem dbgWr_twin (s : State) (a : Nat) (v : Word) : (dbgWr s a v).twin = s.twin := (rfl)
@[simp] theorem dbgWr_edit (s : State) (a : Nat) (v : Word) : (dbgWr s a v).edit = s.edit := (rfl)
@[simp] theorem dbgWr_shadow (s : State) (a : Nat) (v : Word) : (dbgWr s a v).shadow = s.shadow := (rfl)
@[simp] theorem dbgWr_outQ (s : State) (a : Nat) (v : Word) : (dbgWr s a v).outQ = s.outQ := (rfl)
@[simp] theorem dbgWr_inQ (s : State) (a : Nat) (v : Word) : (dbgWr s a v).inQ = s.inQ := (rfl)
@[simp] theorem dbgWr_shr (s : State) (a : Nat) (v : Word) : (dbgWr s a v).shr = s.shr := (rfl)
@[simp] theorem dbgWr_cvu (s : State) (a : Nat) (v : Word) : (dbgWr s a v).cvu = s.cvu := (rfl)
@[simp] theorem dbgWr_vjob (s : State) (a : Nat) (v : Word) : (dbgWr s a v).vjob = s.vjob := (rfl)
@[simp] theorem dbgWr_mbx (s : State) (a : Nat) (v : Word) : (dbgWr s a v).mbx = s.mbx := (rfl)
@[simp] theorem dbgWr_goQ (s : State) (a : Nat) (v : Word) : (dbgWr s a v).goQ = s.goQ := (rfl)
@[simp] theorem dbgWr_sessions (s : State) (a : Nat) (v : Word) : (dbgWr s a v).sessions = s.sessions := (rfl)
@[simp] theorem dbgWr_openCnt (s : State) (a : Nat) (v : Word) : (dbgWr s a v).openCnt = s.openCnt := (rfl)
@[simp] theorem dbgWr_authFail (s : State) (a : Nat) (v : Word) : (dbgWr s a v).authFail = s.authFail := (rfl)
@[simp] theorem dbgWr_authLock (s : State) (a : Nat) (v : Word) : (dbgWr s a v).authLock = s.authLock := (rfl)
@[simp] theorem dbgWr_waits (s : State) (a : Nat) (v : Word) : (dbgWr s a v).waits = s.waits := (rfl)
@[simp] theorem dbgWr_defs (s : State) (a : Nat) (v : Word) : (dbgWr s a v).defs = s.defs := (rfl)
@[simp] theorem dbgWr_flash (s : State) (a : Nat) (v : Word) : (dbgWr s a v).flash = s.flash := (rfl)
@[simp] theorem dbgWr_boot (s : State) (a : Nat) (v : Word) : (dbgWr s a v).boot = s.boot := (rfl)
@[simp] theorem dbgWr_prepared (s : State) (a : Nat) (v : Word) : (dbgWr s a v).prepared = s.prepared := (rfl)
@[simp] theorem dbgWr_noSpare (s : State) (a : Nat) (v : Word) : (dbgWr s a v).noSpare = s.noSpare := (rfl)
@[simp] theorem dbgWr_frozen (s : State) (a : Nat) (v : Word) : (dbgWr s a v).frozen = s.frozen := (rfl)
@[simp] theorem dbgWr_captured (s : State) (a : Nat) (v : Word) : (dbgWr s a v).captured = s.captured := (rfl)
@[simp] theorem dbgWr_wdSet (s : State) (a : Nat) (v : Word) : (dbgWr s a v).wdSet = s.wdSet := (rfl)
@[simp] theorem dbgWr_rstSrc (s : State) (a : Nat) (v : Word) : (dbgWr s a v).rstSrc = s.rstSrc := (rfl)
@[simp] theorem dbgWr_fuseDone (s : State) (a : Nat) (v : Word) : (dbgWr s a v).fuseDone = s.fuseDone := (rfl)
@[simp] theorem dbgWr_devHalt (s : State) (a : Nat) (v : Word) : (dbgWr s a v).devHalt = s.devHalt := (rfl)
@[simp] theorem dbgWr_auxHeld (s : State) (a : Nat) (v : Word) : (dbgWr s a v).auxHeld = s.auxHeld := (rfl)

/-! ### putEng -/

@[simp] theorem putEng_pending (s : State) (e : Nat) (x : Engine) : (putEng s e x).pending = s.pending := (rfl)
@[simp] theorem putEng_outResp (s : State) (e : Nat) (x : Engine) : (putEng s e x).outResp = s.outResp := (rfl)
@[simp] theorem putEng_outData (s : State) (e : Nat) (x : Engine) : (putEng s e x).outData = s.outData := (rfl)
@[simp] theorem putEng_free (s : State) (e : Nat) (x : Engine) : (putEng s e x).free = s.free := (rfl)
@[simp] theorem putEng_dev (s : State) (e : Nat) (x : Engine) : (putEng s e x).dev = s.dev := (rfl)
@[simp] theorem putEng_prevDev (s : State) (e : Nat) (x : Engine) : (putEng s e x).prevDev = s.prevDev := (rfl)
@[simp] theorem putEng_cause (s : State) (e : Nat) (x : Engine) : (putEng s e x).cause = s.cause := (rfl)
@[simp] theorem putEng_tb (s : State) (e : Nat) (x : Engine) : (putEng s e x).tb = s.tb := (rfl)
@[simp] theorem putEng_io (s : State) (e : Nat) (x : Engine) : (putEng s e x).io = s.io := (rfl)
@[simp] theorem putEng_host (s : State) (e : Nat) (x : Engine) : (putEng s e x).host = s.host := (rfl)
@[simp] theorem putEng_dbg (s : State) (e : Nat) (x : Engine) : (putEng s e x).dbg = s.dbg := (rfl)
@[simp] theorem putEng_grvs (s : State) (e : Nat) (x : Engine) : (putEng s e x).grvs = s.grvs := (rfl)
@[simp] theorem putEng_lake (s : State) (e : Nat) (x : Engine) : (putEng s e x).lake = s.lake := (rfl)
@[simp] theorem putEng_lfsr16 (s : State) (e : Nat) (x : Engine) : (putEng s e x).lfsr16 = s.lfsr16 := (rfl)
@[simp] theorem putEng_mem (s : State) (e : Nat) (x : Engine) : (putEng s e x).mem = s.mem := (rfl)
@[simp] theorem putEng_tarnErr (s : State) (e : Nat) (x : Engine) : (putEng s e x).tarnErr = s.tarnErr := (rfl)
@[simp] theorem putEng_corrQ (s : State) (e : Nat) (x : Engine) : (putEng s e x).corrQ = s.corrQ := (rfl)
@[simp] theorem putEng_scrubPos (s : State) (e : Nat) (x : Engine) : (putEng s e x).scrubPos = s.scrubPos := (rfl)
@[simp] theorem putEng_ownPend (s : State) (e : Nat) (x : Engine) : (putEng s e x).ownPend = s.ownPend := (rfl)
@[simp] theorem putEng_outerErr (s : State) (e : Nat) (x : Engine) : (putEng s e x).outerErr = s.outerErr := (rfl)
@[simp] theorem putEng_nchm (s : State) (e : Nat) (x : Engine) : (putEng s e x).nchm = s.nchm := (rfl)
@[simp] theorem putEng_cmx (s : State) (e : Nat) (x : Engine) : (putEng s e x).cmx = s.cmx := (rfl)
@[simp] theorem putEng_pwr (s : State) (e : Nat) (x : Engine) : (putEng s e x).pwr = s.pwr := (rfl)
@[simp] theorem putEng_dbgSt (s : State) (e : Nat) (x : Engine) : (putEng s e x).dbgSt = s.dbgSt := (rfl)
@[simp] theorem putEng_fuse (s : State) (e : Nat) (x : Engine) : (putEng s e x).fuse = s.fuse := (rfl)
@[simp] theorem putEng_act (s : State) (e : Nat) (x : Engine) : (putEng s e x).act = s.act := (rfl)
@[simp] theorem putEng_jPend (s : State) (e : Nat) (x : Engine) : (putEng s e x).jPend = s.jPend := (rfl)
@[simp] theorem putEng_jRel (s : State) (e : Nat) (x : Engine) : (putEng s e x).jRel = s.jRel := (rfl)
@[simp] theorem putEng_flt (s : State) (e : Nat) (x : Engine) : (putEng s e x).flt = s.flt := (rfl)
@[simp] theorem putEng_safeReq (s : State) (e : Nat) (x : Engine) : (putEng s e x).safeReq = s.safeReq := (rfl)
@[simp] theorem putEng_fenceReq (s : State) (e : Nat) (x : Engine) : (putEng s e x).fenceReq = s.fenceReq := (rfl)
@[simp] theorem putEng_wspStopped (s : State) (e : Nat) (x : Engine) : (putEng s e x).wspStopped = s.wspStopped := (rfl)
@[simp] theorem putEng_evq (s : State) (e : Nat) (x : Engine) : (putEng s e x).evq = s.evq := (rfl)
@[simp] theorem putEng_apps (s : State) (e : Nat) (x : Engine) : (putEng s e x).apps = s.apps := (rfl)
@[simp] theorem putEng_cutSince (s : State) (e : Nat) (x : Engine) : (putEng s e x).cutSince = s.cutSince := (rfl)
@[simp] theorem putEng_routes (s : State) (e : Nat) (x : Engine) : (putEng s e x).routes = s.routes := (rfl)
@[simp] theorem putEng_waitRoutes (s : State) (e : Nat) (x : Engine) : (putEng s e x).waitRoutes = s.waitRoutes := (rfl)
@[simp] theorem putEng_valRoutes (s : State) (e : Nat) (x : Engine) : (putEng s e x).valRoutes = s.valRoutes := (rfl)
@[simp] theorem putEng_att (s : State) (e : Nat) (x : Engine) : (putEng s e x).att = s.att := (rfl)
@[simp] theorem putEng_attLast (s : State) (e : Nat) (x : Engine) : (putEng s e x).attLast = s.attLast := (rfl)
@[simp] theorem putEng_holdRun (s : State) (e : Nat) (x : Engine) : (putEng s e x).holdRun = s.holdRun := (rfl)
@[simp] theorem putEng_ucErr (s : State) (e : Nat) (x : Engine) : (putEng s e x).ucErr = s.ucErr := (rfl)
@[simp] theorem putEng_upatch (s : State) (e : Nat) (x : Engine) : (putEng s e x).upatch = s.upatch := (rfl)
@[simp] theorem putEng_bnd (s : State) (e : Nat) (x : Engine) : (putEng s e x).bnd = s.bnd := (rfl)
@[simp] theorem putEng_twin (s : State) (e : Nat) (x : Engine) : (putEng s e x).twin = s.twin := (rfl)
@[simp] theorem putEng_edit (s : State) (e : Nat) (x : Engine) : (putEng s e x).edit = s.edit := (rfl)
@[simp] theorem putEng_shadow (s : State) (e : Nat) (x : Engine) : (putEng s e x).shadow = s.shadow := (rfl)
@[simp] theorem putEng_outQ (s : State) (e : Nat) (x : Engine) : (putEng s e x).outQ = s.outQ := (rfl)
@[simp] theorem putEng_inQ (s : State) (e : Nat) (x : Engine) : (putEng s e x).inQ = s.inQ := (rfl)
@[simp] theorem putEng_shr (s : State) (e : Nat) (x : Engine) : (putEng s e x).shr = s.shr := (rfl)
@[simp] theorem putEng_cvu (s : State) (e : Nat) (x : Engine) : (putEng s e x).cvu = s.cvu := (rfl)
@[simp] theorem putEng_vjob (s : State) (e : Nat) (x : Engine) : (putEng s e x).vjob = s.vjob := (rfl)
@[simp] theorem putEng_mbx (s : State) (e : Nat) (x : Engine) : (putEng s e x).mbx = s.mbx := (rfl)
@[simp] theorem putEng_goQ (s : State) (e : Nat) (x : Engine) : (putEng s e x).goQ = s.goQ := (rfl)
@[simp] theorem putEng_sessions (s : State) (e : Nat) (x : Engine) : (putEng s e x).sessions = s.sessions := (rfl)
@[simp] theorem putEng_openCnt (s : State) (e : Nat) (x : Engine) : (putEng s e x).openCnt = s.openCnt := (rfl)
@[simp] theorem putEng_authFail (s : State) (e : Nat) (x : Engine) : (putEng s e x).authFail = s.authFail := (rfl)
@[simp] theorem putEng_authLock (s : State) (e : Nat) (x : Engine) : (putEng s e x).authLock = s.authLock := (rfl)
@[simp] theorem putEng_waits (s : State) (e : Nat) (x : Engine) : (putEng s e x).waits = s.waits := (rfl)
@[simp] theorem putEng_defs (s : State) (e : Nat) (x : Engine) : (putEng s e x).defs = s.defs := (rfl)
@[simp] theorem putEng_flash (s : State) (e : Nat) (x : Engine) : (putEng s e x).flash = s.flash := (rfl)
@[simp] theorem putEng_boot (s : State) (e : Nat) (x : Engine) : (putEng s e x).boot = s.boot := (rfl)
@[simp] theorem putEng_prepared (s : State) (e : Nat) (x : Engine) : (putEng s e x).prepared = s.prepared := (rfl)
@[simp] theorem putEng_noSpare (s : State) (e : Nat) (x : Engine) : (putEng s e x).noSpare = s.noSpare := (rfl)
@[simp] theorem putEng_frozen (s : State) (e : Nat) (x : Engine) : (putEng s e x).frozen = s.frozen := (rfl)
@[simp] theorem putEng_captured (s : State) (e : Nat) (x : Engine) : (putEng s e x).captured = s.captured := (rfl)
@[simp] theorem putEng_wdSet (s : State) (e : Nat) (x : Engine) : (putEng s e x).wdSet = s.wdSet := (rfl)
@[simp] theorem putEng_rstSrc (s : State) (e : Nat) (x : Engine) : (putEng s e x).rstSrc = s.rstSrc := (rfl)
@[simp] theorem putEng_fuseDone (s : State) (e : Nat) (x : Engine) : (putEng s e x).fuseDone = s.fuseDone := (rfl)
@[simp] theorem putEng_devHalt (s : State) (e : Nat) (x : Engine) : (putEng s e x).devHalt = s.devHalt := (rfl)
@[simp] theorem putEng_auxHeld (s : State) (e : Nat) (x : Engine) : (putEng s e x).auxHeld = s.auxHeld := (rfl)

/-! ### putGrv -/

@[simp] theorem putGrv_pending (s : State) (g : Nat) (x : Grove) : (putGrv s g x).pending = s.pending := (rfl)
@[simp] theorem putGrv_outResp (s : State) (g : Nat) (x : Grove) : (putGrv s g x).outResp = s.outResp := (rfl)
@[simp] theorem putGrv_outData (s : State) (g : Nat) (x : Grove) : (putGrv s g x).outData = s.outData := (rfl)
@[simp] theorem putGrv_free (s : State) (g : Nat) (x : Grove) : (putGrv s g x).free = s.free := (rfl)
@[simp] theorem putGrv_dev (s : State) (g : Nat) (x : Grove) : (putGrv s g x).dev = s.dev := (rfl)
@[simp] theorem putGrv_prevDev (s : State) (g : Nat) (x : Grove) : (putGrv s g x).prevDev = s.prevDev := (rfl)
@[simp] theorem putGrv_cause (s : State) (g : Nat) (x : Grove) : (putGrv s g x).cause = s.cause := (rfl)
@[simp] theorem putGrv_tb (s : State) (g : Nat) (x : Grove) : (putGrv s g x).tb = s.tb := (rfl)
@[simp] theorem putGrv_io (s : State) (g : Nat) (x : Grove) : (putGrv s g x).io = s.io := (rfl)
@[simp] theorem putGrv_host (s : State) (g : Nat) (x : Grove) : (putGrv s g x).host = s.host := (rfl)
@[simp] theorem putGrv_dbg (s : State) (g : Nat) (x : Grove) : (putGrv s g x).dbg = s.dbg := (rfl)
@[simp] theorem putGrv_engs (s : State) (g : Nat) (x : Grove) : (putGrv s g x).engs = s.engs := (rfl)
@[simp] theorem putGrv_lake (s : State) (g : Nat) (x : Grove) : (putGrv s g x).lake = s.lake := (rfl)
@[simp] theorem putGrv_lfsr16 (s : State) (g : Nat) (x : Grove) : (putGrv s g x).lfsr16 = s.lfsr16 := (rfl)
@[simp] theorem putGrv_mem (s : State) (g : Nat) (x : Grove) : (putGrv s g x).mem = s.mem := (rfl)
@[simp] theorem putGrv_tarnErr (s : State) (g : Nat) (x : Grove) : (putGrv s g x).tarnErr = s.tarnErr := (rfl)
@[simp] theorem putGrv_corrQ (s : State) (g : Nat) (x : Grove) : (putGrv s g x).corrQ = s.corrQ := (rfl)
@[simp] theorem putGrv_scrubPos (s : State) (g : Nat) (x : Grove) : (putGrv s g x).scrubPos = s.scrubPos := (rfl)
@[simp] theorem putGrv_ownPend (s : State) (g : Nat) (x : Grove) : (putGrv s g x).ownPend = s.ownPend := (rfl)
@[simp] theorem putGrv_outerErr (s : State) (g : Nat) (x : Grove) : (putGrv s g x).outerErr = s.outerErr := (rfl)
@[simp] theorem putGrv_nchm (s : State) (g : Nat) (x : Grove) : (putGrv s g x).nchm = s.nchm := (rfl)
@[simp] theorem putGrv_cmx (s : State) (g : Nat) (x : Grove) : (putGrv s g x).cmx = s.cmx := (rfl)
@[simp] theorem putGrv_pwr (s : State) (g : Nat) (x : Grove) : (putGrv s g x).pwr = s.pwr := (rfl)
@[simp] theorem putGrv_dbgSt (s : State) (g : Nat) (x : Grove) : (putGrv s g x).dbgSt = s.dbgSt := (rfl)
@[simp] theorem putGrv_fuse (s : State) (g : Nat) (x : Grove) : (putGrv s g x).fuse = s.fuse := (rfl)
@[simp] theorem putGrv_act (s : State) (g : Nat) (x : Grove) : (putGrv s g x).act = s.act := (rfl)
@[simp] theorem putGrv_jPend (s : State) (g : Nat) (x : Grove) : (putGrv s g x).jPend = s.jPend := (rfl)
@[simp] theorem putGrv_jRel (s : State) (g : Nat) (x : Grove) : (putGrv s g x).jRel = s.jRel := (rfl)
@[simp] theorem putGrv_flt (s : State) (g : Nat) (x : Grove) : (putGrv s g x).flt = s.flt := (rfl)
@[simp] theorem putGrv_safeReq (s : State) (g : Nat) (x : Grove) : (putGrv s g x).safeReq = s.safeReq := (rfl)
@[simp] theorem putGrv_fenceReq (s : State) (g : Nat) (x : Grove) : (putGrv s g x).fenceReq = s.fenceReq := (rfl)
@[simp] theorem putGrv_wspStopped (s : State) (g : Nat) (x : Grove) : (putGrv s g x).wspStopped = s.wspStopped := (rfl)
@[simp] theorem putGrv_evq (s : State) (g : Nat) (x : Grove) : (putGrv s g x).evq = s.evq := (rfl)
@[simp] theorem putGrv_apps (s : State) (g : Nat) (x : Grove) : (putGrv s g x).apps = s.apps := (rfl)
@[simp] theorem putGrv_cutSince (s : State) (g : Nat) (x : Grove) : (putGrv s g x).cutSince = s.cutSince := (rfl)
@[simp] theorem putGrv_routes (s : State) (g : Nat) (x : Grove) : (putGrv s g x).routes = s.routes := (rfl)
@[simp] theorem putGrv_waitRoutes (s : State) (g : Nat) (x : Grove) : (putGrv s g x).waitRoutes = s.waitRoutes := (rfl)
@[simp] theorem putGrv_valRoutes (s : State) (g : Nat) (x : Grove) : (putGrv s g x).valRoutes = s.valRoutes := (rfl)
@[simp] theorem putGrv_att (s : State) (g : Nat) (x : Grove) : (putGrv s g x).att = s.att := (rfl)
@[simp] theorem putGrv_attLast (s : State) (g : Nat) (x : Grove) : (putGrv s g x).attLast = s.attLast := (rfl)
@[simp] theorem putGrv_holdRun (s : State) (g : Nat) (x : Grove) : (putGrv s g x).holdRun = s.holdRun := (rfl)
@[simp] theorem putGrv_ucErr (s : State) (g : Nat) (x : Grove) : (putGrv s g x).ucErr = s.ucErr := (rfl)
@[simp] theorem putGrv_upatch (s : State) (g : Nat) (x : Grove) : (putGrv s g x).upatch = s.upatch := (rfl)
@[simp] theorem putGrv_bnd (s : State) (g : Nat) (x : Grove) : (putGrv s g x).bnd = s.bnd := (rfl)
@[simp] theorem putGrv_twin (s : State) (g : Nat) (x : Grove) : (putGrv s g x).twin = s.twin := (rfl)
@[simp] theorem putGrv_edit (s : State) (g : Nat) (x : Grove) : (putGrv s g x).edit = s.edit := (rfl)
@[simp] theorem putGrv_shadow (s : State) (g : Nat) (x : Grove) : (putGrv s g x).shadow = s.shadow := (rfl)
@[simp] theorem putGrv_outQ (s : State) (g : Nat) (x : Grove) : (putGrv s g x).outQ = s.outQ := (rfl)
@[simp] theorem putGrv_inQ (s : State) (g : Nat) (x : Grove) : (putGrv s g x).inQ = s.inQ := (rfl)
@[simp] theorem putGrv_shr (s : State) (g : Nat) (x : Grove) : (putGrv s g x).shr = s.shr := (rfl)
@[simp] theorem putGrv_cvu (s : State) (g : Nat) (x : Grove) : (putGrv s g x).cvu = s.cvu := (rfl)
@[simp] theorem putGrv_vjob (s : State) (g : Nat) (x : Grove) : (putGrv s g x).vjob = s.vjob := (rfl)
@[simp] theorem putGrv_mbx (s : State) (g : Nat) (x : Grove) : (putGrv s g x).mbx = s.mbx := (rfl)
@[simp] theorem putGrv_goQ (s : State) (g : Nat) (x : Grove) : (putGrv s g x).goQ = s.goQ := (rfl)
@[simp] theorem putGrv_sessions (s : State) (g : Nat) (x : Grove) : (putGrv s g x).sessions = s.sessions := (rfl)
@[simp] theorem putGrv_openCnt (s : State) (g : Nat) (x : Grove) : (putGrv s g x).openCnt = s.openCnt := (rfl)
@[simp] theorem putGrv_authFail (s : State) (g : Nat) (x : Grove) : (putGrv s g x).authFail = s.authFail := (rfl)
@[simp] theorem putGrv_authLock (s : State) (g : Nat) (x : Grove) : (putGrv s g x).authLock = s.authLock := (rfl)
@[simp] theorem putGrv_waits (s : State) (g : Nat) (x : Grove) : (putGrv s g x).waits = s.waits := (rfl)
@[simp] theorem putGrv_defs (s : State) (g : Nat) (x : Grove) : (putGrv s g x).defs = s.defs := (rfl)
@[simp] theorem putGrv_flash (s : State) (g : Nat) (x : Grove) : (putGrv s g x).flash = s.flash := (rfl)
@[simp] theorem putGrv_boot (s : State) (g : Nat) (x : Grove) : (putGrv s g x).boot = s.boot := (rfl)
@[simp] theorem putGrv_prepared (s : State) (g : Nat) (x : Grove) : (putGrv s g x).prepared = s.prepared := (rfl)
@[simp] theorem putGrv_noSpare (s : State) (g : Nat) (x : Grove) : (putGrv s g x).noSpare = s.noSpare := (rfl)
@[simp] theorem putGrv_frozen (s : State) (g : Nat) (x : Grove) : (putGrv s g x).frozen = s.frozen := (rfl)
@[simp] theorem putGrv_captured (s : State) (g : Nat) (x : Grove) : (putGrv s g x).captured = s.captured := (rfl)
@[simp] theorem putGrv_wdSet (s : State) (g : Nat) (x : Grove) : (putGrv s g x).wdSet = s.wdSet := (rfl)
@[simp] theorem putGrv_rstSrc (s : State) (g : Nat) (x : Grove) : (putGrv s g x).rstSrc = s.rstSrc := (rfl)
@[simp] theorem putGrv_fuseDone (s : State) (g : Nat) (x : Grove) : (putGrv s g x).fuseDone = s.fuseDone := (rfl)
@[simp] theorem putGrv_devHalt (s : State) (g : Nat) (x : Grove) : (putGrv s g x).devHalt = s.devHalt := (rfl)
@[simp] theorem putGrv_auxHeld (s : State) (g : Nat) (x : Grove) : (putGrv s g x).auxHeld = s.auxHeld := (rfl)

/-! ### putApp -/

@[simp] theorem putApp_pending (s : State) (a : Nat) (x : AppRun) : (putApp s a x).pending = s.pending := (rfl)
@[simp] theorem putApp_outResp (s : State) (a : Nat) (x : AppRun) : (putApp s a x).outResp = s.outResp := (rfl)
@[simp] theorem putApp_outData (s : State) (a : Nat) (x : AppRun) : (putApp s a x).outData = s.outData := (rfl)
@[simp] theorem putApp_free (s : State) (a : Nat) (x : AppRun) : (putApp s a x).free = s.free := (rfl)
@[simp] theorem putApp_dev (s : State) (a : Nat) (x : AppRun) : (putApp s a x).dev = s.dev := (rfl)
@[simp] theorem putApp_prevDev (s : State) (a : Nat) (x : AppRun) : (putApp s a x).prevDev = s.prevDev := (rfl)
@[simp] theorem putApp_cause (s : State) (a : Nat) (x : AppRun) : (putApp s a x).cause = s.cause := (rfl)
@[simp] theorem putApp_tb (s : State) (a : Nat) (x : AppRun) : (putApp s a x).tb = s.tb := (rfl)
@[simp] theorem putApp_io (s : State) (a : Nat) (x : AppRun) : (putApp s a x).io = s.io := (rfl)
@[simp] theorem putApp_host (s : State) (a : Nat) (x : AppRun) : (putApp s a x).host = s.host := (rfl)
@[simp] theorem putApp_dbg (s : State) (a : Nat) (x : AppRun) : (putApp s a x).dbg = s.dbg := (rfl)
@[simp] theorem putApp_engs (s : State) (a : Nat) (x : AppRun) : (putApp s a x).engs = s.engs := (rfl)
@[simp] theorem putApp_grvs (s : State) (a : Nat) (x : AppRun) : (putApp s a x).grvs = s.grvs := (rfl)
@[simp] theorem putApp_lake (s : State) (a : Nat) (x : AppRun) : (putApp s a x).lake = s.lake := (rfl)
@[simp] theorem putApp_lfsr16 (s : State) (a : Nat) (x : AppRun) : (putApp s a x).lfsr16 = s.lfsr16 := (rfl)
@[simp] theorem putApp_mem (s : State) (a : Nat) (x : AppRun) : (putApp s a x).mem = s.mem := (rfl)
@[simp] theorem putApp_tarnErr (s : State) (a : Nat) (x : AppRun) : (putApp s a x).tarnErr = s.tarnErr := (rfl)
@[simp] theorem putApp_corrQ (s : State) (a : Nat) (x : AppRun) : (putApp s a x).corrQ = s.corrQ := (rfl)
@[simp] theorem putApp_scrubPos (s : State) (a : Nat) (x : AppRun) : (putApp s a x).scrubPos = s.scrubPos := (rfl)
@[simp] theorem putApp_ownPend (s : State) (a : Nat) (x : AppRun) : (putApp s a x).ownPend = s.ownPend := (rfl)
@[simp] theorem putApp_outerErr (s : State) (a : Nat) (x : AppRun) : (putApp s a x).outerErr = s.outerErr := (rfl)
@[simp] theorem putApp_nchm (s : State) (a : Nat) (x : AppRun) : (putApp s a x).nchm = s.nchm := (rfl)
@[simp] theorem putApp_cmx (s : State) (a : Nat) (x : AppRun) : (putApp s a x).cmx = s.cmx := (rfl)
@[simp] theorem putApp_pwr (s : State) (a : Nat) (x : AppRun) : (putApp s a x).pwr = s.pwr := (rfl)
@[simp] theorem putApp_dbgSt (s : State) (a : Nat) (x : AppRun) : (putApp s a x).dbgSt = s.dbgSt := (rfl)
@[simp] theorem putApp_fuse (s : State) (a : Nat) (x : AppRun) : (putApp s a x).fuse = s.fuse := (rfl)
@[simp] theorem putApp_act (s : State) (a : Nat) (x : AppRun) : (putApp s a x).act = s.act := (rfl)
@[simp] theorem putApp_jPend (s : State) (a : Nat) (x : AppRun) : (putApp s a x).jPend = s.jPend := (rfl)
@[simp] theorem putApp_jRel (s : State) (a : Nat) (x : AppRun) : (putApp s a x).jRel = s.jRel := (rfl)
@[simp] theorem putApp_flt (s : State) (a : Nat) (x : AppRun) : (putApp s a x).flt = s.flt := (rfl)
@[simp] theorem putApp_safeReq (s : State) (a : Nat) (x : AppRun) : (putApp s a x).safeReq = s.safeReq := (rfl)
@[simp] theorem putApp_fenceReq (s : State) (a : Nat) (x : AppRun) : (putApp s a x).fenceReq = s.fenceReq := (rfl)
@[simp] theorem putApp_wspStopped (s : State) (a : Nat) (x : AppRun) : (putApp s a x).wspStopped = s.wspStopped := (rfl)
@[simp] theorem putApp_evq (s : State) (a : Nat) (x : AppRun) : (putApp s a x).evq = s.evq := (rfl)
@[simp] theorem putApp_cutSince (s : State) (a : Nat) (x : AppRun) : (putApp s a x).cutSince = s.cutSince := (rfl)
@[simp] theorem putApp_routes (s : State) (a : Nat) (x : AppRun) : (putApp s a x).routes = s.routes := (rfl)
@[simp] theorem putApp_waitRoutes (s : State) (a : Nat) (x : AppRun) : (putApp s a x).waitRoutes = s.waitRoutes := (rfl)
@[simp] theorem putApp_valRoutes (s : State) (a : Nat) (x : AppRun) : (putApp s a x).valRoutes = s.valRoutes := (rfl)
@[simp] theorem putApp_att (s : State) (a : Nat) (x : AppRun) : (putApp s a x).att = s.att := (rfl)
@[simp] theorem putApp_attLast (s : State) (a : Nat) (x : AppRun) : (putApp s a x).attLast = s.attLast := (rfl)
@[simp] theorem putApp_holdRun (s : State) (a : Nat) (x : AppRun) : (putApp s a x).holdRun = s.holdRun := (rfl)
@[simp] theorem putApp_ucErr (s : State) (a : Nat) (x : AppRun) : (putApp s a x).ucErr = s.ucErr := (rfl)
@[simp] theorem putApp_upatch (s : State) (a : Nat) (x : AppRun) : (putApp s a x).upatch = s.upatch := (rfl)
@[simp] theorem putApp_bnd (s : State) (a : Nat) (x : AppRun) : (putApp s a x).bnd = s.bnd := (rfl)
@[simp] theorem putApp_twin (s : State) (a : Nat) (x : AppRun) : (putApp s a x).twin = s.twin := (rfl)
@[simp] theorem putApp_edit (s : State) (a : Nat) (x : AppRun) : (putApp s a x).edit = s.edit := (rfl)
@[simp] theorem putApp_shadow (s : State) (a : Nat) (x : AppRun) : (putApp s a x).shadow = s.shadow := (rfl)
@[simp] theorem putApp_outQ (s : State) (a : Nat) (x : AppRun) : (putApp s a x).outQ = s.outQ := (rfl)
@[simp] theorem putApp_inQ (s : State) (a : Nat) (x : AppRun) : (putApp s a x).inQ = s.inQ := (rfl)
@[simp] theorem putApp_shr (s : State) (a : Nat) (x : AppRun) : (putApp s a x).shr = s.shr := (rfl)
@[simp] theorem putApp_cvu (s : State) (a : Nat) (x : AppRun) : (putApp s a x).cvu = s.cvu := (rfl)
@[simp] theorem putApp_vjob (s : State) (a : Nat) (x : AppRun) : (putApp s a x).vjob = s.vjob := (rfl)
@[simp] theorem putApp_mbx (s : State) (a : Nat) (x : AppRun) : (putApp s a x).mbx = s.mbx := (rfl)
@[simp] theorem putApp_goQ (s : State) (a : Nat) (x : AppRun) : (putApp s a x).goQ = s.goQ := (rfl)
@[simp] theorem putApp_sessions (s : State) (a : Nat) (x : AppRun) : (putApp s a x).sessions = s.sessions := (rfl)
@[simp] theorem putApp_openCnt (s : State) (a : Nat) (x : AppRun) : (putApp s a x).openCnt = s.openCnt := (rfl)
@[simp] theorem putApp_authFail (s : State) (a : Nat) (x : AppRun) : (putApp s a x).authFail = s.authFail := (rfl)
@[simp] theorem putApp_authLock (s : State) (a : Nat) (x : AppRun) : (putApp s a x).authLock = s.authLock := (rfl)
@[simp] theorem putApp_waits (s : State) (a : Nat) (x : AppRun) : (putApp s a x).waits = s.waits := (rfl)
@[simp] theorem putApp_defs (s : State) (a : Nat) (x : AppRun) : (putApp s a x).defs = s.defs := (rfl)
@[simp] theorem putApp_flash (s : State) (a : Nat) (x : AppRun) : (putApp s a x).flash = s.flash := (rfl)
@[simp] theorem putApp_boot (s : State) (a : Nat) (x : AppRun) : (putApp s a x).boot = s.boot := (rfl)
@[simp] theorem putApp_prepared (s : State) (a : Nat) (x : AppRun) : (putApp s a x).prepared = s.prepared := (rfl)
@[simp] theorem putApp_noSpare (s : State) (a : Nat) (x : AppRun) : (putApp s a x).noSpare = s.noSpare := (rfl)
@[simp] theorem putApp_frozen (s : State) (a : Nat) (x : AppRun) : (putApp s a x).frozen = s.frozen := (rfl)
@[simp] theorem putApp_captured (s : State) (a : Nat) (x : AppRun) : (putApp s a x).captured = s.captured := (rfl)
@[simp] theorem putApp_wdSet (s : State) (a : Nat) (x : AppRun) : (putApp s a x).wdSet = s.wdSet := (rfl)
@[simp] theorem putApp_rstSrc (s : State) (a : Nat) (x : AppRun) : (putApp s a x).rstSrc = s.rstSrc := (rfl)
@[simp] theorem putApp_fuseDone (s : State) (a : Nat) (x : AppRun) : (putApp s a x).fuseDone = s.fuseDone := (rfl)
@[simp] theorem putApp_devHalt (s : State) (a : Nat) (x : AppRun) : (putApp s a x).devHalt = s.devHalt := (rfl)
@[simp] theorem putApp_auxHeld (s : State) (a : Nat) (x : AppRun) : (putApp s a x).auxHeld = s.auxHeld := (rfl)

/-! ### bump -/

@[simp] theorem bump_pending (s : State) (a hi lo k : Nat) : (bump s a hi lo k).pending = s.pending := (rfl)
@[simp] theorem bump_outResp (s : State) (a hi lo k : Nat) : (bump s a hi lo k).outResp = s.outResp := (rfl)
@[simp] theorem bump_outData (s : State) (a hi lo k : Nat) : (bump s a hi lo k).outData = s.outData := (rfl)
@[simp] theorem bump_free (s : State) (a hi lo k : Nat) : (bump s a hi lo k).free = s.free := (rfl)
@[simp] theorem bump_dev (s : State) (a hi lo k : Nat) : (bump s a hi lo k).dev = s.dev := (rfl)
@[simp] theorem bump_prevDev (s : State) (a hi lo k : Nat) : (bump s a hi lo k).prevDev = s.prevDev := (rfl)
@[simp] theorem bump_cause (s : State) (a hi lo k : Nat) : (bump s a hi lo k).cause = s.cause := (rfl)
@[simp] theorem bump_tb (s : State) (a hi lo k : Nat) : (bump s a hi lo k).tb = s.tb := (rfl)
@[simp] theorem bump_host (s : State) (a hi lo k : Nat) : (bump s a hi lo k).host = s.host := (rfl)
@[simp] theorem bump_dbg (s : State) (a hi lo k : Nat) : (bump s a hi lo k).dbg = s.dbg := (rfl)
@[simp] theorem bump_engs (s : State) (a hi lo k : Nat) : (bump s a hi lo k).engs = s.engs := (rfl)
@[simp] theorem bump_grvs (s : State) (a hi lo k : Nat) : (bump s a hi lo k).grvs = s.grvs := (rfl)
@[simp] theorem bump_lake (s : State) (a hi lo k : Nat) : (bump s a hi lo k).lake = s.lake := (rfl)
@[simp] theorem bump_lfsr16 (s : State) (a hi lo k : Nat) : (bump s a hi lo k).lfsr16 = s.lfsr16 := (rfl)
@[simp] theorem bump_mem (s : State) (a hi lo k : Nat) : (bump s a hi lo k).mem = s.mem := (rfl)
@[simp] theorem bump_tarnErr (s : State) (a hi lo k : Nat) : (bump s a hi lo k).tarnErr = s.tarnErr := (rfl)
@[simp] theorem bump_corrQ (s : State) (a hi lo k : Nat) : (bump s a hi lo k).corrQ = s.corrQ := (rfl)
@[simp] theorem bump_scrubPos (s : State) (a hi lo k : Nat) : (bump s a hi lo k).scrubPos = s.scrubPos := (rfl)
@[simp] theorem bump_ownPend (s : State) (a hi lo k : Nat) : (bump s a hi lo k).ownPend = s.ownPend := (rfl)
@[simp] theorem bump_outerErr (s : State) (a hi lo k : Nat) : (bump s a hi lo k).outerErr = s.outerErr := (rfl)
@[simp] theorem bump_nchm (s : State) (a hi lo k : Nat) : (bump s a hi lo k).nchm = s.nchm := (rfl)
@[simp] theorem bump_cmx (s : State) (a hi lo k : Nat) : (bump s a hi lo k).cmx = s.cmx := (rfl)
@[simp] theorem bump_pwr (s : State) (a hi lo k : Nat) : (bump s a hi lo k).pwr = s.pwr := (rfl)
@[simp] theorem bump_dbgSt (s : State) (a hi lo k : Nat) : (bump s a hi lo k).dbgSt = s.dbgSt := (rfl)
@[simp] theorem bump_fuse (s : State) (a hi lo k : Nat) : (bump s a hi lo k).fuse = s.fuse := (rfl)
@[simp] theorem bump_act (s : State) (a hi lo k : Nat) : (bump s a hi lo k).act = s.act := (rfl)
@[simp] theorem bump_jPend (s : State) (a hi lo k : Nat) : (bump s a hi lo k).jPend = s.jPend := (rfl)
@[simp] theorem bump_jRel (s : State) (a hi lo k : Nat) : (bump s a hi lo k).jRel = s.jRel := (rfl)
@[simp] theorem bump_flt (s : State) (a hi lo k : Nat) : (bump s a hi lo k).flt = s.flt := (rfl)
@[simp] theorem bump_safeReq (s : State) (a hi lo k : Nat) : (bump s a hi lo k).safeReq = s.safeReq := (rfl)
@[simp] theorem bump_fenceReq (s : State) (a hi lo k : Nat) : (bump s a hi lo k).fenceReq = s.fenceReq := (rfl)
@[simp] theorem bump_wspStopped (s : State) (a hi lo k : Nat) : (bump s a hi lo k).wspStopped = s.wspStopped := (rfl)
@[simp] theorem bump_evq (s : State) (a hi lo k : Nat) : (bump s a hi lo k).evq = s.evq := (rfl)
@[simp] theorem bump_apps (s : State) (a hi lo k : Nat) : (bump s a hi lo k).apps = s.apps := (rfl)
@[simp] theorem bump_cutSince (s : State) (a hi lo k : Nat) : (bump s a hi lo k).cutSince = s.cutSince := (rfl)
@[simp] theorem bump_routes (s : State) (a hi lo k : Nat) : (bump s a hi lo k).routes = s.routes := (rfl)
@[simp] theorem bump_waitRoutes (s : State) (a hi lo k : Nat) : (bump s a hi lo k).waitRoutes = s.waitRoutes := (rfl)
@[simp] theorem bump_valRoutes (s : State) (a hi lo k : Nat) : (bump s a hi lo k).valRoutes = s.valRoutes := (rfl)
@[simp] theorem bump_att (s : State) (a hi lo k : Nat) : (bump s a hi lo k).att = s.att := (rfl)
@[simp] theorem bump_attLast (s : State) (a hi lo k : Nat) : (bump s a hi lo k).attLast = s.attLast := (rfl)
@[simp] theorem bump_holdRun (s : State) (a hi lo k : Nat) : (bump s a hi lo k).holdRun = s.holdRun := (rfl)
@[simp] theorem bump_ucErr (s : State) (a hi lo k : Nat) : (bump s a hi lo k).ucErr = s.ucErr := (rfl)
@[simp] theorem bump_upatch (s : State) (a hi lo k : Nat) : (bump s a hi lo k).upatch = s.upatch := (rfl)
@[simp] theorem bump_bnd (s : State) (a hi lo k : Nat) : (bump s a hi lo k).bnd = s.bnd := (rfl)
@[simp] theorem bump_twin (s : State) (a hi lo k : Nat) : (bump s a hi lo k).twin = s.twin := (rfl)
@[simp] theorem bump_edit (s : State) (a hi lo k : Nat) : (bump s a hi lo k).edit = s.edit := (rfl)
@[simp] theorem bump_shadow (s : State) (a hi lo k : Nat) : (bump s a hi lo k).shadow = s.shadow := (rfl)
@[simp] theorem bump_outQ (s : State) (a hi lo k : Nat) : (bump s a hi lo k).outQ = s.outQ := (rfl)
@[simp] theorem bump_inQ (s : State) (a hi lo k : Nat) : (bump s a hi lo k).inQ = s.inQ := (rfl)
@[simp] theorem bump_shr (s : State) (a hi lo k : Nat) : (bump s a hi lo k).shr = s.shr := (rfl)
@[simp] theorem bump_cvu (s : State) (a hi lo k : Nat) : (bump s a hi lo k).cvu = s.cvu := (rfl)
@[simp] theorem bump_vjob (s : State) (a hi lo k : Nat) : (bump s a hi lo k).vjob = s.vjob := (rfl)
@[simp] theorem bump_mbx (s : State) (a hi lo k : Nat) : (bump s a hi lo k).mbx = s.mbx := (rfl)
@[simp] theorem bump_goQ (s : State) (a hi lo k : Nat) : (bump s a hi lo k).goQ = s.goQ := (rfl)
@[simp] theorem bump_sessions (s : State) (a hi lo k : Nat) : (bump s a hi lo k).sessions = s.sessions := (rfl)
@[simp] theorem bump_openCnt (s : State) (a hi lo k : Nat) : (bump s a hi lo k).openCnt = s.openCnt := (rfl)
@[simp] theorem bump_authFail (s : State) (a hi lo k : Nat) : (bump s a hi lo k).authFail = s.authFail := (rfl)
@[simp] theorem bump_authLock (s : State) (a hi lo k : Nat) : (bump s a hi lo k).authLock = s.authLock := (rfl)
@[simp] theorem bump_waits (s : State) (a hi lo k : Nat) : (bump s a hi lo k).waits = s.waits := (rfl)
@[simp] theorem bump_defs (s : State) (a hi lo k : Nat) : (bump s a hi lo k).defs = s.defs := (rfl)
@[simp] theorem bump_flash (s : State) (a hi lo k : Nat) : (bump s a hi lo k).flash = s.flash := (rfl)
@[simp] theorem bump_boot (s : State) (a hi lo k : Nat) : (bump s a hi lo k).boot = s.boot := (rfl)
@[simp] theorem bump_prepared (s : State) (a hi lo k : Nat) : (bump s a hi lo k).prepared = s.prepared := (rfl)
@[simp] theorem bump_noSpare (s : State) (a hi lo k : Nat) : (bump s a hi lo k).noSpare = s.noSpare := (rfl)
@[simp] theorem bump_frozen (s : State) (a hi lo k : Nat) : (bump s a hi lo k).frozen = s.frozen := (rfl)
@[simp] theorem bump_captured (s : State) (a hi lo k : Nat) : (bump s a hi lo k).captured = s.captured := (rfl)
@[simp] theorem bump_wdSet (s : State) (a hi lo k : Nat) : (bump s a hi lo k).wdSet = s.wdSet := (rfl)
@[simp] theorem bump_rstSrc (s : State) (a hi lo k : Nat) : (bump s a hi lo k).rstSrc = s.rstSrc := (rfl)
@[simp] theorem bump_fuseDone (s : State) (a hi lo k : Nat) : (bump s a hi lo k).fuseDone = s.fuseDone := (rfl)
@[simp] theorem bump_devHalt (s : State) (a hi lo k : Nat) : (bump s a hi lo k).devHalt = s.devHalt := (rfl)
@[simp] theorem bump_auxHeld (s : State) (a hi lo k : Nat) : (bump s a hi lo k).auxHeld = s.auxHeld := (rfl)

/-! ### putByte -/

@[simp] theorem putByte_pending (s : State) (a : Nat) (b : Byte) : (putByte s a b).pending = s.pending := (rfl)
@[simp] theorem putByte_outResp (s : State) (a : Nat) (b : Byte) : (putByte s a b).outResp = s.outResp := (rfl)
@[simp] theorem putByte_outData (s : State) (a : Nat) (b : Byte) : (putByte s a b).outData = s.outData := (rfl)
@[simp] theorem putByte_free (s : State) (a : Nat) (b : Byte) : (putByte s a b).free = s.free := (rfl)
@[simp] theorem putByte_dev (s : State) (a : Nat) (b : Byte) : (putByte s a b).dev = s.dev := (rfl)
@[simp] theorem putByte_prevDev (s : State) (a : Nat) (b : Byte) : (putByte s a b).prevDev = s.prevDev := (rfl)
@[simp] theorem putByte_cause (s : State) (a : Nat) (b : Byte) : (putByte s a b).cause = s.cause := (rfl)
@[simp] theorem putByte_tb (s : State) (a : Nat) (b : Byte) : (putByte s a b).tb = s.tb := (rfl)
@[simp] theorem putByte_io (s : State) (a : Nat) (b : Byte) : (putByte s a b).io = s.io := (rfl)
@[simp] theorem putByte_host (s : State) (a : Nat) (b : Byte) : (putByte s a b).host = s.host := (rfl)
@[simp] theorem putByte_dbg (s : State) (a : Nat) (b : Byte) : (putByte s a b).dbg = s.dbg := (rfl)
@[simp] theorem putByte_engs (s : State) (a : Nat) (b : Byte) : (putByte s a b).engs = s.engs := (rfl)
@[simp] theorem putByte_grvs (s : State) (a : Nat) (b : Byte) : (putByte s a b).grvs = s.grvs := (rfl)
@[simp] theorem putByte_lake (s : State) (a : Nat) (b : Byte) : (putByte s a b).lake = s.lake := (rfl)
@[simp] theorem putByte_lfsr16 (s : State) (a : Nat) (b : Byte) : (putByte s a b).lfsr16 = s.lfsr16 := (rfl)
@[simp] theorem putByte_tarnErr (s : State) (a : Nat) (b : Byte) : (putByte s a b).tarnErr = s.tarnErr := (rfl)
@[simp] theorem putByte_corrQ (s : State) (a : Nat) (b : Byte) : (putByte s a b).corrQ = s.corrQ := (rfl)
@[simp] theorem putByte_scrubPos (s : State) (a : Nat) (b : Byte) : (putByte s a b).scrubPos = s.scrubPos := (rfl)
@[simp] theorem putByte_ownPend (s : State) (a : Nat) (b : Byte) : (putByte s a b).ownPend = s.ownPend := (rfl)
@[simp] theorem putByte_outerErr (s : State) (a : Nat) (b : Byte) : (putByte s a b).outerErr = s.outerErr := (rfl)
@[simp] theorem putByte_nchm (s : State) (a : Nat) (b : Byte) : (putByte s a b).nchm = s.nchm := (rfl)
@[simp] theorem putByte_cmx (s : State) (a : Nat) (b : Byte) : (putByte s a b).cmx = s.cmx := (rfl)
@[simp] theorem putByte_pwr (s : State) (a : Nat) (b : Byte) : (putByte s a b).pwr = s.pwr := (rfl)
@[simp] theorem putByte_dbgSt (s : State) (a : Nat) (b : Byte) : (putByte s a b).dbgSt = s.dbgSt := (rfl)
@[simp] theorem putByte_fuse (s : State) (a : Nat) (b : Byte) : (putByte s a b).fuse = s.fuse := (rfl)
@[simp] theorem putByte_act (s : State) (a : Nat) (b : Byte) : (putByte s a b).act = s.act := (rfl)
@[simp] theorem putByte_jPend (s : State) (a : Nat) (b : Byte) : (putByte s a b).jPend = s.jPend := (rfl)
@[simp] theorem putByte_jRel (s : State) (a : Nat) (b : Byte) : (putByte s a b).jRel = s.jRel := (rfl)
@[simp] theorem putByte_flt (s : State) (a : Nat) (b : Byte) : (putByte s a b).flt = s.flt := (rfl)
@[simp] theorem putByte_safeReq (s : State) (a : Nat) (b : Byte) : (putByte s a b).safeReq = s.safeReq := (rfl)
@[simp] theorem putByte_fenceReq (s : State) (a : Nat) (b : Byte) : (putByte s a b).fenceReq = s.fenceReq := (rfl)
@[simp] theorem putByte_wspStopped (s : State) (a : Nat) (b : Byte) : (putByte s a b).wspStopped = s.wspStopped := (rfl)
@[simp] theorem putByte_evq (s : State) (a : Nat) (b : Byte) : (putByte s a b).evq = s.evq := (rfl)
@[simp] theorem putByte_apps (s : State) (a : Nat) (b : Byte) : (putByte s a b).apps = s.apps := (rfl)
@[simp] theorem putByte_cutSince (s : State) (a : Nat) (b : Byte) : (putByte s a b).cutSince = s.cutSince := (rfl)
@[simp] theorem putByte_routes (s : State) (a : Nat) (b : Byte) : (putByte s a b).routes = s.routes := (rfl)
@[simp] theorem putByte_waitRoutes (s : State) (a : Nat) (b : Byte) : (putByte s a b).waitRoutes = s.waitRoutes := (rfl)
@[simp] theorem putByte_valRoutes (s : State) (a : Nat) (b : Byte) : (putByte s a b).valRoutes = s.valRoutes := (rfl)
@[simp] theorem putByte_att (s : State) (a : Nat) (b : Byte) : (putByte s a b).att = s.att := (rfl)
@[simp] theorem putByte_attLast (s : State) (a : Nat) (b : Byte) : (putByte s a b).attLast = s.attLast := (rfl)
@[simp] theorem putByte_holdRun (s : State) (a : Nat) (b : Byte) : (putByte s a b).holdRun = s.holdRun := (rfl)
@[simp] theorem putByte_ucErr (s : State) (a : Nat) (b : Byte) : (putByte s a b).ucErr = s.ucErr := (rfl)
@[simp] theorem putByte_upatch (s : State) (a : Nat) (b : Byte) : (putByte s a b).upatch = s.upatch := (rfl)
@[simp] theorem putByte_bnd (s : State) (a : Nat) (b : Byte) : (putByte s a b).bnd = s.bnd := (rfl)
@[simp] theorem putByte_twin (s : State) (a : Nat) (b : Byte) : (putByte s a b).twin = s.twin := (rfl)
@[simp] theorem putByte_edit (s : State) (a : Nat) (b : Byte) : (putByte s a b).edit = s.edit := (rfl)
@[simp] theorem putByte_shadow (s : State) (a : Nat) (b : Byte) : (putByte s a b).shadow = s.shadow := (rfl)
@[simp] theorem putByte_outQ (s : State) (a : Nat) (b : Byte) : (putByte s a b).outQ = s.outQ := (rfl)
@[simp] theorem putByte_inQ (s : State) (a : Nat) (b : Byte) : (putByte s a b).inQ = s.inQ := (rfl)
@[simp] theorem putByte_shr (s : State) (a : Nat) (b : Byte) : (putByte s a b).shr = s.shr := (rfl)
@[simp] theorem putByte_cvu (s : State) (a : Nat) (b : Byte) : (putByte s a b).cvu = s.cvu := (rfl)
@[simp] theorem putByte_vjob (s : State) (a : Nat) (b : Byte) : (putByte s a b).vjob = s.vjob := (rfl)
@[simp] theorem putByte_mbx (s : State) (a : Nat) (b : Byte) : (putByte s a b).mbx = s.mbx := (rfl)
@[simp] theorem putByte_goQ (s : State) (a : Nat) (b : Byte) : (putByte s a b).goQ = s.goQ := (rfl)
@[simp] theorem putByte_sessions (s : State) (a : Nat) (b : Byte) : (putByte s a b).sessions = s.sessions := (rfl)
@[simp] theorem putByte_openCnt (s : State) (a : Nat) (b : Byte) : (putByte s a b).openCnt = s.openCnt := (rfl)
@[simp] theorem putByte_authFail (s : State) (a : Nat) (b : Byte) : (putByte s a b).authFail = s.authFail := (rfl)
@[simp] theorem putByte_authLock (s : State) (a : Nat) (b : Byte) : (putByte s a b).authLock = s.authLock := (rfl)
@[simp] theorem putByte_waits (s : State) (a : Nat) (b : Byte) : (putByte s a b).waits = s.waits := (rfl)
@[simp] theorem putByte_defs (s : State) (a : Nat) (b : Byte) : (putByte s a b).defs = s.defs := (rfl)
@[simp] theorem putByte_flash (s : State) (a : Nat) (b : Byte) : (putByte s a b).flash = s.flash := (rfl)
@[simp] theorem putByte_boot (s : State) (a : Nat) (b : Byte) : (putByte s a b).boot = s.boot := (rfl)
@[simp] theorem putByte_prepared (s : State) (a : Nat) (b : Byte) : (putByte s a b).prepared = s.prepared := (rfl)
@[simp] theorem putByte_noSpare (s : State) (a : Nat) (b : Byte) : (putByte s a b).noSpare = s.noSpare := (rfl)
@[simp] theorem putByte_frozen (s : State) (a : Nat) (b : Byte) : (putByte s a b).frozen = s.frozen := (rfl)
@[simp] theorem putByte_captured (s : State) (a : Nat) (b : Byte) : (putByte s a b).captured = s.captured := (rfl)
@[simp] theorem putByte_wdSet (s : State) (a : Nat) (b : Byte) : (putByte s a b).wdSet = s.wdSet := (rfl)
@[simp] theorem putByte_rstSrc (s : State) (a : Nat) (b : Byte) : (putByte s a b).rstSrc = s.rstSrc := (rfl)
@[simp] theorem putByte_fuseDone (s : State) (a : Nat) (b : Byte) : (putByte s a b).fuseDone = s.fuseDone := (rfl)
@[simp] theorem putByte_devHalt (s : State) (a : Nat) (b : Byte) : (putByte s a b).devHalt = s.devHalt := (rfl)
@[simp] theorem putByte_auxHeld (s : State) (a : Nat) (b : Byte) : (putByte s a b).auxHeld = s.auxHeld := (rfl)

/-! ### putChan -/

@[simp] theorem putChan_pending (s : State) (c : Nat) (x : Mbx) : (putChan s c x).pending = s.pending := (rfl)
@[simp] theorem putChan_outResp (s : State) (c : Nat) (x : Mbx) : (putChan s c x).outResp = s.outResp := (rfl)
@[simp] theorem putChan_outData (s : State) (c : Nat) (x : Mbx) : (putChan s c x).outData = s.outData := (rfl)
@[simp] theorem putChan_free (s : State) (c : Nat) (x : Mbx) : (putChan s c x).free = s.free := (rfl)
@[simp] theorem putChan_dev (s : State) (c : Nat) (x : Mbx) : (putChan s c x).dev = s.dev := (rfl)
@[simp] theorem putChan_prevDev (s : State) (c : Nat) (x : Mbx) : (putChan s c x).prevDev = s.prevDev := (rfl)
@[simp] theorem putChan_cause (s : State) (c : Nat) (x : Mbx) : (putChan s c x).cause = s.cause := (rfl)
@[simp] theorem putChan_tb (s : State) (c : Nat) (x : Mbx) : (putChan s c x).tb = s.tb := (rfl)
@[simp] theorem putChan_io (s : State) (c : Nat) (x : Mbx) : (putChan s c x).io = s.io := (rfl)
@[simp] theorem putChan_host (s : State) (c : Nat) (x : Mbx) : (putChan s c x).host = s.host := (rfl)
@[simp] theorem putChan_dbg (s : State) (c : Nat) (x : Mbx) : (putChan s c x).dbg = s.dbg := (rfl)
@[simp] theorem putChan_engs (s : State) (c : Nat) (x : Mbx) : (putChan s c x).engs = s.engs := (rfl)
@[simp] theorem putChan_grvs (s : State) (c : Nat) (x : Mbx) : (putChan s c x).grvs = s.grvs := (rfl)
@[simp] theorem putChan_lake (s : State) (c : Nat) (x : Mbx) : (putChan s c x).lake = s.lake := (rfl)
@[simp] theorem putChan_lfsr16 (s : State) (c : Nat) (x : Mbx) : (putChan s c x).lfsr16 = s.lfsr16 := (rfl)
@[simp] theorem putChan_mem (s : State) (c : Nat) (x : Mbx) : (putChan s c x).mem = s.mem := (rfl)
@[simp] theorem putChan_tarnErr (s : State) (c : Nat) (x : Mbx) : (putChan s c x).tarnErr = s.tarnErr := (rfl)
@[simp] theorem putChan_corrQ (s : State) (c : Nat) (x : Mbx) : (putChan s c x).corrQ = s.corrQ := (rfl)
@[simp] theorem putChan_scrubPos (s : State) (c : Nat) (x : Mbx) : (putChan s c x).scrubPos = s.scrubPos := (rfl)
@[simp] theorem putChan_ownPend (s : State) (c : Nat) (x : Mbx) : (putChan s c x).ownPend = s.ownPend := (rfl)
@[simp] theorem putChan_outerErr (s : State) (c : Nat) (x : Mbx) : (putChan s c x).outerErr = s.outerErr := (rfl)
@[simp] theorem putChan_nchm (s : State) (c : Nat) (x : Mbx) : (putChan s c x).nchm = s.nchm := (rfl)
@[simp] theorem putChan_cmx (s : State) (c : Nat) (x : Mbx) : (putChan s c x).cmx = s.cmx := (rfl)
@[simp] theorem putChan_pwr (s : State) (c : Nat) (x : Mbx) : (putChan s c x).pwr = s.pwr := (rfl)
@[simp] theorem putChan_dbgSt (s : State) (c : Nat) (x : Mbx) : (putChan s c x).dbgSt = s.dbgSt := (rfl)
@[simp] theorem putChan_fuse (s : State) (c : Nat) (x : Mbx) : (putChan s c x).fuse = s.fuse := (rfl)
@[simp] theorem putChan_act (s : State) (c : Nat) (x : Mbx) : (putChan s c x).act = s.act := (rfl)
@[simp] theorem putChan_jPend (s : State) (c : Nat) (x : Mbx) : (putChan s c x).jPend = s.jPend := (rfl)
@[simp] theorem putChan_jRel (s : State) (c : Nat) (x : Mbx) : (putChan s c x).jRel = s.jRel := (rfl)
@[simp] theorem putChan_flt (s : State) (c : Nat) (x : Mbx) : (putChan s c x).flt = s.flt := (rfl)
@[simp] theorem putChan_safeReq (s : State) (c : Nat) (x : Mbx) : (putChan s c x).safeReq = s.safeReq := (rfl)
@[simp] theorem putChan_fenceReq (s : State) (c : Nat) (x : Mbx) : (putChan s c x).fenceReq = s.fenceReq := (rfl)
@[simp] theorem putChan_wspStopped (s : State) (c : Nat) (x : Mbx) : (putChan s c x).wspStopped = s.wspStopped := (rfl)
@[simp] theorem putChan_evq (s : State) (c : Nat) (x : Mbx) : (putChan s c x).evq = s.evq := (rfl)
@[simp] theorem putChan_apps (s : State) (c : Nat) (x : Mbx) : (putChan s c x).apps = s.apps := (rfl)
@[simp] theorem putChan_cutSince (s : State) (c : Nat) (x : Mbx) : (putChan s c x).cutSince = s.cutSince := (rfl)
@[simp] theorem putChan_routes (s : State) (c : Nat) (x : Mbx) : (putChan s c x).routes = s.routes := (rfl)
@[simp] theorem putChan_waitRoutes (s : State) (c : Nat) (x : Mbx) : (putChan s c x).waitRoutes = s.waitRoutes := (rfl)
@[simp] theorem putChan_valRoutes (s : State) (c : Nat) (x : Mbx) : (putChan s c x).valRoutes = s.valRoutes := (rfl)
@[simp] theorem putChan_att (s : State) (c : Nat) (x : Mbx) : (putChan s c x).att = s.att := (rfl)
@[simp] theorem putChan_attLast (s : State) (c : Nat) (x : Mbx) : (putChan s c x).attLast = s.attLast := (rfl)
@[simp] theorem putChan_holdRun (s : State) (c : Nat) (x : Mbx) : (putChan s c x).holdRun = s.holdRun := (rfl)
@[simp] theorem putChan_ucErr (s : State) (c : Nat) (x : Mbx) : (putChan s c x).ucErr = s.ucErr := (rfl)
@[simp] theorem putChan_upatch (s : State) (c : Nat) (x : Mbx) : (putChan s c x).upatch = s.upatch := (rfl)
@[simp] theorem putChan_bnd (s : State) (c : Nat) (x : Mbx) : (putChan s c x).bnd = s.bnd := (rfl)
@[simp] theorem putChan_twin (s : State) (c : Nat) (x : Mbx) : (putChan s c x).twin = s.twin := (rfl)
@[simp] theorem putChan_edit (s : State) (c : Nat) (x : Mbx) : (putChan s c x).edit = s.edit := (rfl)
@[simp] theorem putChan_shadow (s : State) (c : Nat) (x : Mbx) : (putChan s c x).shadow = s.shadow := (rfl)
@[simp] theorem putChan_outQ (s : State) (c : Nat) (x : Mbx) : (putChan s c x).outQ = s.outQ := (rfl)
@[simp] theorem putChan_inQ (s : State) (c : Nat) (x : Mbx) : (putChan s c x).inQ = s.inQ := (rfl)
@[simp] theorem putChan_shr (s : State) (c : Nat) (x : Mbx) : (putChan s c x).shr = s.shr := (rfl)
@[simp] theorem putChan_cvu (s : State) (c : Nat) (x : Mbx) : (putChan s c x).cvu = s.cvu := (rfl)
@[simp] theorem putChan_vjob (s : State) (c : Nat) (x : Mbx) : (putChan s c x).vjob = s.vjob := (rfl)
@[simp] theorem putChan_goQ (s : State) (c : Nat) (x : Mbx) : (putChan s c x).goQ = s.goQ := (rfl)
@[simp] theorem putChan_sessions (s : State) (c : Nat) (x : Mbx) : (putChan s c x).sessions = s.sessions := (rfl)
@[simp] theorem putChan_openCnt (s : State) (c : Nat) (x : Mbx) : (putChan s c x).openCnt = s.openCnt := (rfl)
@[simp] theorem putChan_authFail (s : State) (c : Nat) (x : Mbx) : (putChan s c x).authFail = s.authFail := (rfl)
@[simp] theorem putChan_authLock (s : State) (c : Nat) (x : Mbx) : (putChan s c x).authLock = s.authLock := (rfl)
@[simp] theorem putChan_waits (s : State) (c : Nat) (x : Mbx) : (putChan s c x).waits = s.waits := (rfl)
@[simp] theorem putChan_defs (s : State) (c : Nat) (x : Mbx) : (putChan s c x).defs = s.defs := (rfl)
@[simp] theorem putChan_flash (s : State) (c : Nat) (x : Mbx) : (putChan s c x).flash = s.flash := (rfl)
@[simp] theorem putChan_boot (s : State) (c : Nat) (x : Mbx) : (putChan s c x).boot = s.boot := (rfl)
@[simp] theorem putChan_prepared (s : State) (c : Nat) (x : Mbx) : (putChan s c x).prepared = s.prepared := (rfl)
@[simp] theorem putChan_noSpare (s : State) (c : Nat) (x : Mbx) : (putChan s c x).noSpare = s.noSpare := (rfl)
@[simp] theorem putChan_frozen (s : State) (c : Nat) (x : Mbx) : (putChan s c x).frozen = s.frozen := (rfl)
@[simp] theorem putChan_captured (s : State) (c : Nat) (x : Mbx) : (putChan s c x).captured = s.captured := (rfl)
@[simp] theorem putChan_wdSet (s : State) (c : Nat) (x : Mbx) : (putChan s c x).wdSet = s.wdSet := (rfl)
@[simp] theorem putChan_rstSrc (s : State) (c : Nat) (x : Mbx) : (putChan s c x).rstSrc = s.rstSrc := (rfl)
@[simp] theorem putChan_fuseDone (s : State) (c : Nat) (x : Mbx) : (putChan s c x).fuseDone = s.fuseDone := (rfl)
@[simp] theorem putChan_devHalt (s : State) (c : Nat) (x : Mbx) : (putChan s c x).devHalt = s.devHalt := (rfl)
@[simp] theorem putChan_auxHeld (s : State) (c : Nat) (x : Mbx) : (putChan s c x).auxHeld = s.auxHeld := (rfl)

end Sys2Proof.Machine
end

