-- ==== Sys2Proof/Laws/Memory.lean ====
section
/-! SUPPORT. The byte memory: every memory operation keeps its canonical form, and says which bytes it changes. -/

namespace Sys2Proof.Machine

/-! ### Bytes stored and left -/

theorem byteAt_putBytes_out (s : State) (bs : List Byte) : ∀ {a c : Nat}, (c < a ∨ a + bs.length ≤ c) →
    byteAt (putBytes s a bs) c = byteAt s c := by
  induction bs generalizing s with
  | nil => intros; rfl
  | cons b r ih =>
    intro a c h
    simp only [List.length_cons] at h
    rw [putBytes, ih (s := putByte s a b) (by omega), byteAt_putByte_ne _ _ (by omega)]

theorem byteAt_putBytes_in (s : State) (bs : List Byte) : ∀ {a i : Nat}, i < bs.length →
    byteAt (putBytes s a bs) (a + i) = bs.getD i 0 := by
  induction bs generalizing s with
  | nil => intro a i h; simp at h
  | cons b r ih =>
    intro a i h
    simp only [List.length_cons] at h
    cases i with
    | zero => rw [putBytes, byteAt_putBytes_out _ _ (by omega)]; simp
    | succ j =>
      rw [putBytes, show a + (j + 1) = a + 1 + j by omega, ih (s := putByte s a b) (by omega)]
      simp

/-- Only memory changes. -/
theorem putBytes_eq (s : State) (bs : List Byte) : ∀ a, putBytes s a bs = { s with mem := (putBytes s a bs).mem } := by
  induction bs generalizing s with
  | nil => intro a; rfl
  | cons b r ih => intro a; exact ih (putByte s a b) (a + 1)

/-! ### The canonical form -/

theorem wf_putByte (s : State) (a : Nat) (b : Byte) (h : Memory.wf s.mem) : Memory.wf (putByte s a b).mem :=
  Sparse.wf_set _ h _ _

theorem wf_putBytes (bs : List Byte) : ∀ (s : State) (a : Nat), Memory.wf s.mem → Memory.wf (putBytes s a bs).mem := by
  induction bs with
  | nil => intro s a h; exact h
  | cons b r ih => intro s a h; exact ih _ _ (wf_putByte s a b h)

theorem wf_freeBytes (n : Nat) : ∀ (s : State) (a : Nat), Memory.wf s.mem → Memory.wf (freeBytes s a n).mem := by
  induction n with
  | zero => intro s a h; exact h
  | succ n ih => intro s a h; exact ih _ _ (wf_putByte s a _ h)

theorem wf_putWord (s : State) (a : Nat) (w : Word) (h : Memory.wf s.mem) : Memory.wf (putWord s a w).mem := wf_putBytes _ s a h
theorem wf_putLine (s : State) (n : Nat) (l : Line) (h : Memory.wf s.mem) : Memory.wf (putLine s n l).mem := wf_putBytes _ s _ h
theorem storeTarn_mem (s : State) (t w : Nat) (v : Word) : (storeTarn s t w v).mem = (putWord s (tarnAddr t w) v).mem := by
  unfold storeTarn dropCorr putTarnCls putTarnRaw; rfl
theorem wf_storeTarn (s : State) (t w : Nat) (v : Word) (h : Memory.wf s.mem) : Memory.wf (storeTarn s t w v).mem := by
  rw [storeTarn_mem]; exact wf_putWord s _ v h

theorem wf_storeWords (ws : List Word) (s : State) (t w : Nat) (h : Memory.wf s.mem) : Memory.wf (storeWords s t w ws).mem := by
  unfold storeWords
  suffices hs : ∀ (ws : List Word) (p : State × Nat), Memory.wf p.1.mem →
      Memory.wf (ws.foldl (fun p v => (storeTarn p.1 t p.2 v, p.2 + 1)) p).1.mem from hs ws (s, w) h
  intro ws
  induction ws with
  | nil => intro p h; exact h
  | cons v r ih => intro p h; rw [List.foldl_cons]; exact ih _ (wf_storeTarn _ _ _ _ h)

theorem wf_programBytes (bs : List Byte) : ∀ (s : State) (a : Nat), Memory.wf s.mem → Memory.wf (programBytes s a bs).mem := by
  induction bs with
  | nil => intro s a h; exact h
  | cons b r ih => intro s a h; exact ih _ _ (wf_putByte s a _ h)

theorem wf_flashApply (s : State) (op : FlashOp) (h : Memory.wf s.mem) : Memory.wf (flashApply s op).mem := by
  cases op with
  | erase a => exact wf_putBytes _ _ _ h
  | program a d => exact wf_programBytes _ _ _ h

theorem wf_flashCut (s : State) (op : FlashOp) (h : Memory.wf s.mem) : Memory.wf (flashCut s op).mem := by
  cases op <;> exact wf_freeBytes _ _ _ h

theorem wf_dropKeys (m : Sparse Byte) (p : Nat → Bool) (h : Memory.wf m) : Memory.wf (dropKeys m p) :=
  ⟨List.Pairwise.sublist (List.Sublist.map _ (List.filter_sublist (l := m))) h.1, fun q hq => h.2 q (List.mem_filter.mp hq).1⟩

theorem wf_marchTest (s : State) (h : Memory.wf s.mem) : Memory.wf (marchTest s).mem := by
  have e : (marchTest s).mem = dropKeys s.mem (fun a => ((List.range 64).filter (marched s)).any fun t => inTarn t a) := by
    rw [marchTest]
  rw [e]; exact wf_dropKeys _ _ h

/-- At reset nothing is listed. -/
theorem wf_reset : Memory.wf State.reset.mem := Sparse.wf_nil 0#8

/-! ### Operations over tarns that leave or change memory -/

@[simp] theorem pushEvent_mem (s : State) (k x d : Nat) : (pushEvent s k x d).mem = s.mem := by
  unfold pushEvent
  split
  · rfl
  · split <;> rfl

@[simp] theorem record_mem (s : State) (r : FaultInfo) : (record s r).mem = s.mem := by
  unfold record
  split
  · rfl
  · exact pushEvent_mem _ _ _ _

theorem clearRsv_mem (s : State) (m a : Nat) : (clearRsv s m a).mem = s.mem := by
  unfold clearRsv
  generalize s.engs = l
  suffices h : ∀ (l : Sparse Engine) (st : State), (l.foldl (fun st p =>
      let x := p.2
      if bit x.rsv 0 && decide (x.rsv.toNat / 64 = a / 64) && decide (p.1 ≠ m) &&
         !(decide (p.1 = m + 1) && decide (m % 2 = 0) && decide (m < 32) && isLockstep s (m / 2)) then
        putEng st p.1 { x with rsv := putBit x.rsv 0 false }
      else st) st).mem = st.mem from h l s
  intro l
  induction l with
  | nil => intro st; rfl
  | cons p r ih =>
    intro st
    rw [List.foldl_cons, ih]
    dsimp only
    split <;> rfl

theorem readTarn_mem (s : State) (t w m : Nat) : (readTarn s t w m).1.mem = s.mem := by
  unfold readTarn
  split
  · rfl
  · simp only [noteCorrected, queueCorr, bump_mem]
  · simp only [logUe, record_mem, bump_mem, wr_mem, sb_mem]

theorem wf_writeTarn (s : State) (t w m : Nat) (mask v : Word) (h : Memory.wf s.mem) : Memory.wf (writeTarn s t w m mask v).1.mem := by
  have hr : ∀ (q : State × Option Word), readTarn s t w m = q → Memory.wf q.1.mem := by
    intro q hq; rw [← hq, readTarn_mem]; exact h
  unfold writeTarn
  split
  · split
    · rw [clearRsv_mem]; exact wf_storeTarn _ _ _ _ h
    · split
      · rename_i u hu; exact hr _ hu
      · rename_i u old hu; rw [clearRsv_mem]; exact wf_storeTarn _ _ _ _ (hr _ hu)
  · exact h
  · split
    · rw [clearRsv_mem]; exact wf_storeTarn _ _ _ _ h
    · split
      · rename_i u hu; exact hr _ hu
      · rename_i u old hu; rw [clearRsv_mem]; exact wf_storeTarn _ _ _ _ (hr _ hu)

end Sys2Proof.Machine
end

