-- ==== Sys2Proof/WellFormed.lean ====
section
/-! DEFINITION. Well-formed commands: the bounds that the interfaces put on operands and that their types do not: burst
lengths (R498), the size of a Shore frame (R289), register alignment (R422) and the number of fuse words (R512). -/

namespace Sys2Proof

/-- A burst on NCH-S (R498): 1 to 16 beats from an offset inside the addressed window; a write brings four words and a byte
enable for each beat, a read brings no data and at most one byte enable, applied to every beat. -/
def BusReq.wf (size : Nat) (x : BusReq) : Bool :=
  decide (1 ≤ x.beats) && decide (x.beats ≤ 16) && decide (x.off < size) &&
  (if x.wr then decide (x.words.length = 4 * x.beats) && decide (x.be.length = x.beats)
   else x.words.isEmpty && decide (x.be.length ≤ 1))

/-- A frame has at most 6 header words, 256 payload words and a check word (R289). -/
def Frame.wf (f : Frame) : Bool := decide (f.words.length ≤ 263)

/-- A host's register access is at a 4-aligned byte offset (R422). -/
def RegPath.wf : RegPath → Bool
  | .io _ _ => true
  | .host _ off _ => decide (off.toNat % 4 = 0)
  | .dbg _ => true

/-- A well-formed command. -/
def Instr.wf : Instr → Bool
  | .attachDeposit _ off ws =>
    decide (off < 0x1000) && decide (ws.length % 4 = 0) && decide (4 ≤ ws.length) && decide (ws.length ≤ 64)
  | .transmitRecordRead _ beats => decide (1 ≤ beats) && decide (beats ≤ 16)
  | .expertWindowAccess _ x => x.wf 0x4000
  | .hostTarnWindowAccess _ _ x => x.wf 0x20000
  | .registerWrite p _ => p.wf
  | .fuseLoad ws => decide (ws.length = 328)
  | .nchsBadRequest addr len _ => decide (addr.toNat % 16 ≠ 0) || decide (addr.toNat % 4096 + 16 * (len.toNat + 1) > 4096)
  | .heartbeat _ f | .linkDown _ f | .linkUp _ f | .topo _ f | .syncFrame _ f | .beacon _ f
  | .joinReq _ f | .joinAck _ f | .item _ f | .unknownFrame _ f | .snap _ f | .agree _ f
  | .refuse _ f | .record _ f | .handoff _ f | .twinDrop _ f | .depart _ f | .left _ f
  | .editPrep _ f | .editPrepd _ f | .editAbrt _ f | .swPrep _ f | .swPrepd _ f | .swAbrt _ f
  | .joinCopy _ f => f.wf
  | _ => true

end Sys2Proof
end

