-- ==== Sys2Proof/Tests/Slice0.lean ====
section
/-! SUPPORT. Tests: ill-formed commands that the checks of WellFormed refuse, small tests with results worked out from the
manual, and for each statement with hypotheses concrete states and operands that meet them. -/

open Sys2Proof Sys2Proof.Machine

set_option Elab.async false

namespace Sys2Proof.Tests

/-! ### Ill-formed commands -/

def rdReq : BusReq := { off := 0, beats := 1, wr := false, words := [], be := [] }
def wrReq : BusReq := { off := 0x3FF0, beats := 1, wr := true, words := [1, 2, 3, 4], be := [0xFFFF] }

theorem test_wf_good : [Instr.nop 0, .expertWindowAccess 0 rdReq, .expertWindowAccess 0 wrReq, .attachDeposit 3 0 [0, 1, 2, 3],
    .transmitRecordRead 3 5, .heartbeat .a ⟨[]⟩, .registerWrite (.host 0 0x10 0xF) 1, .registerWrite (.io 32 0x3FFF) 1,
    .nchsBadRequest 8 0 false, .nchsBadRequest 0xFF0 1 true].all Instr.wf = true := by decide +kernel
theorem test_wf_no_beat : Instr.wf (.expertWindowAccess 0 { rdReq with beats := 0 }) = false := by decide +kernel
theorem test_wf_beats : Instr.wf (.expertWindowAccess 0 { rdReq with beats := 17 }) = false := by decide +kernel
theorem test_wf_offset : Instr.wf (.expertWindowAccess 0 { rdReq with off := 0x4000 }) = false := by decide +kernel
theorem test_wf_window_offset : Instr.wf (.hostTarnWindowAccess 0 0 { rdReq with off := 0x20000 }) = false := by decide +kernel
theorem test_wf_write_words : Instr.wf (.expertWindowAccess 0 { wrReq with words := [1, 2, 3] }) = false := by decide +kernel
theorem test_wf_write_enables : Instr.wf (.expertWindowAccess 0 { wrReq with be := [] }) = false := by decide +kernel
theorem test_wf_read_words : Instr.wf (.expertWindowAccess 0 { rdReq with words := [1] }) = false := by decide +kernel
theorem test_wf_read_enables : Instr.wf (.expertWindowAccess 0 { rdReq with be := [1, 1] }) = false := by decide +kernel
theorem test_wf_frame : Instr.wf (.item .a ⟨List.replicate 264 0⟩) = false := by decide +kernel
theorem test_wf_register : Instr.wf (.registerWrite (.host 0 0x12 0xF) 1) = false := by decide +kernel
theorem test_wf_deposit_offset : Instr.wf (.attachDeposit 0 0x1000 [0, 0, 0, 0]) = false := by decide +kernel
theorem test_wf_deposit_beats : Instr.wf (.attachDeposit 0 0 [0, 0, 0, 0, 0]) = false := by decide +kernel
theorem test_wf_deposit_empty : Instr.wf (.attachDeposit 0 0 []) = false := by decide +kernel
theorem test_wf_deposit_long : Instr.wf (.attachDeposit 0 0 (List.replicate 68 0)) = false := by decide +kernel
theorem test_wf_no_transmit_beat : Instr.wf (.transmitRecordRead 0 0) = false := by decide +kernel
theorem test_wf_transmit_beats : Instr.wf (.transmitRecordRead 0 17) = false := by decide +kernel
theorem test_wf_fuses : Instr.wf (.fuseLoad []) = false := by decide +kernel
theorem test_wf_bad_request : Instr.wf (.nchsBadRequest 0x10 0 false) = false := by decide +kernel

/-- The table gives no row bits, so no word spells a command. -/
theorem test_no_word : decodeTableWord 32 0x12345678 = none := by decide +kernel

/-! ### States of engines -/

/-- Registers written over a state, and full access for a master. -/
def regs (s : State) (l : List (Nat × Word)) : State := l.foldl (fun s p => wr s p.1 p.2) s
def opened (s : State) (m : Nat) (ts : List Nat) : State := ts.foldl (fun s t => putActEntry s t m 0xFFFF) s

/-- A device in Run: Grove 0 runs Application 0 in Lockstep; outer memory is one uncached region; T1 holds data and stacks, T2 to T4
the Application's inlet, outlet and markers, all Shared. -/
def field : State :=
  let s := opened { State.reset with dev := .run, tb := { State.tbReset with now := 0x123456789A } } 0
    [1, 2, 3, 4, 0x40, 0x52, 0x53, 0x54, 0x56, 0x61, 0x62, 0x63, 0xC1]
  let s := regs s [(Reg.actRlim, 0x8FFFF000), (Reg.tarnOwn + 1, 3), (Reg.tarnOwn + 2, 3), (Reg.tarnOwn + 3, 3), (Reg.tarnOwn + 4, 3),
    (Reg.imgInt, 2 + 2 * 64), (Reg.imgInl, 0x400000), (Reg.imgOutt, 3 + 3 * 64), (Reg.imgOutl, 0x400000), (Reg.imgMrkt, 4),
    (Reg.imgMrkl, 0x400000)]
  putGrv s 0 { State.grvReset with
    glade := some { entry := 0, app := 0, stage := 0, winEnd := 0xFFFFFFFFFFFF, cycBud := 0xFFFF, beatBud := 0xFFFF }
    counting := true }

/-- Engine 0 there, with its stacks in T1 and the cells given. -/
def worker (cells : List Word) : Engine :=
  { State.engReset with
    pc := 0x400, run := .running, cells := cells, ddepth := BitVec.ofNat 32 cells.length, lsk := 0b0110, lskd := 5
    dsp := 0x80021000, dsl := 0x80020800, srcp := 0x80020010, dstp := 0x80020020, rcnt := 2
    ers := [(0x14, 0x80024000), (0x15, 0x80023800), (0x16, 0x80025000), (0x17, 0x80024800), (0x19, 0x2000)]
    xr := [⟨false, false, 0, 0xFFF⟩] }
def on (x : Engine) : State := putEng field 0 x
/-- Cells that are an address of T1 and numbers, and a bit address of the outlet. -/
def dataS : State := on (worker [0x80020010, 5, 7, 9, 11, 13, 15, 17])
def bitS : State := on (worker [0x400005, 1, 7, 9])

/-- The start of an instruction and its operands, computed. -/
def meets (e n p : Nat) (i : Insn) (s : State) : Option (State × List Word × State) :=
  if canIssue s e = true ∧ (eng s e).dueTrap = none then
    match (startInsn e i).run s with
    | .ok (_, t) =>
      match (popN e n p).run t with
      | .ok (ws, u) => some (t, ws, u)
      | .error _ => none
    | .error _ => none
  else none

theorem meets_started {e n p : Nat} {i : Insn} {s t u : State} {ws : List Word} (h : meets e n p i s = some (t, ws, u)) :
    Started e i s t ∧ Takes e n p t ws u := by
  unfold meets at h
  split at h
  case isFalse => cases h
  case isTrue hc =>
    cases h1 : (startInsn e i).run s with
    | error x => rw [h1] at h; cases h
    | ok y =>
      obtain ⟨⟨⟩, t'⟩ := y
      rw [h1] at h
      cases h2 : (popN e n p).run t' with
      | error x => simp only [h2] at h; cases h
      | ok z =>
        obtain ⟨ws', u'⟩ := z
        simp only [h2, Option.some.injEq, Prod.mk.injEq] at h
        obtain ⟨rfl, rfl, rfl⟩ := h
        exact ⟨⟨hc.1, hc.2, h1⟩, h2⟩

/-- As `meets`, with `n` operands taken; and with work `m` that succeeds. -/
def taken (e n p : Nat) (i : Insn) (s : State) : Bool :=
  match meets e n p i s with
  | some (_, ws, _) => decide (ws.length = n)
  | none => false
def worked {β : Type} (e n p : Nat) (i : Insn) (s : State) (m : List Word → State → EM β) : Bool :=
  match meets e n p i s with
  | some (t, ws, u) => decide (ws.length = n) && (match (m ws t).run u with | .ok _ => true | .error _ => false)
  | none => false

theorem of_taken {e n p : Nat} {i : Insn} {s : State} (h : taken e n p i s = true) :
    ∃ t ws u, Started e i s t ∧ Takes e n p t ws u ∧ ws.length = n := by
  unfold taken at h
  cases hm : meets e n p i s with
  | none => rw [hm] at h; cases h
  | some x => rw [hm] at h; exact ⟨x.1, x.2.1, x.2.2, (meets_started hm).1, (meets_started hm).2, of_decide_eq_true h⟩

theorem of_worked {β : Type} {e n p : Nat} {i : Insn} {s : State} {m : List Word → State → EM β} (h : worked e n p i s m = true) :
    ∃ t ws u v w, Started e i s t ∧ Takes e n p t ws u ∧ ws.length = n ∧ Runs (m ws t) u v w := by
  unfold worked at h
  cases hm : meets e n p i s with
  | none => rw [hm] at h; cases h
  | some x =>
    rw [hm] at h
    simp only [Bool.and_eq_true] at h
    cases hr : (m x.2.1 x.1).run x.2.2 with
    | error y => rw [hr] at h; cases h.2
    | ok y => exact ⟨x.1, x.2.1, x.2.2, y.1, y.2, (meets_started hm).1, (meets_started hm).2, of_decide_eq_true h.1, hr⟩

/-! ### Witnesses: instructions of engines

`Starts l` says that for every shape of `l` (operands, cells to be pushed, start) an instruction of engine 0 starts on a concrete state
and takes its operands. -/

def Starts (s : State) (l : List (Nat × Nat × Insn)) : Prop :=
  ∀ x ∈ l, ∃ t ws u, Started 0 x.2.2 s t ∧ Takes 0 x.1 x.2.1 t ws u ∧ ws.length = x.1
theorem starts_of {s : State} {l : List (Nat × Nat × Insn)} (h : (l.all fun x => taken 0 x.1 x.2.1 x.2.2 s) = true) : Starts s l :=
  fun x hx => of_taken (List.all_eq_true.mp h x hx)

/-- One-byte instructions of one cycle that may end a folded pair, and starts of `l` bytes and `c` cycles. -/
def one : Insn := { len := 1, cyc := 1, second := true }
def ins (l c : Nat) : Insn := { len := l, cyc := c }
def micro (c n : Nat) : Insn := { len := 1, cyc := c, entry := some n }
def lead (l : Nat) : Insn := { len := l, cyc := 1, first := true }

theorem wit_StackAndLiterals : Starts dataS [(0, 0, ins 1 1), (1, 0, one), (1, 2, one), (2, 0, one), (2, 1, one), (2, 2, one),
    (2, 3, one), (2, 4, one), (3, 3, one), (4, 4, one), (0, 1, lead 2), (0, 1, lead 3), (0, 1, lead 5), (1, 2, ins 2 1), (8, 9, ins 2 1)] :=
  starts_of (by decide +kernel)
theorem wit_AddAndSubtract : Starts dataS [(1, 1, one), (2, 0, one), (2, 1, one)] := starts_of (by decide +kernel)
theorem wit_SelectCompareLogic : Starts dataS [(1, 1, one), (2, 1, one), (3, 1, one)] := starts_of (by decide +kernel)
theorem wit_ShiftsAndRotates : Starts dataS [(2, 1, one), (1, 1, ins 2 1)] := starts_of (by decide +kernel)
theorem wit_MultiplyAndDivide : Starts dataS [(2, 1, ins 1 3), (2, 2, ins 1 4), (2, 2, micro 34 0xD4), (2, 2, micro 34 0xD5)] :=
  starts_of (by decide +kernel)
theorem wit_BcdIsDecimalArithmetic : Starts dataS [(2, 1, micro 6 0xD8), (2, 1, micro 6 0xD9), (4, 2, micro 10 0xDA), (4, 2, micro 10 0xDB),
    (1, 1, micro 12 0xDC), (1, 1, micro 20 0xDD), (2, 2, micro 20 0xDE), (2, 2, micro 36 0xDF), (1, 1, micro 4 0xD6), (2, 2, micro 6 0xD7)] :=
  starts_of (by decide +kernel)
theorem wit_SixtyFourBitPage : Starts dataS [(1, 2, ins 2 1), (2, 2, ins 2 2), (3, 2, ins 2 2), (4, 0, ins 2 2), (4, 2, ins 2 2)] :=
  starts_of (by decide +kernel)
theorem wit_ConditionalBranches : Starts dataS [(0, 0, ins 2 1), (1, 0, ins 2 1), (1, 1, ins 2 1), (1, 0, ins 3 1)] :=
  starts_of (by decide +kernel)

/-- Loads at a popped address, at the instruction's and at DSP; stores likewise; `of_worked` reads these. -/
theorem wit_Loads :
    worked 0 1 1 (ins 1 1) dataS (fun w _ => load 0 (nth w 0) 4) = true ∧
    worked 0 1 1 (ins 1 1) dataS (fun w _ => load 0 (nth w 0) 2) = true ∧
    worked 0 1 1 (ins 1 1) dataS (fun w _ => load 0 (nth w 0) 1) = true ∧
    worked 0 1 2 (ins 1 1) dataS (fun w _ => loadD 0 (nth w 0)) = true ∧
    worked 0 0 1 (lead 5) dataS (fun _ _ => load 0 0x80020001 4) = true ∧
    worked 0 0 1 (lead 5) dataS (fun _ _ => load 0 0x80020001 1) = true ∧
    worked 0 0 1 (lead 3) dataS (fun _ t => load 0 ((eng t 0).dsp + BitVec.ofInt 32 (-4)) 4) = true ∧
    worked 0 0 1 (lead 3) dataS (fun _ t => load 0 ((eng t 0).dsp + BitVec.ofInt 32 (-4)) 1) = true ∧
    worked 0 1 1 (ins 3 1) dataS (fun w _ => load 0 (nth w 0 + BitVec.ofInt 32 (-4)) 4) = true := by decide +kernel
theorem wit_Stores :
    worked 0 2 0 (ins 1 1) dataS (fun w _ => store 0 (nth w 0) 4 (nth w 1)) = true ∧
    worked 0 2 0 (ins 1 1) dataS (fun w _ => store 0 (nth w 0) 2 (nth w 1)) = true ∧
    worked 0 2 0 (ins 1 1) dataS (fun w _ => store 0 (nth w 0) 1 (nth w 1)) = true ∧
    worked 0 3 0 (ins 1 1) dataS (fun w _ => storeD 0 (nth w 0) (nth w 1) (nth w 2)) = true ∧
    worked 0 1 0 (ins 5 1) dataS (fun w _ => store 0 0x80020001 4 (nth w 0)) = true ∧
    worked 0 1 0 (ins 5 1) dataS (fun w _ => store 0 0x80020001 1 (nth w 0)) = true ∧
    worked 0 1 0 (ins 3 1) dataS (fun w t => store 0 ((eng t 0).dsp + BitVec.ofInt 32 (-4)) 4 (nth w 0)) = true ∧
    worked 0 1 0 (ins 3 1) dataS (fun w t => store 0 ((eng t 0).dsp + BitVec.ofInt 32 (-4)) 1 (nth w 0)) = true ∧
    worked 0 2 0 (ins 3 1) dataS (fun w _ => store 0 (nth w 0 + BitVec.ofInt 32 (-4)) 4 (nth w 1)) = true := by decide +kernel

/-- The state after an instruction's start and operands. -/
def started (e n p : Nat) (i : Insn) (s : State) : State := match meets e n p i s with | some (_, _, u) => u | none => State.reset
/-- Does work succeed, and its state? -/
def fine {α : Type} (m : EM α) (s : State) : Bool := match m.run s with | .ok _ => true | .error _ => false
def after {α : Type} (m : EM α) (s : State) : State := match m.run s with | .ok (_, t) => t | .error _ => State.reset

/-- Reservations: of the word, of another word, none; a misaligned and a denied address. -/
theorem wit_LoadReserveStoreConditional :
    let u := started 0 1 1 (ins 1 1) dataS
    let s2 (r : Word) := on { worker [0x80020010, 5] with rsv := r }
    let u2 (r : Word) := started 0 2 1 (ins 1 1) (s2 r)
    (taken 0 1 1 (ins 1 1) dataS = true ∧ fine (do checkStrict 0 0x80020010 needR [1, 3]; readRaw 0 0x80020010 4) u = true ∧
      cmpHits u 0 [1, 3] 0x80020011 = [] ∧ (engCheck u 0 0xFFFFFFFC needR).isSome = true) ∧
    (taken 0 2 1 (ins 1 1) (s2 0) = true ∧ taken 0 2 1 (ins 1 1) (s2 0x80020011) = true ∧ taken 0 2 1 (ins 1 1) (s2 0x80020015) = true) ∧
    (fine (checkStrict 0 0x80020010 needW [2, 3]) (u2 0x80020011) = true ∧ bit (eng (u2 0x80020011) 0).rsv 0 = true ∧
      (eng (u2 0x80020011) 0).rsv.toNat / 4 = 0x80020010 / 4 ∧ fine (writeRaw 0 0x80020010 4 5) (u2 0x80020011) = true) ∧
    ((eng (u2 0x80020015) 0).rsv.toNat / 4 ≠ 0x80020010 / 4 ∧ bit (eng (u2 0) 0).rsv 0 = false ∧
      cmpHits (u2 0) 0 [2, 3] 0x80020011 = [] ∧ (engCheck (u2 0) 0 0xFFFFFFFC needW).isSome = true) := by decide +kernel
theorem wit_misaligned_and_denied_reservations :
    taken 0 1 1 (ins 1 1) (on (worker [0x80020011])) = true ∧ taken 0 1 1 (ins 1 1) (on (worker [0xFFFFFFFC])) = true ∧
    taken 0 2 1 (ins 1 1) (on (worker [0x80020011, 5])) = true ∧ taken 0 2 1 (ins 1 1) (on (worker [0xFFFFFFFC, 5])) = true := by
  decide +kernel

theorem wit_IoInstructions :
    worked 0 1 1 (ins 1 1) dataS (fun w _ => ioLoad 0 ((nth w 0).toNat % 0x10000)) = true ∧
    worked 0 0 1 (ins 3 1) dataS (fun _ _ => ioLoad 0 0xFFFF) = true ∧
    worked 0 2 0 (ins 1 1) dataS (fun w _ => ioStore 0 ((nth w 0).toNat % 0x10000) (nth w 1)) = true ∧
    worked 0 1 0 (ins 3 1) dataS (fun w _ => ioStore 0 0xFFFF (nth w 0)) = true := by decide +kernel

/-- The first and the last word of a tarn. -/
theorem wit_TarnAccess : [(0x80020000#32, 0), (0x8003FFFC#32, 0x7FFF)].all (fun x =>
    decide (placeOf x.1.toNat = .tarn 1 x.2) && decide (x.1.toNat % 4 = 0) && tarnUp dataS 1 && decide (tarnCls dataS 1 x.2 = .good) &&
    decide (cmpHits dataS 0 [1, 3] x.1.toNat = []) && decide (engCheck dataS 0 x.1.toNat needR = none) &&
    decide (cmpHits dataS 0 [2, 3] x.1.toNat = []) && decide (engCheck dataS 0 x.1.toNat needW = none) &&
    decide (bufIndex dataS 1 x.2 = none)) = true := by decide +kernel

theorem wit_ControlTransfers : Starts dataS [(0, 0, ins 2 1), (0, 0, ins 3 1), (0, 0, ins 5 1), (1, 0, ins 1 1), (0, 0, ins 1 1)] ∧
    worked 0 0 0 (ins 3 1) dataS (fun _ t => pushRet 0 (eng t 0).pc) = true ∧
    worked 0 0 0 (ins 5 1) dataS (fun _ t => pushRet 0 (eng t 0).pc) = true ∧
    worked 0 1 0 (ins 1 1) dataS (fun _ t => pushRet 0 (eng t 0).pc) = true ∧ worked 0 0 0 (ins 1 1) dataS (fun _ _ => popRet 0) = true :=
  ⟨starts_of (by decide +kernel), by decide +kernel, by decide +kernel, by decide +kernel, by decide +kernel⟩

/-- RSP one word above the limit and at it. -/
theorem wit_ReturnStack :
    let full := on { worker [] with ers := [(0x14, 0x80023800), (0x15, 0x80023800)] }
    let last := on { worker [] with ers := [(0x14, 0x80023804), (0x15, 0x80023800)] }
    (rspOf (eng full 0) - 4).toNat < (rslOf (eng full 0)).toNat ∧
    ((rslOf (eng last 0)).toNat ≤ (rspOf (eng last 0) - 4).toNat ∧
      fine (do checkAccess 0 (rspOf (eng last 0) - 4).toNat 4 needW [2, 3]; writeRaw 0 (rspOf (eng last 0) - 4).toNat 4 7) last = true ∧
      fine (do checkAccess 0 (rspOf (eng last 0)).toNat 4 needR [1, 3]; readRaw 0 (rspOf (eng last 0)).toNat 4) last = true) := by
  decide +kernel

/-- Room and entries of the logic stack at both ends of the range. -/
def lskAt (d : Word) : State := on { worker [0x400005, 1, 7] with lskd := d }
theorem wit_BitInstructions :
    taken 0 0 0 (ins 5 1) (lskAt 0) = true ∧ taken 0 0 0 (ins 5 1) (lskAt 31) = true ∧ taken 0 0 0 (ins 5 1) (lskAt 32) = true ∧
    taken 0 0 0 (ins 5 1) (lskAt 1) = true ∧
    [0x000005#32, 0x400005, 0x8007FF, 0xF00001].all (fun a => worked 0 0 0 (ins 5 1) (lskAt 1) fun _ _ => bRead 0 a) = true ∧
    [0x400005#32, 0x8007FF].all (fun a => worked 0 0 0 (ins 5 1) (lskAt 1) fun _ _ => bWrite 0 a true) = true ∧
    [0x400005#32, 0x8007FF].all (fun a => worked 0 0 0 (ins 5 1) (lskAt 1) fun _ _ => bitNeed 0 (bitAddr a) needB) = true ∧
    [0x400005#32, 0x8007FF].all (fun a => worked 0 0 0 (ins 5 1) (lskAt 1) fun _ _ => bModify 0 a fun b => !b) = true ∧
    worked 0 1 0 (ins 1 1) (lskAt 1) (fun w _ => bRead 0 (nth w 0)) = true ∧
    worked 0 1 0 (ins 1 1) (lskAt 1) (fun w _ => bWrite 0 (nth w 0) true) = true ∧
    worked 0 1 1 (ins 1 1) (lskAt 1) (fun w _ => bRead 0 (nth w 0)) = true ∧
    worked 0 2 0 (ins 1 1) (lskAt 1) (fun w _ => bWrite 0 (nth w 0) (bit (nth w 1) 0)) = true ∧
    worked 0 1 1 (ins 1 1) (lskAt 1) (fun w _ => do bitSpanRead 0 (← bitSpan 0 (nth w 0) needR)) = true ∧
    worked 0 2 0 (ins 1 1) (lskAt 1) (fun w _ => do bitSpanWrite 0 (← bitSpan 0 (nth w 0) needB) (nth w 1)) = true := by decide +kernel
theorem wit_Edges :
    [0x400005#32, 0x8007FF].all (fun a => worked 0 0 0 (ins 5 1) (lskAt 1) fun _ t => bModify 0 a fun _ => lskBit (eng t 0) 0) = true ∧
    worked 0 1 0 (ins 1 1) (lskAt 32) (fun w t => bModify 0 (nth w 0) fun _ => lskBit (eng t 0) 0) = true := by decide +kernel
/-- Depths 0, 1, 2, 31, 32 of the logic stack. -/
theorem wit_LogicStack : ([0, 1, 2, 31, 32].all fun d : Word => decide (taken 0 0 0 (ins 1 1) (lskAt d) = true ∧ taken 0 0 1 (ins 1 1) (lskAt d) = true ∧
    taken 0 1 0 (ins 1 1) (lskAt d) = true ∧ taken 0 0 0 (ins 2 1) (lskAt d) = true ∧
    (eng (started 0 0 0 (ins 1 1) (lskAt d)) 0).lskd = d)) = true := by decide +kernel

def blockS (d : Word) : State :=
  putWord (putWord (on { worker [0x80020010, 1] with lskd := d }) 0x80020010 0x100) 0x8002001C 0b111
theorem wit_TimerInstructions : ([1, 32].all fun d : Word => [0xA8, 0xA9, 0xAA].all fun n => decide (
    taken 0 1 0 (micro 10 n) (blockS d) = true ∧
    (eng (started 0 1 0 (micro 10 n) (blockS d)) 0).lskd = d ∧
    fine (do let _ ← readBlock 0 0x80020010; blkWrite 0 0x80020010 5 6 7) (started 0 1 0 (micro 10 n) (blockS d)) = true)) = true := by decide +kernel
theorem wit_timer_reset : taken 0 1 0 (micro 4 0xAB) (blockS 0) = true ∧
    fine (do blkCheck 0 0x80020010 false; blkWrite 0 0x80020010 0 0 0) (started 0 1 0 (micro 4 0xAB) (blockS 0)) = true := by
  decide +kernel
/-- Each clause of the timers: input and RUN at both values, the preset reached or not. -/
theorem wit_TimerLaws : ([0x105, 0x1FF].all fun now : Word => [false, true].all fun inp => [false, true].all fun run =>
    let b : TimerBlk := { pt := 0x100, et := 0, ts := 0xFF, q := true, inp := inp, run := run }
    decide (b.inp = inp ∧ b.run = run ∧ decide (b.pt.toNat ≤ (now - b.ts).toNat) = decide (now = 0x1FF#32))) = true := by decide +kernel
theorem wit_CounterInstructions : ([(2, 8, 0xAC), (32, 8, 0xAC), (2, 8, 0xAD), (4, 10, 0xAE), (32, 10, 0xAE)].all fun x : Word × Nat × Nat => decide (
    taken 0 1 0 (micro x.2.1 x.2.2) (blockS x.1) = true ∧ (eng (started 0 1 0 (micro x.2.1 x.2.2) (blockS x.1)) 0).lskd = x.1 ∧
    fine (do let _ ← readBlock 0 0x80020010; blkWrite 0 0x80020010 5 0 7) (started 0 1 0 (micro x.2.1 x.2.2) (blockS x.1)) = true)) = true := by
  decide +kernel

def block (n : Nat) : Insn := micro 2 n
/-- Bit pointers for BMOV and BSTO, whose RCNT is 1. -/
def bitBlockS : State := on { worker [1] with srcp := 0x400000, dstp := 0x800000, rcnt := 1 }
theorem wit_BlockElements :
    (∀ x ∈ [(0xC0, 1), (0xC1, 4), (0xC2, 4), (0xC5, 1), (0xC6, 4)],
      worked 0 0 0 (block x.1) dataS (fun _ t => do extra 0 1; let v ← load 0 (eng t 0).srcp x.2; store 0 (eng t 0).dstp x.2 v) = true ∧
      worked 0 0 0 (block x.1) dataS (fun _ t => do extra 0 1; let _ ← load 0 (eng t 0).srcp x.2; load 0 (eng t 0).dstp x.2) = true) ∧
    (∀ x ∈ [(0xC3, 1), (0xC4, 4), (0xC7, 1), (0xC8, 4)],
      worked 0 1 0 (block x.1) dataS (fun w t => do extra 0 1; store 0 (eng t 0).dstp x.2 (nth w 0)) = true ∧
      worked 0 1 0 (block x.1) dataS (fun _ t => do extra 0 1; load 0 (eng t 0).dstp x.2) = true) ∧
    worked 0 0 0 (block 0xC9) bitBlockS (fun _ t => do extra 0 2; let b ← bRead 0 (eng t 0).srcp; bWrite 0 (eng t 0).dstp b) = true ∧
    worked 0 1 0 (block 0xCA) bitBlockS (fun w t => do extra 0 1; bWrite 0 (eng t 0).dstp (bit (nth w 0) 0)) = true := by decide +kernel

/-- A word of a tarn, and an aligned word of outer memory. -/
theorem wit_ExchangeAndLock :
    let rmw (n : Nat) (strict : Bool) (w : List Word) : EM Unit := do
      (if strict then checkStrict 0 (nth w 0).toNat (needR + needW) [1, 2, 3] else checkAccess 0 (nth w 0).toNat 4 (needR + needW) [1, 2, 3])
      let y ← readRaw 0 (nth w 0).toNat 4
      writeRaw 0 (nth w 0).toNat 4 (if n = 0xCB then nth w 1 else nth w 1 + y)
    let locked (n : Nat) : Insn := { len := 2, cyc := 2, entry := some n }
    (∀ n ∈ [0xCB, 0xCC], worked 0 2 1 (block n) dataS (fun w _ => rmw n false w) = true ∧
      worked 0 2 1 (locked n) dataS (fun w _ => rmw n true w) = true ∧
      worked 0 2 1 (locked n) (on (worker [0x00040000, 5])) (fun w _ => checkStrict 0 (nth w 0).toNat (needR + needW) [1, 2, 3]) = true) ∧
    placeOf 0x80020010 ≠ .outer ∧ placeOf 0x00040000 = .outer ∧
    ([0x00, 0x0A, 0xCA, 0xCD, 0xFF].all fun op => taken 0 0 0 (ins (1 + insnLen op) 2) dataS) = true := by decide +kernel

/-- Two elements of MOVW under REP, and of SCAW under REPNZ with RCNT 0; a pairing that is not accepted. -/
theorem wit_Repetition :
    let s1 := after (repEntry 0 0xC1 true) dataS
    let u := after (blockElem 0 0xC1 0) s1
    let w := onEng u 0 fun x => { x with rcnt := x.rcnt - 1 }
    let none' := on { worker [5] with rcnt := 0 }
    canIssue dataS 0 = true ∧ (eng dataS 0).dueTrap = none ∧ repAccepts 0xC1 = true ∧ fine (repEntry 0 0xC1 true) dataS = true ∧
    (eng s1 0).rcnt = 2 ∧ fine (blockElem 0 0xC1 0) s1 = true ∧ fine (blockElem 0 0xC1 0) w = true ∧ (eng u 0).rcnt = 2 ∧
    repzAccepts 0xC8 = true ∧ fine (repEntry 0 0xC8 true) none' = true ∧ (eng (after (repEntry 0 0xC8 true) none') 0).rcnt = 0 ∧
    repAccepts 0x00 = false ∧ repzAccepts 0xC1 = false ∧
    fine (do applyHits 0 (cmpHits dataS 0 [0] (eng dataS 0).pc.toNat); fetchInsn 0 (eng dataS 0).pc 2) dataS = true := by decide +kernel

/-- User and Supervisor level; a number of each kind: listed, the other world's, not listed, not writable, 3 to 5. -/
def supS : State := on { worker [0x80021000, 5] with stat := 0x200 }
theorem wit_ControlRegisters : ([dataS, supS].all fun s => decide (taken 0 0 1 (ins 2 2) s = true ∧ taken 0 1 0 (ins 2 2) s = true ∧
    taken 0 0 0 (ins 2 2) s = true ∧ crListed 0x1C = false ∧ crListed 0x0F = false ∧ crListed 0x1B = true ∧
    crReadable (eng supS 0) 0x1B = true ∧ crReadable (eng s 0) 0x10 = false ∧ crReadable (eng dataS 0) 0x1B = false ∧
    crWritable (eng s 0) 2 = true ∧ crWritable (eng s 0) 6 = true ∧ crWritable (eng supS 0) 3 = true ∧ crWritable (eng supS 0) 5 = true ∧
    crWritable (eng dataS 0) 3 = false ∧ crWritable (eng s 0) 0x0E = false ∧
    fine (do checkFullSpill 0; fullSpill 0) (started 0 1 0 (ins 2 2) supS) = true)) = true := by decide +kernel

theorem wit_SystemInstructions :
    taken 0 0 0 (ins 2 6) dataS = true ∧ taken 0 0 0 (ins 1 1) dataS = true ∧ taken 0 1 0 (ins 1 1) dataS = true ∧
    (wakeFor dataS 0 = false ∧ icuLine dataS 0 = none ∧ dataS.nchm = []) ∧
    pfhActs dataS 0 0x80020010 false = false := by decide +kernel

/-- Frames of RETX: one that keeps the level, one that would raise it. -/
def frameS (stat : Word) : State := putWord (putWord (on (worker [])) 0x80024000 0x500) 0x80024004 stat
theorem wit_ReturnFromException : ([0x10F, 0x200].all fun st : Word => decide (
    taken 0 0 0 { len := 1, cyc := 6, keepRpa := true } (frameS st) = true ∧
    fine (do
      checkAccess 0 0x80024000 4 needR [1, 3]
      checkAccess 0 0x80024004 4 needR [1, 3]
      let _ ← readRaw 0 0x80024000 4
      readRaw 0 0x80024004 4) (started 0 0 0 { len := 1, cyc := 6, keepRpa := true } (frameS st)) = true ∧
    rspOf (eng (frameS st) 0) = 0x80024000 ∧ wordAt (frameS st) 0x80024004 = st ∧
    bit (0x10F : Word) stS = false ∧ bit (0x200 : Word) stS = true ∧ bit st stW = bit (eng (frameS st) 0).stat stW)) = true := by decide +kernel

/-- Gate 5 leads Application 0 from the Non-Vital to the Vital world; gate 6 is not valid. -/
def gateS : State :=
  let s := regs (on { worker [5, 7] with xr := [⟨false, false, 0, 0xFFF⟩, ⟨true, false, 0, 0xFFF⟩], ers := [(0x10, 0x80022000)] })
    [(Reg.grvGpc + 40, 0x4440), (Reg.grvGdsp + 40, 0x80027000), (Reg.grvGdsl + 40, 0x80026000), (Reg.grvGapp + 40, 1),
     (Reg.grvGctl + 40, 0x35)]
  opened s 0 [1]
def gateI : Insn := { len := 3, cyc := 12, entry := some 0xEA }
/-- Inside gate 5. -/
def inGateS : State := putGrv (after (gateCall 0 5) (started 0 0 0 gateI gateS)) 0 (grv field 0)
theorem wit_Gates : taken 0 0 0 gateI gateS = true ∧ fine (gateCall 0 5) (started 0 0 0 gateI gateS) = true ∧
    gateRefused gateS 0 6 = true ∧ gateRefused gateS 0 0xFFFE = true ∧ (eng gateS 0).gate = none ∧
    taken 0 0 0 gateI inGateS = true ∧ fine (gateReturn 0) (started 0 0 0 gateI inGateS) = true := by decide +kernel

theorem wit_ReservedOpcodes : illegalCode 0xFF 0 = true ∧ illegalCode 0xF0 0xFF = true ∧
    taken 0 0 0 (ins 1 1) dataS = true ∧ taken 0 0 0 (ins 2 1) dataS = true := by decide +kernel

/-- The Supervisor stack of the Non-Vital world has room for exactly one frame. -/
theorem wit_ExceptionEntry :
    let s := on { worker [] with ers := [(0x16, 0x80024808), (0x17, 0x80024800), (0x19, 0x2000)] }
    let t := onEng (charge s 0 8 0) 0 fun y => ersPut y 0x16 0x80024800
    (eng s 0).inEntry = false ∧ (ersGet (eng s 0) 0x17).toNat ≤ (ersGet (eng s 0) 0x16 - 8).toNat ∧
    checkSup s 0 needW [0x80024800, 0x80024804] = none ∧ rspReg (xVital (eng s 0)) true = 0x16 ∧
    fine (do writeRaw 0 0x80024804 4 5; writeRaw 0 0x80024800 4 6) t = true := by decide +kernel

/-- Source 9 is pending, enabled, of level 3 and served by Grove 0. -/
def irqS : State := regs (on { worker [] with stat := 0x100 }) [(Reg.icuSrc + 9, 0x3), (Reg.icuEn, 0x200), (Reg.icuPend, 0x200)]
theorem wit_InterruptEntry : canIssue irqS 0 = true ∧ (eng irqS 0).dueTrap = none ∧ bit (eng irqS 0).stat stIE = true ∧
    insidePair irqS 0 = false ∧ (icuLine irqS 0).isSome = true := by decide +kernel

/-- Depths around the number of operands, and a full cache with DSL just above the spill. -/
theorem wit_OperandsFromCache :
    let full (dsl : Word) := on { worker (List.replicate 32 1) with dsl := dsl }
    (2 ≤ (eng (on (worker [1, 2])) 0).ddepth.toNat ∧ 2 ≤ (eng (on (worker [1, 2])) 0).cells.length) ∧
    ((eng (on (worker [1])) 0).ddepth.toNat < 2) ∧
    (0 ≤ (eng (full 0x80020FE4) 0).ddepth.toNat ∧ 32 < (eng (full 0x80020FE4) 0).cells.length - 0 + 1 ∧
      ((eng (full 0x80020FE4) 0).dsp - 32).toNat < (eng (full 0x80020FE4) 0).dsl.toNat) := by decide +kernel

/-- The Wellspring at the first and the last word of its ROM. -/
theorem wit_InstructionStart : ([0xA0000000, 0xA001FFFB].all fun pc : Word =>
    let s := putEng { State.reset with dev := .config } 32 { State.engReset with pc := pc, run := .running }
    decide (canIssue s 32 = true ∧ (eng s 32).dueTrap = none ∧ 0xA0000000 ≤ (eng s 32).pc.toNat ∧ (eng s 32).pc.toNat + 5 ≤ 0xA0020000 ∧
    ucError s 32 (ucAddr s (4 * 0xEA)) = none ∧ taken 32 0 0 { len := 5, cyc := 1, entry := some 0xEA } s = true)) = true := by decide +kernel

theorem wit_Retirement : (eng dataS 0).dueTrap = none ∧ (grv dataS 0).stepping = false := by decide +kernel

/-! ### Witnesses: registers, the journal, the scheduler -/

/-- The Wellspring's device in Config, with the journal open; `jrnS h` has `h` entries in use. -/
def cfgS : State := { State.reset with dev := .config, tb := { State.tbReset with now := 50000 } }
def jrnS (h : Word) : State := regs (sb cfgS Reg.jrnStat 4 true) [(Reg.jrnHead, 5 + h), (Reg.jrnTail, 5)]
def wspQ : Req := reqOf cfgS 32

/-- Masters that cannot act (33, the checker of a Lockstep Grove), that are denied, that are granted. -/
theorem wit_ReadAndClear : masterActs cfgS 33 = false ∧ masterActs cfgS 1 = false ∧ masterActs cfgS 0 = true ∧
    (ioDenied cfgS (reqOf cfgS 0) Reg.wdiCnt needR).isSome = true ∧ masterActs cfgS 32 = true ∧
    ([Reg.icuBaddb, Reg.icuEmpty + 32, Reg.schedOvrcnt + 31, Reg.attDrop + 15, Reg.shrErra, Reg.shrErrb, Reg.fltLost, Reg.jrnRejcnt,
      Reg.actVcnt, Reg.tarnCecnt, Reg.tarnUecnt, Reg.cmxSkip, Reg.cmxPerr, Reg.idUerr, Reg.wdiCnt, Reg.pwrVcnt, Reg.tbNowl,
      Reg.schedCycl, Reg.dbgvRx].all fun a => (ioDenied cfgS wspQ a needR).isNone) = true := by decide +kernel
theorem wit_PlainCommandWrites : (ioDenied cfgS (reqOf cfgS 0) Reg.icuDbell needW).isSome = true ∧
    ([Reg.icuDbell, Reg.schedDone, Reg.fltAck, Reg.jrnAck, Reg.wdiChk + 15, Reg.idUpctl, Reg.idUpdata, Reg.dbgvTx].all fun a =>
      (ioDenied (finishWrite cfgS) wspQ a needW).isNone) = true ∧ bit (1 : Word) 0 = true ∧ bit (2 : Word) 1 = true := by decide +kernel
theorem wit_UnitCommandWrites : (ioDenied cfgS (reqOf cfgS 0) (gReg Reg.cvuGcmd 15) needW).isSome = true ∧
    ([gReg Reg.cvuGcmd 15, gReg Reg.cvuGfeedb 15, gReg Reg.cvuGfeedh 15, gReg Reg.cvuGfeedw 15, vReg Reg.cvuVcmd 15, Reg.cmxCmd].all fun a =>
      (ioDenied (finishWrite cfgS) wspQ a needW).isNone) = true ∧
    (let s := putCvu cfgS 3 { State.cvuReset with going := true, queue := [.init] }
     (cvuU s 3).going = true ∧ (cvuU cfgS 3).going = false ∧ (cvuU s 3).queue.length + 3 ≤ 4 ∧ ¬ (cvuU s 3).queue.length + 4 ≤ 4) ∧
    fld (6 : Word) 2 0 = 6 ∧ rb (sb cfgS Reg.cmxStat 0 true) Reg.cmxStat 0 = true := by decide +kernel

/-- A refused write, one before step 6 of boot, one that finds the journal full, and one that is accepted. -/
theorem wit_JournaledCommandWrites : (ioDenied cfgS (reqOf cfgS 0) Reg.tbSetl needW).isSome = true ∧
    ([Reg.tbSetl, Reg.tbSeth, segReg .inl + 31, Reg.imgRtbl, Reg.shrItcnt, Reg.grvErdat, Reg.grvFence, Reg.grvUnfence, Reg.tarnOwn + 59,
      Reg.cmxPond + 15, Reg.wdiSet, Reg.pwrLossmk, Reg.schedCtl, Reg.schedEdctl].all fun a =>
      (ioDenied (finishWrite cfgS) wspQ a needW).isNone) = true ∧
    jrnOpen cfgS = false ∧ jrnOpen (jrnS 0) = true ∧ jrnUsedN (jrnS 4031) < 4032 ∧ jrnUsedN (jrnS 4032) ≥ 4032 ∧
    rb cfgS Reg.schedCtl 0 = false ∧ rb (sb cfgS Reg.schedCtl 0 true) Reg.schedCtl 0 = true ∧ masterActs cfgS 32 = true := by decide +kernel

/-- An empty bank, one with a broken table, an armed edit, and an arming whose header is read and is not. -/
theorem wit_SchedulerControl :
    let on' := sb cfgS Reg.schedCtl 0 true
    let arming := { on' with edit := { State.editReset with arming := true } }
    let ready := regs arming [(Reg.actRlim, 0x8FFFF000)]
    (rb cfgS Reg.schedCtl 0 = false ∧ (validate (wr cfgS Reg.schedCtl 0) false false).2 = true ∧
      (validate (regs cfgS [(Reg.schedGoff, 0x80000000)]) false false).2 = false) ∧
    rb on' Reg.schedCtl 0 = true ∧ (validate (wr on' Reg.schedSwapl 2) true true).2 = true ∧ (validate on' true true).2 = false ∧
    (edHeld cfgS = false ∧ edHeld (sb cfgS Reg.schedEdctl 5 true) = true) ∧
    (blocksRun arming = true ∧ (readOuterN arming (slotBase arming 0 true) 64).2 = none) ∧
    (blocksRun ready = true ∧ (readOuterN (opened ready 32 [0x40]) (slotBase ready 0 true) 64).2.isSome = true) := by decide +kernel

/-- A write in progress, an entry to release and none. -/
theorem wit_JournalEntries :
    let j : JrnWrite :=
      { seq := 9, origin := 32, vital := true, sup := true, kind := 0, exempt := false, addr := Reg.tbSetl, tcode := 0x52, old := 0,
        new := 7, time := 50000, value := 7 }
    blocksRun (jrnS 1) = true ∧ (jrnS 1).jPend = none ∧ ({ jrnS 1 with jPend := some j }).jPend = some j ∧
    j.origin < 48 ∧ j.kind < 8 ∧ j.addr < 0x10000 ∧
    (jrnS 0).jRel ≠ rd (jrnS 0) Reg.jrnTail ∧ ({ jrnS 0 with jRel := 5 }).jRel = rd (jrnS 0) Reg.jrnTail := by decide +kernel

/-- Errors to work off, and edges on both sides of a whole second; both bounds of LOCK. -/
theorem wit_TimebaseAndHoldOff :
    let tb (err : Int) (k : Nat) := { cfgS with tb := { cfgS.tb with err := err, sinceAdj := k } }
    let pps (now : Dbl) := { regs cfgS [(Reg.tbCtl, 2)] with tb := { cfgS.tb with now := now } }
    ((tb 5 998).tb.sinceAdj < 999 ∧ (tb 5 999).tb.err > 0 ∧ (tb (-5) 999).tb.err < 0 ∧ (tb 5 999).tb.sinceAdj ≥ 999) ∧
    (rf (pps 1000000050) Reg.tbCtl 1 0 = 2 ∧ ((pps 1000000050).tb.now.toNat : Int) - 30 + (-20) = 1000000000 * 1 ∧
      ((pps 1000000010).tb.now.toNat : Int) - 30 + 20 = 1000000000 * 1 ∧ ((pps 30).tb.now.toNat : Int) - 30 + 0 = 1000000000 * 0 ∧
      ((pps 500000030).tb.now.toNat : Int) - 30 + (-500000000) = 1000000000 * 0) ∧
    (let s := { pps 1000600051 with tb := { (pps 1000600051).tb with ppsLast := some 100050 } }
     rf s Reg.tbCtl 1 0 = 2 ∧ s.tb.ppsLast = some 100050 ∧ s.tb.now.toNat > 100050 + 1000500000 ∧ s.flt.length < 64) ∧
    (blocksRun cfgS = true ∧ ({ cfgS with holdRun := 0x80000000 }).holdRun.getLsbD 31 = true) := by decide +kernel

/-- A plan: bank 0 is in force with cycles of 1 ms, of which number 5 has begun; Application 0, Vital if `v`, has one stage on Grove 0,
Application 1, Non-Vital, one on Grove 1. -/
def planS (v : Bool) : State :=
  let s := regs { cfgS with tb := { cfgS.tb with now := 5020000 }, cutSince := true, shadow := [(0, [0x544F4C53, 0, 1, 8, 0, 0, 0, 0, 0x400])] }
    [(Reg.schedCtl, 1), (Reg.schedCycl, 5), (Reg.schedApp, if v then 3 else 1), (Reg.schedApp + 1, 1),
     (Reg.schedGoff, 0x800007D0), (Reg.schedGlen, 500), (Reg.schedGcyc, 300), (Reg.schedGbeat, 40), (Reg.schedGgrv, 1),
     (Reg.schedGoff + 8, 0x800007D0), (Reg.schedGlen + 8, 500), (Reg.schedGcyc + 8, 300), (Reg.schedGbeat + 8, 40), (Reg.schedGgrv + 8, 0x10002),
     (Reg.actRlim, 0x8FFFF000)]
  putApp s 0 { State.appReset with started := true, cycleN := 5, active := true }
/-- A Glade of Application 0 on Grove 0 with budgets 100 and 10 and counts `c` and `b`, tripped or not. -/
def runS (c b : Nat) (trip : Option TripCause) : State :=
  putGrv (planS false) 0 { State.grvReset with
    glade := some { entry := 0, app := 0, stage := 0, winEnd := 5025000, cycBud := 100, beatBud := 10 }
    counting := true, cycL := c, beatsL := b, trip := trip }

/-- The first and the last tick of a window, counts at the budgets and past them, a stop for each cause, both modes of a Grove. -/
theorem wit_GladeRuns :
    (([false, true].all fun v =>
      let s := planS v
      let e := gEnt s false 0
      decide (bankNow s = some false ∧ e.valid = true ∧ gladesRun s = true ∧ s.bnd.phase = .idle ∧ s.cutSince = true ∧
        (app s e.app).active = true ∧ (app s e.app).nextStage = e.stage ∧ (app s e.app).doneAt = none ∧
        cycNow s % appPer s false e.app = e.phase ∧ winStart s e ≤ s.tb.now.toNat ∧ appVital s false e.app = v ∧
        auxSuspended s = false ∧ noSpareFor s e.app = false ∧ (groveList e.groves).map (effGrove s) = [0] ∧
        (grv s 0).glade = none ∧ gated s 0 = false)) = true) ∧
    auxSuspended { planS false with auxHeld := true } = true ∧
    (weirCyc (runS 101 11 none) 0 > 100 ∧ weirCyc (runS 100 11 none) 0 ≤ 100 ∧ weirBeats (runS 100 11 none) 0 > 10 ∧
      weirBeats (runS 100 10 none) 0 ≤ 10 ∧ ({ runS 100 10 none with tb := { cfgS.tb with now := 5025000 } }).tb.now.toNat ≥ 5025000) ∧
    ([TripCause.window, .force].all fun c => decide ((grv (runS 100 10 (some c)) 0).trip = some c ∧
      (grv (runS 100 10 (some c)) 0).halted = false ∧ (app (runS 100 10 (some c)) 0).active = true)) = true ∧
    (tripped (runS 100 10 none) 0 = false ∧ isLockstep (runS 100 10 none) 0 = true ∧
      isLockstep (wr (runS 100 10 none) Reg.grvMode 2) 0 = false ∧ (grv (runS 100 10 none) 0).doneC = false ∧
      (grv (runS 100 10 none) 0).doneL = false) := by decide +kernel

/-! ### Witnesses: outlets, boundaries, routes and ports -/

/-- Full access for hardware masters to tarns. -/
def hwOpen (s : State) (ts : List Nat) : State := [34, 36, 37, 47, 48, 63].foldl (fun s m => opened s m ts) s
/-- Application 0 has done its work: outlet in T3 (4 words), retain region in T62. -/
def doneS (v : Bool) : State :=
  let s := hwOpen (regs (planS v) [(Reg.imgOutt, 3 + 5 * 64), (Reg.imgOutl, 0x40000), (Reg.imgRet, 0x40010), (Reg.tarnOwn + 3, 3)]) [1, 3, 5]
  putApp s 0 { app s 0 with doneAt := some 5021000 }
/-- The same with a Diverse Grove; the checker's half is the leader's, inverted, or not. -/
def diverseS (same : Bool) : State :=
  let s := wr (doneS false) Reg.grvMode 1
  [5, 6].zipIdx.foldl (fun s x => putTarnRaw (putTarnRaw s 3 x.2 x.1) 3 (2 + x.2) (if same then ~~~ x.1 else x.1)) s
def checkedS : State := putApp (doneS true) 0 { app (doneS true) 0 with active := false, ended := .committed }
/-- A feeder over 100 bytes of T1, and one whose last chunk is left; a software job over 8 bytes of T1. -/
def feedS (a n : Word) : State :=
  putCvu (regs (hwOpen cfgS [1]) [(Reg.tarnOwn + 1, 3), (gReg Reg.cvuGaddr 2, a), (gReg Reg.cvuGlen 2, n)]) 2
    { State.cvuReset with going := true, wm := 32, wv := true, ws := true }
def softS : State :=
  putVJob (regs (hwOpen cfgS [1]) [(Reg.tarnOwn + 1, 3), (vReg Reg.cvuVaddr 2, 0x80020010), (vReg Reg.cvuVlen 2, 8)]) 2 (some (.soft 32))

theorem wit_OutletsAndJobs :
    ([doneS false, putApp (diverseS true) 0 { app (diverseS true) 0 with compared := true }].all fun s => decide (blocksRun s = true ∧
      s.pwr.lossAt = none ∧ (app s 0).active = true ∧ (app s 0).doneAt.isSome = true ∧ (appDiverse s 0 = true → (app s 0).compared = true) ∧
      rf s Reg.imgRet 31 16 ≠ 0)) = true ∧
    ([true, false].all fun same =>
      let s := diverseS same
      decide (bankNow s = some false ∧ (stageEntry s 0 (appNstg s false 0)).map (·.groves) = some 1 ∧ appDiverse s 0 = true ∧
        (app s 0).compared = false ∧ (app s 0).active = true ∧ (app s 0).doneAt.isSome = true ∧ vJob s 0 = none ∧
        s.tb.now.toNat < winEnd s (gEnt s false 0) ∧
        ((diverseValues s 0 0).2.map fun x => decide (x.1 = x.2)) = some same)) = true ∧
    (let t := putVJob checkedS (appCvch checkedS false 0) (some (.outlet 0))
     bankNow checkedS = some false ∧ appVital checkedS false 0 = true ∧ (app checkedS 0).ended = .committed ∧
     (app checkedS 0).cvOutReady = false ∧ outLen checkedS 0 ≠ 0 ∧ vJob checkedS (appCvch checkedS false 0) = none ∧
     vJob t 0 = some (.outlet 0) ∧ (hwJob (putVJob t 0 none) 0 3 0 5 (heldSide t Reg.imgOutt Reg.imgOside 0) 0 (sentLen t 0)).2.isSome = true) ∧
    (let s := { checkedS with dev := .run, twin := { State.twinReset with joining := true } }
     blocksRun s = true ∧ s.wspStopped = false ∧ s.twin.jOut = none ∧ joinNext s = some 0 ∧ (app s 0).active = false ∧ s.bnd.phase = .idle) ∧
    ([(0x80020010#32, 100#32, 48), (0x80020040, 5, 5)].all fun x =>
      let s := feedS x.1 x.2.1
      decide ((cvuU s 2).going = true ∧ s.dev ≠ .halted ∧ masterHalted s (cvuU s 2).wm = false ∧ (cvuU s 2).queue = [] ∧
        min x.2.1.toNat (64 - x.1.toNat % 64) = x.2.2 ∧ (feedRead s (gReq s 2) x.1.toNat x.2.2).2.isSome = true)) = true ∧
    (vJob softS 2 = some (.soft 32) ∧ masterHalted softS 32 = false ∧
      (vReadAll softS (rd softS (vReg Reg.cvuVaddr 2)).toNat 66 (rf softS (vReg Reg.cvuVlen 2) 12 0)).2.isSome = true) := by decide +kernel

/-- A boundary at the first tick of cycle 5 in each state in which SCHED cuts; each wait at the first tick of its end. -/
def cutS (d : Dev) : State :=
  { planS false with dev := d, tb := { cfgS.tb with now := 5000000 }, bnd := { State.bndReset with next := 5 } }
def waitS (p : BndPhase) (d : Dev) : State :=
  { regs (cutS d) [(Reg.schedCycl, 4), (Reg.grvTwctl, 1)] with
    bnd := { State.bndReset with phase := p, cyc := 5, since := 4990000, next := 6 } }
/-- The primary of a pair at such a wait. -/
def pairS0 (p : BndPhase) : State :=
  { regs (waitS p .run) [(Reg.grvTwctl, 0x47)] with twin := { State.twinReset with live := true } }
theorem wit_Boundaries :
    ([Dev.config, .run, .tracking, .maintenance, .safeHold].all fun d =>
      let s := cutS d
      decide (cycAt s = some 5 ∧ schedOn s = true ∧ (gladesRun s = true ∨ s.dev = .safeHold) ∧ s.bnd.phase = .idle ∧ s.bnd.next.toNat ≤ 5 ∧
        bound s = false ∧ swapPend s = false ∧ edArmed s = false ∧ s.twin.joining = false ∧ bankNow s = some false ∧ appEn s false 0 = true ∧
        5 % appPer s false 0 = 0)) = true ∧
    ([BndPhase.agree, .records, .handoff].all fun p =>
      let s := waitS p .tracking
      decide (s.bnd.phase = p ∧ s.bnd.since.toNat + 10 * rf s Reg.schedAgrto 15 0 ≤ s.tb.now.toNat)) = true ∧
    (isPri (pairS0 .records) = true ∧ (waitS .records .tracking).dev = .tracking) ∧
    (let s := { cutS .tracking with twin := { State.twinReset with missAt := some 4960000 } }
     s.twin.missAt = some 4960000 ∧ s.twin.lostAt = none ∧ s.safeReq = none ∧ 4960000 + 40000 ≤ s.tb.now.toNat) ∧
    ({ cutS .run with safeReq := some 15 }).safeReq = some 15 := by decide +kernel

/-- A table of one inlet route of attach buffer 0 of port 2 to the inlet of Application 0, and of one outlet route to port 2. -/
def rIn : Route := ⟨2, 2, 0, 8⟩
def rOut : Route := ⟨3, 2, 4, 8⟩
def attachS : State :=
  let s := hwOpen (opened (doneS false) 50 [1, 6, 61]) [1, 2, 3, 5, 6, 61]
  let s := regs s [(Reg.imgInt, 2 + 4 * 64), (Reg.imgInl, 0x40000), (Reg.attPcfg + 2, 1), (Reg.attBuf + 2, 0x200006), (Reg.attFlt + 2, 0x400001),
    (Reg.tarnOwn + 1, 3), (Reg.tarnOwn + 2, 3), (Reg.tarnOwn + 4, 3), (Reg.tarnOwn + 5, 3), (Reg.tarnOwn + 6, 3), (Reg.tarnOwn + 61, 3)]
  let s := opened s 34 [4]
  let s := { s with routes := [rIn, rOut], outQ := [(1, rOut, false)] }
  putApp s 0 { app s 0 with filling := true, unswept := [0] }
/-- A frame of identifier 0x123 with 4 bytes, and a filter of port 2 that accepts it into buffer `b`, or rejects it. -/
def frameWs : List Word := [0x123, 4, 0xAABBCCDD, 0]
def filterS (w2 : Word) : State :=
  let s := putTarnRaw (putTarnRaw (putTarnRaw attachS 1 0 0x80000123) 1 1 0) 1 2 w2
  putAttp s 2 { attp s 2 with fifo := [depositRecord frameWs] }

theorem wit_RoutesAndPorts :
    (let t (v : Word) := { [rIn.w0, rIn.w1, rIn.w2, rIn.w3].zipIdx.foldl (fun s x => putTarnRaw s 61 x.2 x.1) attachS with valRoutes := some v }
     fld (0x2000000 : Word) 25 15 = 1024 ∧ fld (0x2008000 : Word) 25 15 > 1024 ∧
     (readWords { t 0x8000 with valRoutes := none } 61 0 34 4).2 = some [rIn.w0, rIn.w1, rIn.w2, rIn.w3] ∧
     routesError (t 0x8000) (toRoutes [rIn.w0, rIn.w1, rIn.w2, rIn.w3]) = none ∧
     (routesError (t 0x8000) (toRoutes [rIn.w0, rIn.w1, rIn.w2, 0])).isSome = true) ∧
    (attachS.routes[0]? = some rIn ∧ rIn.out = false ∧ blocksRun attachS = true ∧ inletAsleep attachS rIn = none ∧
      (app attachS rIn.app).filling = true ∧ (app attachS rIn.app).unswept.head? = some 0) ∧
    (inletSource attachS rIn = some (6, 0) ∧ routeCheck attachS 6 0 needR = none ∧
      routeCheck attachS (inletDest attachS rIn).1 (inletDest attachS rIn).2 needW = none ∧
      (readWords attachS 6 0 34 (rIn.len / 4)).2.isSome = true) ∧
    ((List.range 3).all fun k => decide (bufIndex attachS 5 (7 + k) = none)) = true ∧
    (attachS.outQ.head? = some (1, rOut, false) ∧ tarnUp attachS (outletSource attachS rOut false).1 = true ∧
      routeCheck attachS (outletSource attachS rOut false).1 (outletSource attachS rOut false).2 needR = none ∧
      (readWords attachS (outletSource attachS rOut false).1 (outletSource attachS rOut false).2 34 (rOut.len / 4)).2.isSome = true ∧
      rOut.kind = 1 ∧ attListen { attachS with dev := .run } rOut.port = false ∧ (attp attachS rOut.port).tx.length < 16) := by decide +kernel

theorem wit_attach_ports :
    let full := putAttp attachS 2 { attp attachS 2 with fifo := List.replicate 8 (depositRecord frameWs) }
    (depositFails attachS 2 0 frameWs = none ∧ depositFails attachS 3 0 frameWs = some none ∧ depositFails full 2 0 frameWs = some (some 0) ∧
      depositFails attachS 2 0x10 frameWs = some (some 2) ∧ 0xFF0 + 16 * beatsOf frameWs ≤ 0x1000 ∧
      beatsOf frameWs = (8 + recLen (nth frameWs 0) (nth frameWs 1) + 15) / 16) ∧
    ([(0x100#32, Filtered.accept 0), (0x101, .accept 1), (0x103, .accept 3), (0, .reject)].all fun x =>
      let s := filterS x.1
      let u := { putAttp s 2 { attp s 2 with fifo := [] } with attLast := 2 }
      decide (attNext s = some 2 ∧ (attp s 2).fifo = [depositRecord frameWs] ∧ tarnUp s (rf s (Reg.attFlt + 2) 5 0) = true ∧
        tarnUp s (bufTarn s 2) = true ∧
        (filterWalk u 2 (rf s (Reg.attFlt + 2) 5 0) (rf s (Reg.attFlt + 2) 20 6) (nth (depositRecord frameWs) 0)
          (rf s (Reg.attFlt + 2) 30 21)).2 = x.2)) = true ∧
    (filterWalk attachS 2 1 0 0 0).2 = .noMatch ∧ rf attachS (Reg.attBuf + 2) 26 21 = 1 ∧
    ((depositRecord frameWs).length = 18 ∧
      checkMem attachS (reqOf attachS 50) (tarnAddr (bufTarn attachS 2) (bufWord attachS 2 1)) needW spData = none) ∧
    (rb attachS (Reg.attPcfg + 2) 0 = true ∧ bufIndex attachS 6 (bufWord attachS 2 1) = some 0 ∧
      checkMem attachS (reqOf attachS 34) (tarnAddr 6 (bufWord attachS 2 1)) needW spData = none ∧ tarnUp attachS 6 = true) ∧
    ((attp attachS 2).tx = [] ∧ (attp (putAttp attachS 2 { attp attachS 2 with tx := [[1, 2]] }) 2).tx = [[1, 2]]) := by decide +kernel

/-! ### Witnesses: the Shore ring and the twin -/

/-- Node 5 on the ring with nodes 0, 5 and 7 in its roster, both ports UP, admitted or not, bound to node 7 as its twin. -/
def ringS (d : Dev) (ad : Bool) : State :=
  regs { cfgS with dev := d }
    [(Reg.shrNode, 0x45), (Reg.shrStat, if ad then 0x4000000 else 0), (Reg.shrPstata, 0x33), (Reg.shrPstatb, 0x03),
     (Reg.shrRoster0, 0xA1), (Reg.grvTwctl, 0x47)]
/-- A frame of node 7. -/
def sent (typ sub dst : Nat) (pay : List Word) : Frame :=
  ⟨mkFrame (wr (ringS .run true) Reg.shrNode 0x47) typ sub dst false false 9 (lo32 cfgS.tb.now) pay⟩
/-- The hypotheses of a frame that is taken. -/
def arrives (ad : Bool) (is : List Word → Bool) (s : State) (p : Port) (f : Frame) : Bool :=
  let ws := putNth f.words 0 (putFld (nth f.words 0) 30 24 (fHops f.words + 127))
  decide (ringRuns s = true ∧ hasLock s p = true ∧ 6 ≤ f.words.length ∧ hcrcOf f.words = nth f.words 5 ∧ is f.words = true ∧
    ringAdmitted s = ad ∧ (ad = true → inRoster s (fSrc f.words) = true ∨ fTyp f.words = 6 ∨ fTyp f.words = 7 ∨ fTyp f.words = 8) ∧
    lengthBad ws = false ∧ pcrcBad ws = false ∧ itemTooLong s ws = false ∧ fWraps ws ≠ 1 ∧ fSrc ws ≠ nodeOf s ∧ forMe s ws = true ∧
    (seenNow s).any (sameCopy ws) = false)

/-- Frames that wait in each class, one of them an item that passes the meter of a cycle of 0 us. -/
def txS (cs : List Nat) : State :=
  putShrPort (ringS .run true) .a { State.portReset with
    tx := cs.map fun c => { arr := 0, cls := c, transit := false, bad := false, words := (sent (if c = 2 then 0x10 else 2) 0 5 [1]).words } }

theorem wit_RingSending :
    (ringRuns (ringS .run true) = true ∧ maySend (ringS .run true) 2 = true ∧ maySend (ringS .config false) 7 = true ∧
      maySend (ringS .config false) 2 = false ∧ portUp (ringS .run true) .a = true ∧ portUp (ringS .run true) .b = true) ∧
    (let s := { ringS .run true with shr := { State.shrReset with acting := true }, tb := { cfgS.tb with now := 100010 } }
     s.shr.acting = true ∧ s.tb.now.toNat % 100000 < 11 ∧ ringAdmitted (ringS .config false) = false) ∧
    (let s := putShrPort (ringS .run true) .a { State.portReset with hbLast := some 20000 }
     (shrPort s .a).hbLast = some 20000 ∧ portUp s .a = true ∧ 20000 + 30000 ≤ s.tb.now.toNat ∧ s.flt.length < 64) ∧
    (let s := { regs (ringS .run true) [(Reg.tbCtl, 1)] with shr := { State.shrReset with syncLast := some 50000 }, tb := { cfgS.tb with now := 1050000 } }
     s.shr.syncLast = some 50000 ∧ rf s Reg.tbCtl 1 0 = 1 ∧ 50000 + 1000000 ≤ s.tb.now.toNat) ∧
    (let s := { ringS .run true with
       shr := { State.shrReset with acting := true, outside := [(7, some 0)] }, tb := { cfgS.tb with now := 10000000 } }
     Sparse.get none s.shr.outside 7 = some 0 ∧ s.shr.acting = true ∧ rosterBit s 7 = true ∧ 7 ≠ nodeOf s ∧ 0 + 10000000 ≤ s.tb.now.toNat) ∧
    ((nextOf (shrPort (txS [2, 0]) .a) 0).isSome = true ∧ nextOf (shrPort (txS [2, 1]) .a) 0 = none ∧
      (nextOf (shrPort (txS [2, 1]) .a) 1).isSome = true ∧ nextOf (shrPort (txS [2, 3]) .a) 1 = none ∧
      ((nextOf (shrPort (txS [2, 3]) .a) 2).map fun x => decide (frameBlocks x.1.words ≤ 130 * rf (txS [2, 3]) Reg.schedMcyc 19 0)) = some true ∧
      ((nextOf (shrPort (txS [2, 3]) .a) 2).map fun x => decide (frameBlocks x.1.words > 130 * rf (wr (txS [2, 3]) Reg.schedMcyc 0) Reg.schedMcyc 19 0)) = some true ∧
      (nextOf (shrPort (txS [2, 3]) .a) 3).isSome = true) := by decide +kernel

/-- A received item of two words from producer 7, in use at this node, whose slot is at word 0x100 of T1. -/
def itemS : State :=
  { regs (hwOpen (ringS .run true) [1]) [(Reg.shrItact, 0x2001), (Reg.tarnOwn + 1, 3)] with
    shr := { State.shrReset with items := [(0x000BF1C5, 0x00100000)] } }
theorem wit_RingReceiving :
    (let s := ringS .run true
     ringRuns s = true ∧ hasLock s .a = true ∧ hasLock s .b = true ∧ [1, 2, 3, 4, 5].length < 6 ∧
     knownType (fTyp (sent 0x40 0 5 []).words) = false ∧ hcrcOf (sent 0x40 0 5 []).words = nth (sent 0x40 0 5 []).words 5 ∧
     fTyp (sent 1 0 0x3F [0, 0, 3]).words = 1 ∧ lengthBad (sent 1 0 0x3F [0, 0, 3]).words = false ∧
     pcrcBad (sent 1 0 0x3F [0, 0, 3]).words = false) ∧
    ([(2, [0x47#32]), (3, [0x47]), (4, [0, 0]), (5, [0, 0]), (6, [5, 0, 0, 0xA1, 0, 0]), (7, [0]), (8, [0])].all fun x =>
      arrives true (typIs x.1) (ringS .run true) .a (sent x.1 0 0x3F x.2)) = true ∧
    ([(6, [5#32, 0, 0, 0xA1, 0, 0]), (8, [0])].all fun x => arrives false (typIs x.1) (ringS .config false) .b (sent x.1 0 0x3F x.2)) = true ∧
    arrives true (typIs 0x10) itemS .a (sent 0x10 0 0x3F [6, 7]) = true := by decide +kernel
theorem wit_ring_reports :
    let s := ringS .run true
    let topo (t : Dbl) : Report := .topo t 0 (noLinks 7)
    let dg := ringDigest s
    let acting := { s with shr := { State.shrReset with acting := true } }
    (s.tb.now.toNat ≤ (topo 50000).time.toNat ∧ ({ s with shr := { State.shrReset with reports := [topo 50000] } }).shr.reports = [topo 50000] ∧
      s.tb.now.toNat < (topo 50001).time.toNat) ∧
    (dbl (fCyc (sent 6 0 0x3F [0, dg]).words) (nth (fPay (sent 6 0 0x3F [0, dg]).words) 0) = dbl (rd s Reg.schedCycl) (rd s Reg.schedCych) ∧
      nth (fPay (sent 6 0 0x3F [0, dg]).words) 1 = dg ∧ nth (fPay (sent 6 0 0x3F [0, 0]).words) 1 ≠ dg ∧
      ({ s with shr := { State.shrReset with bcnBad := 1 } }).shr.bcnBad ≥ 1 ∧ s.safeReq = none) ∧
    (acting.shr.acting = true ∧ (rosterList acting).length < 63 ∧ rosterBit (wr acting Reg.shrRoster0 0x21) 7 = false ∧
      nth (fPay (sent 7 0 0x3F [dg]).words) 0 = ringDigest acting) ∧
    rf (wr s Reg.tbCtl 1) Reg.tbCtl 1 0 = 1 ∧
    (let ws := (sent 0x10 0 0x3F [6, 7]).words
     itemS.shr.items[fSub ws]? = some (0x000BF1C5, 0x00100000) ∧ fLenw ws = itLen (0x000BF1C5, 0x00100000) ∧ (fPay ws).length = fLenw ws ∧
     itemRx (0x000BF1C5, 0x00100000) = true ∧ (readWords itemS 1 0x100 36 3).2 = some [0, 0, 0] ∧ fSrc ws = itProd (0x000BF1C5, 0x00100000) ∧
     fSrc ws ≠ fld (0 : Word) 5 0 ∧ checkMem itemS (hwReq 36) (tarnAddr 1 0x100) needW spData = none ∧ bufIndex itemS 1 0x100 = none ∧
     itPartner (0x000BF1C5, 0x00100000) = 0x3F) := by decide +kernel

/-- Members of a pair: this node the primary in Run or the standby in Tracking, with Application 0 due in cycle 5. -/
def pairS (d : Dev) (p : BndPhase) : State :=
  let s := regs (hwOpen { planS true with dev := d } [1, 2, 4])
    [(Reg.shrNode, 0x45), (Reg.shrStat, 0x4000000), (Reg.shrPstata, 0x33), (Reg.shrPstatb, 0x03), (Reg.shrRoster0, 0xA1), (Reg.grvTwctl, 0x47),
     (Reg.imgInt, 2 + 4 * 64), (Reg.imgInl, 0x40000), (Reg.grvTwstat, 1)]
  let s := opened (regs s [(Reg.tarnOwn + 2, 3), (Reg.tarnOwn + 4, 3)]) 34 [2, 4]
  { s with twin := { State.twinReset with live := true }, bnd := { State.bndReset with phase := p, cyc := 5 } }
theorem wit_TwinFrames :
    ([1, 2, 3, 4, 5, 6, 7, 8].all fun n => arrives true (subIs 0x20 n) (pairS .run .idle) .a (sent 0x20 n 5 [0, 0, 0, 0, 0])) = true ∧
    ([1, 2, 3, 4, 5, 6, 7].all fun n => arrives true (subIs 0x30 n) (pairS .tracking .idle) .b (sent 0x30 n 5 [0, 0, 0, 0])) = true ∧
    (let s := pairS .tracking .snapshots
     let ws := (sent 0x20 1 5 [2, 6, 7]).words
     s.bnd.phase = .snapshots ∧ (snapApps s).contains 0 = true ∧ bit (nth (fPay ws) 0) 31 = false ∧ 2 + 2 ≤ inLen s 0 ∧ ¬ 3 + 2 ≤ inLen s 0 ∧
     routeCheck s (fillSide s 0).1 ((fillSide s 0).2 + 2) needW = none ∧ snapsHere s = false) ∧
    ((pairS .run .agree).bnd.phase = .agree ∧ isPri (pairS .run .agree) = true ∧ isSby (pairS .tracking .idle) = true ∧
      (pairS .tracking .handoff).dev = .tracking ∧ (pairS .tracking .handoff).twin.armed ≠ some (pairS .tracking .handoff).bnd.cyc) ∧
    ((pairS .tracking .idle).twin.lostAt = none ∧ (pairS .tracking .idle).twin.live = true ∧ (pairS .tracking .idle).edit.staged = none ∧
      edArmed (sb cfgS Reg.schedEdctl 5 true) = true) ∧
    (let s := pairS .tracking .idle
     fld (0 : Word) 0 0 = 0 ∧ s.twin.missAt = none ∧ rb s Reg.grvTwstat 0 = true ∧ edArmed s = false ∧ (dbl 6 0).toNat > cycNow s ∧
     (dbl 7 0).toNat > cycNow s + 1) ∧
    (let s := { cfgS with waits := [⟨0, .startStandby, none⟩] }
     fld (2 : Word) 7 0 = jcResult ∧ joinWaits s = true) ∧
    (let s := { pairS .run .idle with twin := { State.twinReset with joining := true, jOut := some 0 } }
     fld (0x5 : Word) 7 0 = jcAck ∧ s.twin.joining = true ∧ s.twin.jOut = some (fld (0x5 : Word) 12 8)) := by decide +kernel

/-! ### Witnesses: faults, tarns, the outer port -/

/-- Grove 1, which the schedule in force names, is fenced; Grove 9 is a Spare, prepared or not. -/
def fencedS (prep : Bool) : State :=
  { opened (regs (sb (planS false) Reg.jrnStat 4 true) [(Reg.grvFence, 0xC), (Reg.grvMode + 9, 8)]) 32 [0x5D] with
    prepared := if prep then 0x200 else 0 }
/-- A state with all six clock monitors on. -/
def clockS : State := (List.range 6).foldl (fun s c => sb s (Reg.fltCknom + c) 12 true) (regs cfgS [(Reg.shrPstata, 0x33), (Reg.shrPstatb, 0x33)])

theorem wit_FaultsAndGroves :
    cfgS.flt.length < 64 ∧ ({ cfgS with flt := List.replicate 64 [] }).flt.length ≥ 64 ∧ cfgS.wspStopped = false ∧ cfgS.evq.length < 32 ∧
    ((grv (runS 0 0 none) 0).glade.map (·.app) = some 0 ∧ isLockstep (runS 0 0 none) 0 = true ∧ (grv (runS 0 0 none) 1).glade = none) ∧
    (bit ({ cfgS with fenceReq := 0xC0000000 }).fenceReq 30 = true ∧ bit ({ cfgS with fenceReq := 0xC0000000 }).fenceReq 31 = true ∧
      bit cfgS.fenceReq 30 = false ∧ bit cfgS.fenceReq 31 = false ∧ blocksRun cfgS = true) ∧
    ([false, true].all fun prep =>
      let s := fencedS prep
      decide (wspRuns s = true ∧ grvFenced s 1 = true ∧ groveInForce s 1 = true ∧ s.noSpare.getLsbD 1 = false ∧
        rb s (Reg.grvSub + 1) 4 = false ∧ rb s (Reg.grvSub + 1) 5 = false ∧ spareFor s 1 = if prep then some 9 else none)) = true ∧
    (wspWrites (fencedS true) (erWrites (fencedS true) 1 9 ++ [(Reg.grvSub + 1, BitVec.ofNat 32 25)])).2 = true ∧
    (let s := sb (fencedS false) Reg.pwrGstat 9 true
     grvSpare s 9 = true ∧ grvFenced s 9 = false ∧ grvIdle s 9 = true ∧ s.prepared.getLsbD 9 = false ∧ (grv s 9).pondBusy = false ∧
     gated s 9 = false ∧ bit (rd s Reg.pwrGctl) 9 = false ∧
     (wspWrites (l1Clean s 9 35) [(Reg.cmxPond + 9, putBit (rd s (Reg.cmxPond + 9)) 4 true)]).2 = true) ∧
    ((List.range 6).all fun c => rb clockS (Reg.fltCknom + c) 12) = true := by decide +kernel

/-- The scrubber of T59 at word `w`, whose codeword is good or not. -/
def scrubS (w : Nat) (c : TarnErr) : State :=
  let s := sb cfgS Reg.tarnScrub 0 true
  putTarnCls { s with scrubPos := Sparse.set 0 s.scrubPos 59 w, corrQ := [(59, [w, 6])] } 59 w c
/-- Group 14 in retention, asked to wake, waking, and waking with its supply good, at the time given. -/
def pwrS (f : PwrState → PwrState) (now : Dbl) : State := { cfgS with tb := { cfgS.tb with now := now }, pwr := f cfgS.pwr }
def wakingS (now a b : Dbl) : State :=
  sb (pwrS (fun p => { p with retFall := [(14, some a)], rokFall := [(14, some b)], rok := 0x4000 }) now) Reg.tarnRetst 29 true

theorem wit_TarnUpkeep :
    ([(0, TarnErr.good), (32767, .single), (5, .multi), (6, .wrongAddr)].all fun x =>
      let s := scrubS x.1 x.2
      decide (rb s Reg.tarnScrub 0 = true ∧ tarnUp s 59 = true ∧ tarnDead s 59 = false ∧ blocksRun s = true ∧
        tarnCls s 59 (Sparse.get 0 s.scrubPos 59) = x.2 ∧ Sparse.get [] s.corrQ 59 = [x.1, 6] ∧ s.flt.length < 64)) = true ∧
    (Sparse.get none ({ cfgS with ownPend := [(59, some 3)] }).ownPend 59 = some 3 ∧ (3 : Word).toNat < 256 ∧ Sparse.get none cfgS.ownPend 59 = none) ∧
    (let s := sb cfgS Reg.tarnRet 14 true
     rb s Reg.tarnRet 14 = true ∧ ((groupTarns 14).all fun t => decide (rf s (Reg.tarnOwn + t) 7 0 = 0 ∧ ownerShown s t = 0)) = true ∧
     s.pwr.ret.getLsbD 14 = false ∧ wakingG s 14 = false ∧ s.pwr.dead.getLsbD 14 = false ∧ s.pwr.wakeReq.getLsbD 14 = false) ∧
    (let s := pwrS (fun p => { p with ret := 0x4000, wakeReq := 0x4000, rok := 0x4000 }) 50000
     s.pwr.ret.getLsbD 14 = true ∧ s.pwr.wakeReq.getLsbD 14 = true ∧ s.pwr.rok.getLsbD 14 = true ∧ s.pwr.ret.getLsbD 0 = false) ∧
    ([(52000, 50000, 51500), (52000, 50000, 51501), (51999, 50000, 51000), (53000, 50000, 52500), (53000, 50000, 52501)].all fun x =>
      let s := wakingS x.1 x.2.1 x.2.2
      decide (Sparse.get none s.pwr.retFall 14 = some x.2.1 ∧ Sparse.get none s.pwr.rokFall 14 = some x.2.2 ∧ wakingG s 14 = true ∧
        (x.2.1.toNat + 2000 ≤ s.tb.now.toNat ∧ x.2.2.toNat + 500 ≤ s.tb.now.toNat ↔ x = (52000, 50000, 51500) ∨ x = (53000, 50000, 52500)))) = true ∧
    (let s := wakingS 150000 50000 0
     Sparse.get none s.pwr.retFall 14 = some 50000 ∧ s.pwr.rok.getLsbD 14 = true ∧ 50000 + 100000 ≤ s.tb.now.toNat) := by decide +kernel

/-- Transactions outstanding at the master port: a prefetch's fill, a write of Application 0, and one whose time has passed. -/
def portS (done : Option Bool) : State :=
  { planS false with nchm := [⟨5, 3, 0, .pfh 0 true, true, done⟩, ⟨0x85, 4, 0, .write (some 0) 260 8, true, done⟩] }
theorem wit_OuterPort :
    (let c : CmxOp := ⟨1, 0, 63, 0, 64, 32, true, true⟩
     ({ cfgS with cmx := some c }).cmx = some c ∧ c.last < c.next ∧ preloads { cfgS with cmx := some c } = 0 ∧ blocksRun cfgS = true ∧
     ({ c with next := 63 }).next ≤ ({ c with next := 63 }).last) ∧
    (cfgS.nchm.all fun t => decide (t.id ≠ 5 ∧ t.id ≠ 0x85)) = true ∧
    ([none, some true, some false].all fun d => decide (nchFind (portS d) 5 = some ⟨5, 3, 0, .pfh 0 true, true, d⟩ ∧
      nchFind (portS d) 0x85 = some ⟨0x85, 4, 0, .write (some 0) 260 8, true, d⟩ ∧ (portS d).cmx = none ∧ (app (portS d) 0).active = true)) = true ∧
    (let s := portS (some true)
     blocksRun s = true ∧ lakeWay s 3 = none ∧ mayAlloc s 4 0 3 = true ∧
     ((List.range 16).any fun w => match lakeSlot s (3 % 4096) w with | some x => !x.locked | none => true) = true) ∧
    ((8 : BitVec 20).toNat % 16 ≠ 0 ∧ (0xFF0 : BitVec 20).toNat % 16 = 0 ∧ (0xFF0 : BitVec 20).toNat % 4096 + 16 * ((1 : BitVec 4).toNat + 1) > 4096 ∧
      ¬ (0xFF0 : BitVec 20).toNat % 4096 + 16 * ((0 : BitVec 4).toNat + 1) > 4096) := by decide +kernel

/-! ### Witnesses: the slave port and the management interface -/

/-- Channel 2 in state `st`, last used by host 38 + `h`. -/
def chanS (st h : Nat) : State := putChan { cfgS with goQ := if st = 1 then [2] else [] } 2 { State.mbxReset with st := st, master := 38 + h }
/-- Host 0 with an open expert session, page 2 and windows onto T1. -/
def hostS : State :=
  let s := hostWr (hostWr (opened (wr cfgS (Reg.tarnOwn + 1) 3) 38 [1, 0x5B]) (offPage 0) 2) 0x20004 0x41
  { s with sessions := [⟨7, 38, true, true, 60, 50000, [], none⟩] }
def lane (wr : Bool) (k : Nat) (v : Word) : BusReq :=
  { off := 0x10, beats := 1, wr := wr, words := if wr then [v, v, v, v] else [], be := [0xF#16 <<< (4 * k)] }

theorem wit_HostPort :
    ([0, 1, 2].all fun st => decide (portRuns (chanS st 0) = true ∧ (chan (chanS st 0) 2).st = st ∧ (chan (chanS st 0) 2).master = 38)) = true ∧
    (chan (chanS 2 1) 2).master ≠ 38 ∧ (bit (1 : Word) 0 = true ∧ bit (1 : Word) 1 = false ∧ bit (2 : Word) 0 = false ∧ bit (2 : Word) 1 = true ∧
      bit (3 : Word) 0 = true ∧ bit (3 : Word) 1 = true) ∧ (8 : Nat) ≠ offWinstat ∧
    (({ chanS 1 0 with wspStopped := true }).wspStopped = true ∧ (chan { chanS 1 0 with wspStopped := true } 2).st = 1 ∧ (chanS 1 0).wspStopped = false) ∧
    ((burstOk { lane false 0 0 with beats := 0 } 0x4000 || burstOk { lane false 0 0 with off := 0x4000 } 0x4000) = false ∧
      burstOk { lane false 0 0 with off := 0x3FF0 } 0x4000 = true) ∧
    ([0, 1, 2, 3].all fun k => decide ((lane false k 0).be.headD 0xFFFF = 0xF#16 <<< (4 * k) ∧ (lane true k 0).be.getD 0 0 = 0xF#16 <<< (4 * k) ∧
      (lane true k 0).beats = 1)) = true ∧
    (expertOpen cfgS 38 = false ∧ expertOpen hostS 38 = true ∧ (ioDenied hostS (reqOf hostS 38) 0x2004 needR).isSome = true ∧
      (let s := hostWr hostS (offPage 0) 3
       fld (hostRd s (offPage 0)) 3 0 * 0x1000 = Reg.tbNowl ∧ (ioDenied s (reqOf s 38) Reg.tbNowl needR).isNone = true)) ∧
    (bit (hostRd hostS 0x20004) 6 = true ∧ fld (hostRd hostS 0x20004) 5 0 = 1 ∧ bit (hostRd hostS 0x20008) 6 = false ∧
      (checkMem cfgS (reqOf cfgS 38) (tarnAddr 1 0 + 0x10) needR spSlave).isSome = true ∧
      checkMem hostS (reqOf hostS 38) (tarnAddr 1 0 + 0x10) needW spSlave = none ∧ checkMem hostS (reqOf hostS 38) (tarnAddr 1 0 + 0x10) needR spSlave = none ∧
      tarnUp hostS 1 = true ∧ tarnCls hostS 1 7 = .good ∧ bufIndex hostS 1 7 = none) := by decide +kernel

/-! ### Witnesses: management commands -/

/-- A session of host 0, and the command of `code` on channel 2 with PLEN `n` and its parameters, over a state. -/
def asks (s : State) (x : Session) (code n : Nat) (ps : List Word) : State :=
  let w := BitVec.ofNat 32 (x.sid + n * 2 ^ 16)
  { s with sessions := [x], goQ := [2], mbx := [], evq := [], authFail := [], authLock := [] } |> fun s =>
    putChan s 2 { State.mbxReset with st := 1, master := 38, cmd := putBuf [] 0 ([BitVec.ofNat 32 code, w, 0, 0] ++ ps) }
def ses : Session := { sid := 7, master := 38, expert := true, authed := true, timeout := 60, lastUse := 50000, nonce := [1, 2, 3, 4], obj := none }
def new : Session := { ses with authed := false }
/-- The Wellspring's device with the journal open, in a device state. -/
def omiS (d : Dev) : State := { sb cfgS Reg.jrnStat 4 true with dev := d }
/-- The session a row asks for, and one it does not take; a device state that is not among a row's. -/
def sesOf (r : OmiRow) : Session := if r.level = .own then new else ses
def sesNot (r : OmiRow) : Session := if r.level = .own then ses else new

/-- For every row of the command tables: out of turn; a wrong length; a session that is missing; a PLEN out of range; a state that
is not the row's; and all checks passed, in each of the row's states. -/
theorem wit_management_rows :
    ((omiBasic ++ omiExpert).all fun r =>
      let s (x : Session) (n : Nat) (d : Dev) := asks (omiS d) x r.code n []
      let d := r.states.headD .off
      decide (myTurn (omiS d) 2 = false ∧ myTurn (s (sesOf r) r.lo d) 2 = true ∧ cmdCode (s (sesOf r) r.lo d) 2 = r.code ∧
        ¬ (cmdLen (s ses 1012 d) 2 ≤ 1008 ∧ cmdLen (s ses 1012 d) 2 % 4 = 0) ∧ cmdLen (s ses 3 d) 2 % 4 ≠ 0 ∧
        (r.level = .open' ∨ r.level = .unlocked ∨ levelOk (s (sesNot r) r.lo d) 2 r.level = false) ∧
        (r.hi = 1008 ∨ ¬ (r.lo ≤ cmdLen (s ses (r.hi + 4) d) 2 ∧ cmdLen (s ses (r.hi + 4) d) 2 ≤ r.hi))) &&
      r.states.all fun e => decide (myTurn (s (sesOf r) r.lo e) 2 = true ∧ levelOk (s (sesOf r) r.lo e) 2 r.level = true ∧
        cmdLen (s (sesOf r) r.lo e) 2 = r.lo ∧ r.lo % 4 = 0 ∧ r.lo ≤ 1008 ∧ r.lo ≤ r.hi)) = true ∧
    ((omiBasic ++ omiExpert).all fun r => inA.all fun d => r.states.contains d ||
      decide (myTurn (asks (omiS d) (sesOf r) r.code r.lo []) 2 = true ∧ d ∉ r.states)) = true ∧
    levelOk { asks (omiS .run) ses 2 4 [] with authLock := [(38, some 60000)] } 2 .unlocked = false := by decide +kernel

/-- OPEN_SESSION with word `p`, with an OMI key fused or none. -/
def openS (p : Word) (keyed : Bool) (xs : List Session) : State :=
  { asks (omiS .run) ses 2 4 [p] with sessions := xs, fuse := if keyed then [(0x130, 5), (0x138, 6)] else [] }
/-- AUTH with the right response or another. -/
def authS (good : Bool) : State :=
  let s := openS 0 true []
  asks s new 3 32 (bytesWords (hmac256 (omiKey s true) (authMsg new)) |>.map fun w => if good then w else ~~~ w)
/-- READ_FAULTS and READ_JOURNAL with two records of each. -/
def faultsS (p : Word) : State := let s := asks (omiS .run) ses 0x1D 4 [p]; record (record s (faultOf 1 0)) (faultOf 2 0)
def readJ (q n : Word) : State := regs (asks (omiS .run) ses 0x1E 8 [q, n]) [(Reg.jrnHead, 7), (Reg.jrnTail, 5)]
/-- An object of 32 bytes, all its data placed; 49152 bytes leave no room for another 32768. -/
def held : LoadObj := { kind := 1, total := 32, base := 0, passed := false }
def loadS (code n : Nat) (ps : List Word) (o : Option LoadObj) : State :=
  opened (wr (asks (omiS .run) { ses with obj := o } code n ps) (Reg.tarnOwn + 61) 1) 32 [61]

theorem wit_SessionsAndReads :
    (let s := asks (omiS .run) ses 0x99 0 []
     myTurn s 2 = true ∧ ((omiBasic ++ omiExpert).all fun r => decide (r.code ≠ cmdCode s 2)) = true) ∧
    (let ok (p : Word) : Bool := decide (p &&& 0xF000FFFE#32 = 0 ∧ fld p 27 16 ≤ 3600)
     ok 2 = false ∧ ok (3601 * 2 ^ 16) = false ∧ ok (3600 * 2 ^ 16 + 1) = true ∧ param (openS 1 true []) 2 0 = 1 ∧
     ((omiKey (openS 1 false []) true).all fun b => decide (b = 0)) = true ∧ ((omiKey (openS 1 true []) true).any fun b => decide (b ≠ 0)) = true ∧
     (openS 0 true (List.replicate 8 ses)).sessions.length = 8) ∧
    (sessionOf (authS true) 2 = some new ∧ sessionOf (authS false) 2 = some new ∧
      hmac256 (omiKey (authS true) true) (authMsg new) = wordsBytes (params (authS true) 2 8) ∧
      hmac256 (omiKey (authS false) true) (authMsg new) ≠ wordsBytes (params (authS false) 2 8) ∧
      Sparse.get 0 ({ authS false with authFail := [(38, 2)] }).authFail 38 = 2 ∧ Sparse.get 0 (authS false).authFail 38 < 2) ∧
    lockedOut { omiS .run with authLock := [(38, some 50000)] } 38 = false ∧
    ([(ses, 60000050000#64), (new, 1000050000)].all fun x => [0, 1].all fun k =>
      let s := { omiS .run with sessions := [x.1], tb := { cfgS.tb with now := x.2 - k } }
      decide ((s.sessions.find? fun y => decide (y.sid = 7)) = some x.1 ∧ omiFull s = true ∧ s.evq.length < 32 ∧
        (x.1.lastUse.toNat + (if x.1.authed then x.1.timeout else 1) * 1000000000 ≤ s.tb.now.toNat ↔ k = 0)) &&
      (List.range 8).all fun c => decide (x.1.isOf s c = false ∨ (chan s c).st ≠ 1)) = true ∧
    ([(32#32, 32, false), (0, 0, false), (31, 31, false), (0x80000001, 1, true)].all fun x =>
      let s := faultsS x.1
      decide (fld (param s 2 0) 30 0 = x.2.1 ∧ bit (param s 2 0) 31 = x.2.2 ∧ (s.flt.take x.2.1).getLast?.isSome = decide (x.2.1 ≠ 0))) = true ∧
    (match wspPut (faultsS 0x80000001) Reg.fltAck (nth ((faultsS 0x80000001).flt.headD []) 6) with | .done _ => true | _ => false) = true ∧
    ((32 : Nat) > 31 ∧ jrnUsedN (readJ 5 2) = 2 ∧ (param (readJ 5 2) 2 0 - rd (readJ 5 2) Reg.jrnTail).toNat + 2 ≤ 2 ∧
      (param (readJ 6 2) 2 0 - rd (readJ 6 2) Reg.jrnTail).toNat + 2 > 2 ∧
      (journalWords (opened (wr (readJ 5 2) (Reg.tarnOwn + 63) 1) 32 [63]) 5 2).2.isSome = true ∧
      (readWords (opened (readJ 5 2) 32 [63]) 63 (jrnSlot 5) 32 8).2.isSome = true ∧
      (journalWords (putTarnCls (opened (readJ 5 2) 32 [63]) 63 (jrnSlot 5) .multi) 5 2).2.isNone = true ∧
      ((match wspPut (readJ 5 2) Reg.jrnAck 6 with | .done _ => true | _ => false) &&
        (match wspPut (readJ 5 2) Reg.jrnAck 9 with | .refused _ => true | _ => false)) = true) ∧
    ([(1, 32, 2048), (2, 16, 8192), (3, 16, 16384), (4, 8, 32768), (5, 12, 49152)].all fun x =>
      let s := loadS 0x21 8 [BitVec.ofNat 32 x.1, BitVec.ofNat 32 x.2.2] none
      decide ((param s 2 0).toNat = x.1 ∧ (param s 2 1).toNat = x.2.2 ∧ x.2.2 % x.2.1 = 0 ∧ (x.2.1 - 1) % x.2.1 ≠ 0 ∧ objOf s 2 = none ∧
        (objOf (loadS 0x21 8 [] (some held)) 2).isSome = true ∧ (stageFree s (x.2.2 / 4)).isSome = true)) = true ∧
    (let s := loadS 0x22 12 [28, 0xAABBCCDD] (some held)
     objOf s 2 = some held ∧ cmdLen s 2 / 4 - 1 = 2 ∧ (32 : Nat) < 28 + 4 * 2 ∧ ¬ 32 < 24 + 4 * 2 ∧ 22 % 4 ≠ 0 ∧
     (wspTarnWrite s 61 (stageBase + 0 + 24 / 4) [1, 2]).2 = true ∧
     ((objWords s held).2.map fun ws => decide (crc32c ws ≠ param s 2 0)) = some true ∧ (objWords s held).2 = some [0, 0, 0, 0, 0, 0, 0, 0] ∧
     param (loadS 0x23 4 [crc32c [0, 0, 0, 0, 0, 0, 0, 0]] (some held)) 2 0 = crc32c [0, 0, 0, 0, 0, 0, 0, 0]) := by decide +kernel

/-- An object of `n` zero words of a kind, and a command over it; the Wellspring may use T61 and T5. -/
def objS (d : Dev) (kind n code plen : Nat) (ps : List Word) : State :=
  opened (regs (asks { cfgS with dev := d } { ses with obj := some ⟨kind, 4 * n, 0, true⟩ } code plen ps)
    [(Reg.tarnOwn + 61, 1), (Reg.tarnOwn + 5, 1)]) 32 [5, 61]
def askC (d : Dev) (code plen : Nat) (ps : List Word) : State := asks { cfgS with dev := d } ses code plen ps
def ends (p : State × WrOut) (r : WrOut) : Bool := decide (p.2 = r)

theorem wit_registers_of_commands :
    ((match wspPut cfgS Reg.tbSetl 5 with | .done _ => true | _ => false) &&
      (match wspPut (jrnS 4032) Reg.tbSetl 5 with | .full _ => true | _ => false) &&
      (match wspPut cfgS Reg.jrnAck 9 with | .refused _ => true | _ => false)) = true ∧
    ends (omiWrites (askC .run 0x46 4 [1]) [(Reg.grvFence, 1)]) .done = true ∧
    ([(0#32, 0#32), (15, 0), (16, 0)].all fun x => decide ((askC .run 0x44 16 [x.1, 0, 0, 0]).dev = .run ∧ (x.1.toNat < 16 ↔ x.1 ≠ 16))) = true ∧
    (strayWrites [(Reg.actRbase, 0), (Reg.actRlim, 0), (Reg.cmxRattr, 0)] = false ∧ strayWrites [(Reg.cmxRattr, 0xFFFFFFFF)] = true ∧
      ends (omiWrites cfgS [(Reg.actRbase, 0), (Reg.actRlim, 0), (Reg.cmxRattr, 0)]) .done = true) ∧
    (strayWrites [(Reg.grvMode, 0), (Reg.cmxPond, 0)] = false ∧ ends (omiWrites cfgS [(Reg.grvMode, 0), (Reg.cmxPond, 0)]) .done = true) ∧
    (strayWrites [(Reg.grvTwctl, 0)] = false ∧ strayWrites [(Reg.cvuVcfg, 0), (Reg.icuPrigrp, 0)] = false ∧
      strayWrites [(Reg.icuSrc + 255, 0), (Reg.icuHold + 31, 0)] = false ∧
      strayWrites [(Reg.shrNode, 0), (Reg.shrCtl, 0), (Reg.grvQw, 0), (Reg.grvQw + 1, 0), (Reg.grvQw + 2, 0), (Reg.grvQw + 3, 0)] = false ∧
      strayWrites [(Reg.tbCtl, 0), (Reg.schedEpochh, 0)] = false) ∧
    (let s := askC .run 0x4B 24 [0, 0, 5, 3, 63, 0]
     cmdLen s 2 = 8 + 8 * 2 ∧ (param s 2 2).toNat ≤ 63 ∧ (param s 2 4).toNat ≤ 63 ∧
     strayWrites [(Reg.tarnScrub, 0), (Reg.tarnRet, 0), (Reg.tarnOwn + 5, 3), (Reg.tarnOwn + 63, 0)] = false) ∧
    ((param (askC .run 0x47 4 [15]) 2 0).toNat < 16 ∧ (askC .run 0x47 4 [15]).flt.length < 64) ∧
    ([(0x10000#32, 0#32, 0#32), (0, 64, 0), (0, 0, 256), (0x8001, 63, 255), (3, 0, 0)].all fun x =>
      let s := askC .run 0x57 72 ([x.1] ++ List.replicate 16 x.2.1 ++ [x.2.2])
      let bad := decide (0x10000 ≤ (param s 2 0).toNat ∨ 256 ≤ (param s 2 17).toNat ∨ 64 ≤ (param s 2 16).toNat)
      bad == decide (x ≠ (0x8001, 63, 255) ∧ x ≠ (3, 0, 0))) = true ∧
    ends (omiWrites cfgS [(Reg.wdiCfg, 63), (Reg.wdiCfg + 15, 63)]) .done = true := by decide +kernel

/-- Application 3 is defined or enabled; its segments may be written. -/
def defS (en : Bool) (ps : List Word) : State :=
  let s := askC .config 0x11 52 ps
  if en then wr s (Reg.schedApp + 3) 1 else s
theorem wit_profiles_and_applications :
    (let s := regs (defS true []) [(Reg.imgInt + 3, 5 + 6 * 64), (Reg.imgInl + 3, 0x40000)]
     (enabledAny s).contains 3 = true ∧ auxApp s 3 = true ∧ (sidesOf s 3).contains 5 = true) ∧
    ((List.range 32).all fun a => isDef { askC .config 0x11 52 [0xFF] with defs := (List.range 32).map fun a => (a, some 0) } a) = true ∧
    (let s := { askC .config 0x11 52 [0xFF] with defs := [(0, some 0), (1, some 0)] }
     isDef s 0 = true ∧ isDef s 1 = true ∧ isDef s 2 = false) ∧
    (let s := defS false [3, 2, 0x80000, 0x81000, 1, 0x185, 0x40000, 0x207, 0x40000, 9, 0x40100, 0, 0]
     let ws := defineWrites s 2 3
     param s 2 1 &&& 0xFFFFC001#32 = 0 ∧ (param s 2 4).toNat < 2 ∧ strayWrites ws = false ∧ appEither s 3 = false ∧
     ends (omiWrites s ws) .done = true ∧
     (let t := (omiWrites s ws).1
      let d := { t with defs := Sparse.set none t.defs 3 (some (param s 2 1)) }
      ends (grantAll d (appGrants d 3 true)) .done = true)) ∧
    (let s := defS false [3, 0, 0, 0, 0, 0xFFF, 0x40000, 0, 0, 0, 0, 0, 0]
     strayWrites (defineWrites s 2 3) = false ∧ ends (omiWrites s (defineWrites s 2 3)) .refused = true) ∧
    (appEither (defS true [3]) 3 = true ∧ ends (omiWrites (defS true [3]) [(Reg.imgInt + 3, 5)]) .refused = true) ∧
    ends (omiWrites (defS false [3]) ([Reg.imgInl, Reg.imgOutl, Reg.imgMrkl, Reg.imgRet, Reg.imgInt, Reg.imgOutt,
        Reg.imgMrkt, Reg.imgSafe].map fun r => (r + 3, 0#32))) .done = true := by decide +kernel

/-- SET_PROFILE 0 up to a target: only ACT_TSEL has changed, since host IDs hold no grant. -/
def profS (t : Nat) : State := wr (askC .config 0x10 4 [0]) Reg.actTsel (BitVec.ofNat 32 t)
def profG (t : Nat) : Grant := ⟨t, [19, 20, 21, 22], fun _ => true, fun _ => BitVec.ofNat 16 (profileNib (askC .config 0x10 4 [0]) 0 t)⟩
theorem prof_step : ((List.range 0xC2).all fun t => decide (grantPairs (profS (t - 1)) t (profG t).js (fun m e => if (profG t).of m then (profG t).f e else e)
    = (profS t, .done))) = true := by decide +kernel
theorem prof_all (n : Nat) : ∀ k, k + n ≤ 0xC2 → grantAll (profS (k - 1)) ((List.range' k n).map profG) = (profS (k + n - 1), .done) := by
  induction n with
  | zero => intro k _; rfl
  | succ n ih =>
    intro k h
    have hk := of_decide_eq_true (List.all_eq_true.mp prof_step k (List.mem_range.mpr (by omega)))
    have h2 := ih (k + 1) (by omega)
    rw [List.range'_succ, List.map_cons, grantAll, show (profG k).t = k from rfl, hk]
    simpa [Nat.add_comm, Nat.add_left_comm] using h2
theorem wit_profile : ∃ t, grantAll (askC .config 0x10 4 [0]) ((List.range 0xC2).map fun t => ⟨t, [19, 20, 21, 22], fun _ => true,
    fun _ => BitVec.ofNat 16 (profileNib (askC .config 0x10 4 [0]) 0 t)⟩) = (t, .done) :=
  ⟨_, by have h := prof_all 0xC2 0 (by decide); rw [← List.range_eq_range'] at h; exact h⟩
/-- A plan whose Application 0 has a new program in slot B, with its state in T5; the twin is live and in step. -/
def newHdr : List Word := [0x544F4C53, 1, 0, 4, crc32c [0], 0x20, 0, 0, 0x81100, 0x800A1000, 0x800A0800]
def editS (code plen : Nat) (ps : List Word) : State :=
  let s := regs (pairS .run .idle) [(Reg.schedApp, 1), (Reg.schedSlota, 0x80000), (Reg.schedSlotb, 0x81000), (Reg.grvXrl + 16, 0x000FFFC1),
    (Reg.tarnOwn + 5, 3), (Reg.grvTwstat, 1), (Reg.schedGap, 2000), (Reg.fltCknom, 1000)]
  let s := opened (opened (opened s 47 [0x40]) 32 [0x40, 61]) 0 [5]
  let s := putBytes { s with mem := [], shadow := [(0, [0x544F4C53, 0, 0, 8, 0, 0, 0, 0, 0x400])] } 0x81000 (wordsBytes newHdr)
  asks s ses code plen ps

/-- Writes that each leave a state as it is leave it so together. -/
theorem same_writes (s : State) (ws : List (Nat × Word)) (h : (ws.all fun p => decide (omiWrites s [p] = (s, .done))) = true) :
    omiWrites s ws = (s, .done) := by
  induction ws with
  | nil => rfl
  | cons p r ih =>
    have hp := of_decide_eq_true (List.all_eq_true.mp h p (List.mem_cons_self ..))
    have hr := ih (by simpa using (by simpa using h : _ ∧ _).2)
    obtain ⟨a, v⟩ := p
    simp only [omiWrites] at hp ⊢
    cases hw : wspPut s a v with
    | done t => rw [hw] at hp; simp only [Prod.mk.injEq, and_true] at hp; subst hp; simpa using hr
    | full t => rw [hw] at hp; simp at hp
    | refused t => rw [hw] at hp; simp at hp
    | held t => rw [hw] at hp; simp at hp
    | denied t d => rw [hw] at hp; simp at hp

/-- SCHEDULE_SET of one entry of zeros, with WBANK on the bank that it fills: the schedule is off, or bank 0 is in force. -/
def schedS (on' : Bool) (p m : Word) : State :=
  let s := wr (objS (if on' then .run else .config) 1 8 0x13 8 [p, m]) Reg.schedCtl (if on' then 3 else 2)
  if on' then { wr s Reg.schedCycl 5 with cutSince := true } else s
def zeros : List Word := [0, 0, 0, 0, 0, 0, 0, 0]
theorem wit_fills : ([false, true].all fun on' =>
    let s := schedS on' (if on' then 0x201 else 0) 0
    ((Reg.schedCtl, ctlWord s true) :: bankWrites s 0 zeros).all fun p => decide (omiWrites s [p] = (s, .done))) = true := by decide +kernel
theorem wit_schedules :
    (passedObj (askC .config 0x13 8 [0, 0]) 2 1 = none) ∧
    (([(0x100#32, 0#32), (0x101, 0), (0x10000, 0), (0, 1)].all fun x =>
      let s := schedS false x.1 x.2
      decide (param s 2 0 &&& 0xFFFF00FE#32 ≠ 0 ∨ (bit (param s 2 0) 0 = true ∧ fld (param s 2 0) 15 8 < 2) ∨ bit (param s 2 1) 0 = true ∧
        isDef s 0 = false) = decide (x.1 ≠ 0x100 ∨ x.2 ≠ 0)) = true ∧
     ([false, true].all fun on' =>
      let s := schedS on' (if on' then 0x201 else 0) 0
      decide (passedObj s 2 1 = some ⟨1, 32, 0, true⟩ ∧ (objWords s ⟨1, 32, 0, true⟩).1 = s ∧ (objWords s ⟨1, 32, 0, true⟩).2 = some zeros ∧
        (!aBank s) = true ∧ param s 2 0 &&& 0xFFFF00FE#32 = 0 ∧ param s 2 1 = 0 ∧ strayTable entMasks zeros = false ∧
        bit (param s 2 0) 0 = on' ∧ schedOn s = on' ∧ s.twin.joining = false ∧ swapPend s = false ∧ s.dev ≠ .safeHold))) = true ∧
    (let s := schedS false 0 0
     ends (omiWrites s [(Reg.schedCtl, ctlWord s true ||| 1)]) .done = true ∧ schedOn (omiWrites s [(Reg.schedCtl, ctlWord s true ||| 1)]).1 = true) ∧
    (let s := schedS true 0x201 0
     let d := BitVec.ofNat 64 (swapCycle s (cycNow s + 2))
     let v := (omiWrites s [(Reg.schedSwapl, lo32 d), (Reg.schedSwaph, hi32 d)]).1
     ends (omiWrites s [(Reg.schedSwapl, lo32 d), (Reg.schedSwaph, hi32 d)]) .done = true ∧ swapsWithTwin v = false ∧
     ends (omiWrites v [(Reg.schedCtl, ctlWord v true ||| 8)]) .done = true ∧ swapPend (omiWrites v [(Reg.schedCtl, ctlWord v true ||| 8)]).1 = true) := by
  decide +kernel

/-- The three tables over objects of zeros, and where they go. -/
def placedBy (s : State) (kind tn off : Nat) (masks : List Word) : Bool :=
  match passedObj s 2 kind with
  | none => false
  | some o => decide (off + o.total / 4 ≤ 0x8000) && tarnUp s tn && decide ((objWords s o).2 = some (List.replicate (o.total / 4) 0)) &&
    !strayTable masks (List.replicate (o.total / 4) 0) && (wspTarnWrite (objWords s o).1 tn off (List.replicate (o.total / 4) 0)).2
def afterPlace (s : State) (tn off : Nat) : State :=
  match objOf s 2 with
  | none => s
  | some o => (wspTarnWrite (objWords s o).1 tn off (List.replicate (o.total / 4) 0)).1
def routedS : State :=
  let s := opened (asks attachS { ses with obj := some ⟨3, 16, 0, true⟩ } 0x15 4 [0x100]) 32 [61]
  [rIn.w0, rIn.w1, rIn.w2, rIn.w3].zipIdx.foldl (fun s x => putTarnRaw s 61 (0x4000 + x.2) x.1) s
theorem wit_tables :
    (let s := objS .run 2 4 0x14 12 [15, 5, 0x7FFC]
     (param s 2 0).toNat ≤ 15 ∧ itTarnOk (param s 2 1).toNat = true ∧ (param s 2 2).toNat ≤ 0x7FFF ∧ placedBy s 2 5 0x7FFC filterMasks = true ∧
     ends (omiWrites (afterPlace s 5 0x7FFC) [(Reg.attFlt + 15, BitVec.ofNat 32 (5 + 0x7FFC * 2 ^ 6 + 2 ^ 21))]) .done = true) ∧
    (itTarnOk 60 = false ∧ itTarnOk 61 = true) ∧
    (let s := objS .run 3 4 0x15 4 [0x100]
     let u := afterPlace s 61 0x100
     let v := (omiWrites u [(Reg.imgRtbl, BitVec.ofNat 32 (0x100 + 2 ^ 15))]).1
     placedBy s 3 61 0x100 routeMasks = true ∧ ends (omiWrites u [(Reg.imgRtbl, BitVec.ofNat 32 (0x100 + 2 ^ 15))]) .done = true ∧
     (routeDecide v).2 = false) ∧
    (let ws := [rIn.w0, rIn.w1, rIn.w2, rIn.w3]
     let u := (wspTarnWrite routedS 61 0x100 ws).1
     let w := (Reg.imgRtbl, BitVec.ofNat 32 (0x100 + 2 ^ 15))
     passedObj routedS 2 3 = some ⟨3, 16, 0, true⟩ ∧ tarnUp routedS 61 = true ∧ (objWords routedS ⟨3, 16, 0, true⟩).2 = some ws ∧
     strayTable routeMasks ws = false ∧ (wspTarnWrite routedS 61 0x100 ws).2 = true ∧ ends (omiWrites u [w]) .done = true ∧
     (routeDecide (omiWrites u [w]).1).2 = true) ∧
    (let s := objS .run 4 4 0x16 12 [5, 0x100, 5]
     let u := afterPlace s 5 0x100
     let n := BitVec.ofNat 32 (2 + 5 * 2 ^ 13)
     let v := (omiWrites u [(Reg.shrItbl, BitVec.ofNat 32 (5 + 0x100 * 2 ^ 6))]).1
     placedBy s 4 5 0x100 itemMasks = true ∧ ends (omiWrites u [(Reg.shrItbl, BitVec.ofNat 32 (5 + 0x100 * 2 ^ 6))]) .done = true ∧
     ends (omiWrites v [(Reg.shrItcnt, n)]) .done = true ∧ (itemDecide v n).2 = true ∧
     (itemDecide v (BitVec.ofNat 32 (2 + 60 * 2 ^ 13))).2 = false) := by decide +kernel

/-- Members that may start and switch: on the ring, admitted or refused, bound, with a fit primary, live and in step. -/
def startS (d : Dev) (n : Word) (tw ad : Bool) : State :=
  let s := regs (asks { ringS d ad with dev := d } ses 0x17 4 [n])
    [(Reg.grvTwctl, if tw then 0x47 else 0), (Reg.shrCtl, 1), (Reg.tbStat, 1), (Reg.schedCtl, 1), (Reg.grvQw, 1), (Reg.grvTwstat, 1)]
  let s := putLinks (putLinks s { noLinks 5 with nbrA := 7, upA := true }) { noLinks 7 with nbrB := 5, upB := true }
  { s with twin := { State.twinReset with live := tw } }
theorem wit_starting :
    ([(3, false, true), (0, true, true), (1, false, true), (2, false, true)].all fun x =>
      let s := startS .config (BitVec.ofNat 32 x.1) x.2.1 x.2.2
      decide ((param s 2 0).toNat = x.1 ∧ (x.1 ≤ 2 → (x.1 = 0 ↔ bound s = true)))) = true ∧
    ([(0, false), (1, true), (2, true)].all fun x => [false, true].all fun ad =>
      let s := startS .config (BitVec.ofNat 32 x.1) x.2 ad
      decide ((param s 2 0).toNat = x.1 ∧ ¬ (x.1 = 0 ↔ bound s = true) ∧ joinWaits s = false ∧ ringEn s = true ∧ ringAdmitted s = ad)) = true ∧
    (rf (wr (startS .config 0 false false) Reg.shrStat 0x1000000) Reg.shrStat 25 24 = 1 ∧
      ringAdmitted (wr (startS .config 0 false false) Reg.shrStat 0x1000000) = false) ∧
    (joinFit (startS .config 2 true true) = true ∧ (reachSet (startS .config 2 true true)).contains (twNode (startS .config 2 true true)) = true ∧
      joinFit (wr (startS .config 2 true true) Reg.tbStat 0) = false) ∧
    ([(1#32, false), (256, false), (2, true), (255, true)].all fun x =>
      let s := startS .run x.1 true true
      decide ((param s 2 0).toNat = x.1.toNat ∧ (x.2 = true ↔ 2 ≤ x.1.toNat ∧ x.1.toNat ≤ 255) ∧ s.twin.joining = false ∧
        (bound s && s.twin.live && inStep s) = true ∧ (editBusy s || s.waits.any (·.isTwin) || s.twin.armed.isSome) = false)) = true ∧
    (({ startS .run 2 true true with twin := { State.twinReset with joining := true } }).twin.joining = true ∧
      (bound (startS .run 2 false true) && (startS .run 2 false true).twin.live && inStep (startS .run 2 false true)) = false) ∧
    ((startS .safeHold 0 false true).dev = .safeHold ∧ (startS .run 0 false true).bnd.phase = .idle) ∧
    (rb (sb (startS .safeHold 0 false true) Reg.wdiStat 2 true) Reg.wdiStat 2 = true ∧ rb (startS .safeHold 0 false true) Reg.wdiStat 2 = false ∧
      rb (startS .safeHold 0 false true) Reg.pwrVstat 4 = false) := by decide +kernel

/-- A staged edit, and its commit; one for which a migration table of no entry or of one entry is loaded. -/
def stg : Staged := { app := 0, slotB := true, off := migBase, count := 0, t5 := 40, crc := 0 }
def stagedS (code : Nat) (ps : List Word) : State := { editS code 8 ps with edit := { State.editReset with staged := some stg } }
def tableS : State :=
  let s := editS 0x1A 8 [0, 1]
  let s := { s with sessions := [{ ses with obj := some ⟨5, 12, 0, true⟩ }] }
  [2#32 + 0x10000, 0, 5].zipIdx.foldl (fun s x => putTarnRaw s 61 (0x4000 + x.2) x.1) s
def okIs (x : State × Except Nat Staged) (b : Bool) : Bool := match x.2 with | .ok _ => b | .error _ => !b
theorem wit_edits :
    ([(32#32, 0#32), (0, 2), (31, 1), (0, 0)].all fun x =>
      let s := editS 0x1A 8 [x.1, x.2]
      decide ((param s 2 0).toNat = x.1.toNat ∧ (param s 2 1).toNat = x.2.toNat ∧ (s.twin.joining || editBusy s) = false)) = true ∧
    (editBusy (sb (editS 0x1A 8 [0, 1]) Reg.schedEdctl 5 true) = true ∧ objOf (editS 0x1A 8 [0, 1]) 2 = none) ∧
    okIs (editCheck (editS 0x1A 8 [0, 0]) 0 false migBase 0 none) false = true ∧
    ((List.map (fun x => decide (2 ≤ x ∧ x ≤ 255)) [1, 2, 255, 256]) = [false, true, true, false] ∧
      (bound (stagedS 0x1B [0, 2]) && (stagedS 0x1B [0, 2]).twin.live) = true ∧ (startS .run 2 false true).twin.live = false ∧
      (editS 0x1B 8 [0, 2]).edit.staged = none ∧ (stagedS 0x1B [0, 2]).edit.staged = some stg ∧ bankNow (stagedS 0x1B [0, 2]) = some false ∧
      okIs (recheck (stagedS 0x1B [0, 2]) { stg with slotB := false } false 7) false = true) ∧
    (let s := sb (wr (stagedS 0x1C [0]) Reg.schedEdctl 0) Reg.schedEdctl 5 true
     edArmed s = true ∧ edApp s = 0 ∧ s.bnd.phase = .idle ∧ s.twin.joining = false ∧ edArmed (stagedS 0x1C [0]) = false ∧
     ends (omiWrites s [(Reg.schedEdctl, putBit (rd s Reg.schedEdctl) 5 false)]) .done = true) := by decide +kernel
theorem wit_edit_checked : okIs (editCheck (editS 0x1A 8 [0, 1]) 0 true migBase 0 none) true = true := by decide +kernel
theorem wit_edit_table :
    objOf tableS 2 = some ⟨5, 12, 0, true⟩ ∧ (objWords tableS ⟨5, 12, 0, true⟩).2 = some [2 + 0x10000, 0, 5] ∧
    (wspTarnWrite (objWords tableS ⟨5, 12, 0, true⟩).1 61 migBase [2 + 0x10000, 0, 5]).2 = true ∧
    okIs (editCheck (wspTarnWrite (objWords tableS ⟨5, 12, 0, true⟩).1 61 migBase [2 + 0x10000, 0, 5]).1 0 true migBase 1 none) true = true := by
  decide +kernel
theorem wit_edit_commit :
    (match recheck (stagedS 0x1B [0, 2]) stg false 7 with | (t, .ok _) => (pendHeader t 0).2.isSome | _ => false) = true := by decide +kernel

def imageWs : List Word := [0x57464C53, 0x50001, 0x3, 0x1020304, 0x8, 0x0, 0x76697669, 0x76697669, 0x31697669, 0x0, 0x34F1F651,
   0x53945155, 0xE75572E4, 0xC91F1592, 0x0, 0x0, 0xB069920F, 0xBD5A3759, 0xD0434C02, 0x80C2B9DD, 0xEF27C809, 0x4C81263E, 0x62F6E6,
   0xF879062B, 0x30316468, 0x8F44D662, 0x9D2B6606, 0xE2A6DEC, 0x5F90B308, 0x43962C3, 0x1B855499, 0xE780A0A1, 0x7DC2513B, 0x97165618,
   0x5D975524, 0xC0BB493, 0x1333DF2B, 0x4532A196, 0xB78CD7E6, 0x6B9F3967, 0x87FF9DE3, 0xA5DD7EE2, 0x4964C17E, 0xBB5BFFB2, 0x8F1984B2,
   0x9023257D, 0x9B3EF84B, 0x299CE78B, 0xF0635114, 0x3782128D, 0x5CA53656, 0x69A49BFF, 0xF9FE75D7, 0xE379FCA8, 0xBB73F9BE, 0xA54EE4F8,
   0x245E877F, 0xD7A54C2, 0xF3F92C57, 0x618A4709, 0xA4885, 0x852B147D, 0x1873A931, 0x836D543, 0x1073A7FA, 0xC3A5AEF]

def pubDig : List Word := [0x7E26CF18, 0xB6D122A3, 0xBB8FB3E3, 0x66D9D578, 0x76881513, 0xEA8D3C18, 0x583ECA05, 0x6F165705, 0xEF1BEDF6,
   0xF1B54AB2, 0x5FF08C43, 0xCAC7BA91]

def fwKey : List Word := [0x3020100, 0x7060504, 0xB0A0908, 0xF0E0D0C, 0x13121110, 0x17161514, 0x1B1A1918, 0x1F1E1D1C]

def imageOfOther : List Word := [0x57464C53, 0x50001, 0x2, 0x1020304, 0x8, 0x0, 0x76697669, 0x76697669, 0x31697669, 0x0, 0xBCFADFB,
   0xB0593727, 0xF4840311, 0x1EBC1791, 0x0, 0x0, 0xB069920F, 0xBD5A3759, 0xD0434C02, 0x80C2B9DD, 0xEF27C809, 0x4C81263E, 0x62F6E6,
   0xF879062B, 0x30316468, 0x8F44D662, 0x9D2B6606, 0xE2A6DEC, 0x5F90B308, 0x43962C3, 0x1B855499, 0xE780A0A1, 0x7DC2513B, 0x97165618,
   0x5D975524, 0xC0BB493, 0x1333DF2B, 0x4532A196, 0xB78CD7E6, 0x6B9F3967, 0x87FF9DE3, 0xA5DD7EE2, 0xA2FEADE7, 0x6610A097, 0x5EFC5E2E,
   0x63A394BE, 0x4BF3EDAF, 0xA22753DB, 0x93EF2747, 0x7BB8A7A, 0xB376E8C4, 0x33FDFD4A, 0x5B447ED9, 0xA08CAC07, 0x7781ACFD, 0x8ACD99C5,
   0x2D2903CE, 0xC33BC6E9, 0x2EA3D943, 0x11A62BD1, 0x8EDB3FE2, 0x4449EDC0, 0x690A0E09, 0x33359B26, 0x9FA736E6, 0xB10322DA]

/-! ### Witnesses: boot and firmware

Two slot images made outside the model: header, 8 bytes of firmware 11 22 ... 88 encrypted with the key 00 01 ... 1F, and a signature by
the private key 0x1234567890ABCDEF three times over; the second names another release. -/

def imageBs : List Byte := wordsBytes imageWs
def otherBs : List Byte := wordsBytes imageOfOther
theorem test_signature : sigOk (fwPub imageBs) (imageBs.drop 168) (imageBs.take 168) = true := by decide +kernel

/-- The fuses of a device that takes that image, with FWMIN and PMIN, and the device in Boot after a step, its boot area at
0x01000000. The area is cached, and the Lake holds the words of slot A. -/
def fuses (fmin pmin : Word) : Sparse Word :=
  [(0x106, 0x1000000), (0x107, 0x2000000), (0x108, fmin), (0x109, pmin)] ++ ((List.range 12).map fun i => (0x110 + i, nth pubDig i)) ++
  ((List.range 8).map fun i => (0x128 + i, nth fwKey i))
def inLake (s : State) (line : Nat) (ws : List Word) : State :=
  let bs := wordsBytes ws
  putLake s (line % 4096) (line / 4096 % 16) (some ⟨line,
    (List.range 64).foldr (fun i (acc : Line) => (acc <<< 8) ||| (bs.getD i 0).setWidth 512) 0, false, none, false, false⟩)
def bootS (n : Nat) (fmin pmin : Word) (ws : List Word) : State :=
  let s := bootRegions { State.reset with dev := .boot, fuse := fuses fmin pmin, fuseDone := true, boot := { State.bootReset with step := n } }
  (List.range 5).foldl (fun s k => inLake s (0x40400 + k) (ws.drop (16 * k))) (wr s (Reg.cmxRattr + 14) 1)
/-- Commit records of the two copies. -/
def recWs (gen active commit pend : Nat) : List Word :=
  CommitRec.words ⟨BitVec.ofNat 32 gen, BitVec.ofNat 8 active, BitVec.ofNat 8 commit, BitVec.ofNat 8 pend, 0xFF, 9⟩
def recordsS (a b : List Word) : State := inLake (inLake (bootS 2 5 0 []) 0x40000 a) 0x40040 b
def held3 (r : Option (List Word)) (ws : List Word) : State := { bootS 3 5 0 ws with boot := { State.bootReset with step := 3, record := r } }

theorem wit_resets :
    (cfgS.flash = none ∧ ({ cfgS with dev := .off }).dev = .off ∧ cfgS.dev ≠ .off ∧ cfgS.dev ≠ .reset) ∧
    (State.reset.dev = .reset ∧ State.reset.rstSrc ≠ 0 ∧ ({ State.reset with rstSrc := 0 }).rstSrc = 0 ∧
      rb State.reset Reg.pwrVstat 4 = false ∧ rb (sb State.reset Reg.pwrVstat 4 true) Reg.pwrVstat 4 = true) ∧
    ((bootS 2 5 0 []).dev = .boot ∧ (bootS 2 5 0 []).boot.step = 2 ∧ (bootS 5 5 0 []).boot.step = 5 ∧ (bootS 4 5 0 []).boot.step = 4) ∧
    ([(recWs 5 0 3 0xFF, recWs 6 1 3 0xFF, true, true, true), (recWs 6 0 3 0xFF, recWs 5 1 3 0xFF, true, true, false),
      (recWs 6 0 3 0xFF, [], true, false, false), ([], recWs 6 0 3 0xFF, false, true, false)].all fun x =>
      let s := recordsS x.1 x.2.1
      let a := readCopy s false
      let b := readCopy a.1 true
      decide (a.2.isSome = x.2.2.1 ∧ b.2.isSome = x.2.2.2.1 ∧
        (a.2.isSome = true → b.2.isSome = true → genLater (nth (b.2.getD []) 1) (nth (a.2.getD []) 1) = x.2.2.2.2))) = true := by decide +kernel

theorem wit_boot_record :
    (held3 none []).boot.record = none ∧ (held3 none []).boot.fwLen = 0 ∧
    ([(0, 3, 0xFF), (1, 3, 0xFF), (0, 3, 1), (0, 0, 0xFF)].all fun x =>
      let s := held3 (some (recWs 7 x.1 x.2.1 x.2.2)) []
      decide (s.boot.record.map toRec = some ⟨7, BitVec.ofNat 8 x.1, BitVec.ofNat 8 x.2.1, BitVec.ofNat 8 x.2.2, 0xFF, 9⟩ ∧
        ((toRec (recWs 7 x.1 x.2.1 x.2.2)).commit &&& 3 = 3 ∨ (toRec (recWs 7 x.1 x.2.1 x.2.2)).commit &&& 3 = 0))) = true ∧
    (let s := (List.range 3).foldl (fun s k => inLake s (0x41400 + k) []) (held3 none [])
     (slotFirst (wr (recWrite (sb s Reg.idBoot 3 true) (bootRecord s).1) Reg.idBootcnt 1) [false, true]).2.isNone = true) := by decide +kernel
theorem wit_slot_taken : ((slotFirst (wr (recWrite (sb (held3 none imageWs) Reg.idBoot 3 true) (bootRecord (held3 none imageWs)).1) Reg.idBootcnt 1)
    [false, true]).2.map fun x => decide (x.1 = false ∧ x.2.hdr = imageBs.take 0xA0)) = some true := by decide +kernel

/-- What the checks of a slot see: a reading that fails past the header, no signature, another release, an SVN below FWMIN, another key. -/
theorem wit_slot_checks :
    (let s := bootS 3 5 0 imageWs
     let u := flashRead s (slotOff false) 0xA0
     u.2 = some (imageBs.take 0xA0) ∧ (slotFormat u.1 false (imageBs.take 0xA0)).2 = none ∧
     (flashRead u.1 (slotOff false + 0xA0) (8 + 96)).2 = some (imageBs.drop 0xA0) ∧
     (let t := { putLake s 0x403 (0x40403 / 4096 % 16) none with outerErr := [0x40403] }
      (flashRead t (slotOff false) 0xA0).2 = some (imageBs.take 0xA0) ∧ (flashRead t (slotOff false + 0xA0) (8 + 96)).2 = none)) ∧
    (sha384 (fwPub imageBs) = fuseBytes (bootS 3 5 0 []) 0x110 12 ∧ sha384 (fwPub imageBs) ≠ fuseBytes cfgS 0x110 12 ∧
      fwPub otherBs = fwPub imageBs ∧ sigOk (fwPub otherBs) (otherBs.drop 168) (otherBs.take 168) = true ∧ getB imageBs 8 = 3 ∧
      getB imageBs 9 = 0 ∧ getB otherBs 8 ≠ 3 ∧ fld (fuseWord (bootS 3 5 0 []) 0x108) 15 0 ≤ leField imageBs 6 2 ∧
      fld (fuseWord (bootS 3 6 0 []) 0x108) 15 0 > leField imageBs 6 2) ∧
    gcmOpen (List.replicate 32 0) ((imageBs.drop 0x18).take 12) (imageBs.take 0x28 ++ (imageBs.drop 0x40).take 0x60) ((imageBs.drop 0x28).take 16)
      ((imageBs.drop 0xA0).take 8) = none ∧
    gcmOpen (fuseBytes (bootS 3 5 0 []) 0x128 8) ((imageBs.drop 0x18).take 12) (imageBs.take 0x28 ++ (imageBs.drop 0x40).take 0x60)
      ((imageBs.drop 0x28).take 16) ((imageBs.drop 0xA0).take 8) = some [0x11, 0x22, 0x33, 0x44, 0x55, 0x66, 0x77, 0x88] := by decide +kernel

/-- Patch loads: an image with no container, and one that names a container of zeros 512 bytes on. -/
theorem wit_patch :
    ([(0, 0#32), (1, 1)].all fun x =>
      let s := { bootS 3 5 x.2 imageWs with boot := { State.bootReset with step := 3, fwLen := 8 } }
      let u := flashRead s (slotOff (rb s Reg.idBoot 0)) 0xA0
      decide (s.dev = .boot ∧ s.boot.step = 3 ∧ s.boot.fwLen ≠ 0 ∧ u.2 = some (imageBs.take 0xA0) ∧ fwPcOff (imageBs.take 0xA0) = 0 ∧
        fld (fuseWord u.1 0x109) 15 0 = x.1)) = true ∧
    (let s := { bootS 3 5 0 (putNth imageWs 5 0x200) with boot := { State.bootReset with step := 3, fwLen := 8 } }
     let u := flashRead s (slotOff (rb s Reg.idBoot 0)) 0xA0
     let h := u.2.getD []
     let v := flashRead u.1 (slotOff (rb s Reg.idBoot 0) + fwPcOff h) 0x30
     let p0 := v.2.getD []
     let w := flashRead v.1 (slotOff (rb s Reg.idBoot 0) + fwPcOff h) (min (patchSize p0) (0x40000 - fwPcOff h))
     fwPcOff h = 0x200 ∧ v.2.isSome = true ∧ w.2.isSome = true ∧
     (match patchCheck w.1 (fwPub h) (w.2.getD []) with | .error c => decide (c = 6) | .ok _ => false) = true) := by decide +kernel

/-- Outcomes of the tests of step 5, over the firmware that the slot gave; without it, its check value is another. -/
theorem wit_bist :
    (let s := { bootS 4 5 0 [] with boot := { State.bootReset with step := 4 } }
     let t := { s with boot := { s.boot with crc := 1 } }
     (fwSound (marchTest { s with boot := { s.boot with crc := crc32c [] } }) = true ∧ tarnSound (marchTest s) 62 = true ∧
      tarnSound (marchTest s) 63 = true ∧ fwSound (marchTest t) = false ∧ s.dev ≠ .safeHold) ∧
     (0x8000000000000000 : BitVec 64) &&& 0xF000000000000000 ≠ 0 ∧ (3 : Nat) < 62 ∧ (3 : Nat) ≠ 60) := by decide +kernel

/-- The firmware commands over a record whose active slot is A or B, with the flash in use or not. -/
def fwS (code plen : Nat) (ps : List Word) (active : Nat) (ws : List Word) : State :=
  let s := asks { bootS 3 5 0 ws with dev := .maintenance } ses code plen ps
  { s with boot := { State.bootReset with step := 7, record := some (recWs 7 active 3 0xFF) } }
theorem wit_firmware :
    ([0#32, 1, 2].all fun k =>
      let s := fwS 0x51 12 [k, 0x3FFFC, 0xAABBCCDD] 0 []
      decide ((param s 2 0).toNat = k.toNat ∧ flashBusy s = false ∧ flashBusy { s with flash := some (.erase 0) } = true ∧
        (isRunning s k.toNat || isActive s k.toNat) = decide (k ≠ 1) ∧ isActive s k.toNat = decide (k = 0) ∧
        (param s 2 1).toNat % 4 = 0 ∧ (param s 2 1).toNat + (cmdLen s 2 - 8) ≤ 0x40000)) = true ∧
    (let s := fwS 0x52 12 [1, 0x40000, 0] 0 []
     (param s 2 1).toNat % 4 = 0 ∧ 0x40000 < (param s 2 1).toNat + (cmdLen s 2 - 8)) ∧
    (param (fwS 0x52 12 [1, 2, 0] 0 []) 2 1).toNat % 4 ≠ 0 ∧
    (rb (fwS 0x55 0 [] 0 []) Reg.idBoot 1 = false ∧ rb (sb (fwS 0x55 0 [] 0 []) Reg.idBoot 1 true) Reg.idBoot 1 = true) ∧
    (match (slotCheck (fwS 0x53 4 [0] 1 []) false).2 with | .error n => decide (n = 6) | .ok _ => false) = true ∧
    (isActive (fwS 0x54 4 [0] 1 imageWs) 0 = false) ∧
    (let ops : List FlashOp := [.erase 0x1000, .program 0x1000 [1, 2]]
     let s := { cfgS with flash := some (.erase 0x1000), waits := [⟨2, .flash ops none, none⟩] }
     s.flash = some (.erase 0x1000) ∧ cfgS.flash = none ∧ s.wspStopped = false ∧ s.waits = [⟨2, .flash ops none, none⟩]) ∧
    (flashRead (bootS 3 5 0 imageWs) 0x10000 4).2 = some [0x53, 0x4C, 0x46, 0x57] ∧ ([0x53, 0x4C] : List Byte) ≠ [0x53, 0x4D] := by decide +kernel
theorem wit_firmware_image : (match (slotCheck (fwS 0x53 4 [0] 1 imageWs) false).2 with | .ok _ => true | .error _ => false) = true := by
  decide +kernel

/-! ### Witnesses: power, watchdog, the debug port, the step -/

/-- The plan with Application 0 Non-Vital on Grove 0, at an accepted supply level. -/
def levelS (l : Nat) : State := wf (wf (sb (runS 0 0 none) Reg.pwrGstat 0 true) Reg.pwrVstat 1 0 l) Reg.pwrVstat 3 2 l
/-- Grove 5 with its power as given; PWR_GOK rose at `a`, PWR_GEN at `b`. -/
def groveS (up gen gok on' trans : Bool) (a b : Dbl) : State :=
  let s := sb (sb cfgS Reg.pwrGstat 5 on') Reg.pwrGstat 21 trans
  { s with pwr := { s.pwr with
      upReq := setGb s.pwr.upReq 5 up, gen := setGb s.pwr.gen 5 gen, gok := setGb s.pwr.gok 5 gok,
      gokRise := [(5, some a)], genRise := [(5, some b)] } }

theorem wit_PowerAndWatchdog :
    ([(3, 3), (2, 2), (1, 1), (0, 0), (3, 2), (3, 1), (3, 0), (2, 1), (1, 0), (1, 2)].all fun (x : Nat × Nat) =>
      decide (vmonLevel (levelS x.1) = x.1 ∧ (levelS x.1).dev = .config ∧ (levelS x.1).flt.length < 64 ∧ rb (levelS x.1) Reg.pwrVstat 4 = false)) = true ∧
    ((grv (levelS 3) 0).glade.map (·.app) = some 0 ∧ appIsVital (levelS 3) 0 = false) ∧
    (let s := wr (sb (levelS 1) Reg.pwrGstat 5 false) (Reg.grvMode + 5) 2
     isSplit s 5 = true ∧ gated s 5 = true ∧ vmonLevel s ≤ 1) ∧ rb (sb (levelS 0) Reg.pwrVstat 4 true) Reg.pwrVstat 4 = true ∧
    (cfgS.pwr.lossAt = none ∧ (let t (now : Dbl) (m : Bool) := pwrS (fun p => { p with lossAt := some 50000, lossSent := m, marked := m }) now
      (t 72000 false).pwr.lossAt = some 50000 ∧ 50000 + 22000 ≤ (t 72000 false).tb.now.toNat ∧
      (t 50001 true).pwr.lossSent = true ∧ (t 50001 true).pwr.marked = true)) ∧
    (let s := sb (groveS false true true true false 0 0) Reg.pwrGctl 5 true
     grvIdle s 5 = true ∧ rb s Reg.pwrGstat 5 = true ∧ rb s Reg.pwrGstat 21 = false ∧ s.pwr.upReq.getLsbD 5 = false ∧ rb s Reg.pwrGctl 5 = true) ∧
    (grvIdle (levelS 3) 0 = false ∧ rb cfgS Reg.pwrGctl 5 = false ∧ 1 < vmonLevel cfgS) ∧
    (let s := groveS true false false false false 0 0
     s.pwr.upReq.getLsbD 5 = true ∧ s.pwr.gen.getLsbD 5 = false ∧ s.pwr.gok.getLsbD 5 = false) ∧
    ((groveS false false true false true 0 0).pwr.gok.getLsbD 5 = true ∧ (groveS false false true false true 0 0).pwr.gen.getLsbD 5 = false ∧
      (groveS false true true true false 0 0).pwr.gen.getLsbD 5 = true ∧ (groveS false true true true false 0 0).wspStopped = false) ∧
    ([(49500, true), (49501, false)].all fun (x : Dbl × Bool) =>
      let s := groveS true true true false true x.1 0
      decide (Sparse.get none s.pwr.gokRise 5 = some x.1 ∧ s.pwr.gen.getLsbD 5 = true ∧ s.pwr.gok.getLsbD 5 = true ∧ rb s Reg.pwrGstat 5 = false ∧
        (x.1.toNat + 500 ≤ s.tb.now.toNat ↔ x.2 = true))) = true ∧
    ([(30000, true), (30001, false)].all fun (x : Dbl × Bool) =>
      let s := groveS true true false false true 0 x.1
      decide (Sparse.get none s.pwr.genRise 5 = some x.1 ∧ s.pwr.gen.getLsbD 5 = true ∧ s.pwr.gok.getLsbD 5 = false ∧ rb s Reg.pwrGstat 5 = false ∧
        s.wspStopped = false ∧ (x.1.toNat + 20000 ≤ s.tb.now.toNat ↔ x.2 = true))) = true ∧
    (rb cfgS Reg.wdiStat 2 = false ∧ rb (sb cfgS Reg.wdiStat 2 true) Reg.wdiStat 2 = true) ∧
    (let pcs := (List.range 33).map fun k => BitVec.ofNat 32 k
     ({ cfgS with frozen := some pcs }).frozen = some pcs ∧ ({ cfgS with frozen := some pcs }).captured = false ∧ cfgS.frozen = none) := by
  decide +kernel

/-- A state with a debug level granted, and one whose Grove 0 is halted. -/
def atLvl (s : State) (l : Nat) : State := { s with dbgSt := { s.dbgSt with granted := l } }
def haltedS (s : State) : State := putGrv (atLvl s 2) 0 { grv s 0 with halted := true }
/-- A device with debug key words 9 to 16, levels 3 in service, and DBG_STAT as given. -/
def keyS (st : Word) : State :=
  dbgWr { cfgS with fuse := (0x10B, 0xC) :: (List.range 8).map fun k => (0x140 + k, BitVec.ofNat 32 (k + 9)) } 0 st
/-- The response to its first challenge, for level 2. -/
def answerS : State :=
  let bs := hmac256 (fuseBytes (keyS 0) 0x140 8) (wordsBytes [0, 0, 0, 0] ++ [2])
  (List.range 8).foldl (fun s k => dbgWr s (8 + k) (bytesVal ((bs.drop (4 * k)).take 4))) (keyS 0)
/-- Engine 0 of the halted Grove fed the instruction of the bytes given. -/
def fed (s : State) (v : Word) : Option (Nat × EM Unit) :=
  let b (k : Nat) : Byte := (dbgRd s 0x015).extractLsb' (8 * k) 8
  feedInsn (dbgEng s) (b 0) (b 1) (bytesWord (b 1) (b 2) (b 3) (v.extractLsb' 0 8))
/-- Master 46 at an address, with DBG_MCTL, and with access to T1. -/
def memS (a ctl : Word) : State := dbgWr (dbgWr (atLvl (opened dataS 46 [1]) 2) 0x20 a) 0x21 ctl

theorem wit_debug_levels :
    (({ cfgS with dev := .off }).dev = .off ∧ dbgLevel cfgS = 0 ∧ dbgLevel (atLvl cfgS 1) = 1 ∧ dbgLevel (atLvl cfgS 2) = 2) ∧
    ([3, 4, 5, 6, 7].all fun v => decide (bit v 2 = (v ≠ 3) ∧ min 2 (fld v 1 0) = if v = 4 then 0 else if v = 5 then 1 else if v = 6 then 2 else 2)) = true ∧
    ([(0, false), (0x10000, false), (0x20000, false), (0xFF0000, false), (8, true)].all fun (x : Word × Bool) =>
      decide (bit (dbgRd (keyS x.1) 0) 3 = x.2 ∧ fld (dbgRd (keyS x.1) 0) 23 16 = x.1.toNat / 65536)) = true ∧
    ({ cfgS.dbgSt with lockEnd := some 50000 }).lockEnd = some 50000 ∧ (50000#64).toNat ≤ cfgS.tb.now.toNat ∧ cfgS.tb.now.toNat < (50001#64).toNat := by
  decide +kernel
theorem wit_debug_answer : (∃ b ∈ fuseBytes answerS 0x140 8, b ≠ 0) ∧ dbgLvlSvc answerS = 2 ∧
    hmac256 (fuseBytes answerS 0x140 8) (wordsBytes [answerS.dbgSt.counter, dbgRd answerS 2, dbgRd answerS 3, rd answerS Reg.idBootcnt] ++ [2]) =
      wordsBytes ((List.range 8).map fun w => dbgRd answerS (8 + w)) := by decide +kernel

theorem wit_DebugPort :
    (haltAllowed (atLvl (planS true) 2) 0 = true ∧ (grv (atLvl (planS true) 2) 0).halted = false ∧ grvIdle (atLvl (planS true) 2) 0 = true ∧
      grvIdle (atLvl (runS 0 0 none) 2) 0 = false ∧ haltAllowed (atLvl (runS 0 0 none) 2) 0 = true ∧
      haltAllowed (sb (atLvl cfgS 2) Reg.grvFence 0 true) 0 = false ∧ (grv (haltedS cfgS) 0).halted = true) ∧
    (let s := putGrv (runS 0 0 none) 0 { grv (runS 0 0 none) 0 with haltReq := true }
     (grv s 0).haltReq = true ∧ (grv s 0).halted = false) ∧
    ([Dev.config, .safeHold, .maintenance, .run].all fun d =>
      let s := { atLvl cfgS 2 with dev := d, devHalt := true }
      decide (dbgLevel s = 2 ∧ s.dev = d ∧ s.devHalt = true ∧ s.bnd.phase = .idle ∧ s.safeReq = none)) = true ∧
    (({ cfgS with devHalt := true, safeReq := some 5 }).safeReq = some 5 ∧ cfgS.devHalt = false) ∧
    ([3#4, 6, 7].all fun p =>
      let s := { atLvl cfgS 2 with dev := .halted, prevDev := p }
      decide (dbgLevel s = 2 ∧ s.dev = .halted ∧ s.prevDev = p ∧ rb s Reg.pwrVstat 4 = false ∧ rb s Reg.wdiStat 2 = false)) = true := by decide +kernel
theorem wit_debug_feeds :
    (let s := dbgWr (haltedS dataS) 0x015 0x10
     engHalted s (dbgEng s) = true ∧ bit (0x900 : Word) 11 = true ∧ fld (0x900 : Word) 10 8 = 1 ∧ fld (0xA00 : Word) 10 8 = 2 ∧
       engHalted dataS (dbgEng dataS) = false ∧ (fed s 0x900).map (·.1) = some 1 ∧ (fed (dbgWr s 0x015 0xFF) 0x900).isNone = true ∧
       (match fed s 0x900 with
        | some (n, body) => match body.run (feedStart (dbgWr s 0x016 0x100) 0 n) with | .ok _ => true | .error _ => false
        | none => false) = true ∧
       (let u := dbgWr (haltedS (on (worker []))) 0x015 0x10
        match fed u 0x900 with
        | some (n, body) => match body.run (feedStart (dbgWr u 0x016 0x100) 0 n) with | .error (.fault _ none _) => true | _ => false
        | none => false) = true) ∧
    (let s := haltedS dataS
     (eng s (dbgEng s)).cells.length = 8 ∧ 0 < (eng s (dbgEng s)).ddepth.toNat ∧ (eng (haltedS (on (worker []))) 0).ddepth = 0) ∧
    ([true, false].all fun b =>
      let s := putEng cfgS 0 { eng cfgS 0 with term := { (eng cfgS 0).term with txFull := b, rxValid := b } }
      decide ((eng s (dbgEng s)).term.txFull = b ∧ (eng s (dbgEng s)).term.rxValid = b)) = true := by decide +kernel
theorem wit_debug_memory :
    (fld (dbgRd (memS 0x5A00 0x19) 0x21) 1 0 = 1 ∧
      (let s := memS 0x80020010 0x18
       fld (dbgRd s 0x021) 1 0 = 0 ∧ fld (dbgRd s 0x021) 3 2 = 2 ∧ bit (dbgRd s 0x21) 4 = true ∧ placeOf 0x80020010 = .tarn 1 4 ∧
       checkMem s (reqOf s 46) 0x80020010 needR spData = none ∧ checkMem s (reqOf s 46) 0x80020010 needW spData = none ∧ tarnUp s 1 = true ∧
       tarnCls s 1 4 = .good ∧ bufIndex s 1 4 = none ∧ (let u := pwrS (fun p => { p with dead := 1 }) 0
        (checkMem u (reqOf u 46) 0x80020010 needR spData).isSome = true))) := by decide +kernel
theorem wit_debug_io :
    (let s := opened cfgS 46 [0x5A]
     let u := regs (opened cfgS 46 ((List.range 32).map (· + 0x50))) [(Reg.jrnStat, 0x10), (Reg.jrnHead, 4032)]
     (match ioPut s (reqOf s 46) Reg.tbCtl 1 false with | .done _ => true | _ => false) = true ∧
       (match ioPut u (reqOf u 46) 258 1 false with | .full _ => true | _ => false) = true) := by decide +kernel
theorem wit_debug_registers :
    ([(0, 8), (8, 24), (0xFFFFFFF8, 64)].all fun (x : Word × Word) => decide (8 ≤ x.2.toNat ∧
      ((0x1000#32 &&& 0xFFFFFFF8#32) + BitVec.ofNat 32 (if x.1.toNat + 8 ≤ x.2.toNat then x.1.toNat else 0)).toNat < 0x80000000)) = true ∧
    ((chan (chanS 1 0) 2).st = 1 ∧ (chan (chanS 2 0) 2).st ≠ 1 ∧ (0x1400 + 0x1000 * 2 + 4 * 255 : Nat) < 0xC000) := by decide +kernel

/-- The invariant holds where a step goes on: with a command in front, and with none. -/
theorem wit_StepKeepsInvariant :
    (let s := { dataS with pending := [.nop 0, .grovePowerUp 3] }
     s.Inv ∧ s.pending = .nop 0 :: [.grovePowerUp 3] ∧ (match step s with | .next _ => true | _ => false) = true) ∧
    (cfgS.Inv ∧ cfgS.pending = [] ∧ (match step cfgS with | .next _ => true | _ => false) = true) := by
  refine ⟨?_, ?_⟩
  · unfold State.Inv; decide +kernel
  · unfold State.Inv; decide +kernel

/-! ### Small tests, with results from the manual's worked examples -/

/-- Engine 0 after one command: the top cells, and C, V, Z, N. -/
def engOf (o : Host.Outcome State Fault Refusal) : Engine := match o with | .next t => eng t 0 | _ => State.engReset
def shows (o : Host.Outcome State Fault Refusal) (cs : List Word) (c v z n : Bool) : Bool :=
  let x := engOf o
  decide (x.cells.take cs.length = cs) && (bit x.stat stC == c) && (bit x.stat stV == v) && (bit x.stat stZ == z) && (bit x.stat stN == n)
def w2 (a b : Word) : State := on (worker [b, a])

/-- The shifts of the example after R153, from 0x8000_0001 with C = 0. -/
theorem test_shl : ([(1, 2, true, false), (32, 0, true, true), (33, 0, false, true), (0xFFFFFFFF, 0, false, true)].all
    fun (x : Word × Word × Bool × Bool) => shows (exec (.shl 0) (w2 0x80000001 x.1)) [x.2.1] x.2.2.1 false x.2.2.2 false) = true := by decide +kernel
theorem test_shr_32 : shows (exec (.shr 0) (w2 0x80000001 32)) [0] true false true false = true := by decide +kernel
theorem test_sar : (shows (exec (.sar 0) (w2 0x80000001 31)) [0xFFFFFFFF] false false false true &&
    shows (exec (.sar 0) (w2 0x80000001 40)) [0xFFFFFFFF] true false false true) = true := by decide +kernel
theorem test_rol_36 : shows (exec (.rol 0) (w2 0x80000001 36)) [0x18] false false false false = true := by decide +kernel
theorem test_shri_0 : shows (exec (.shri 0 0) (on (worker [0x80000001]))) [0x80000001] false false false true = true := by decide +kernel

/-- The divisions of the example after R155: the most negative number by -1, -7 by 2, and -7 by 0. -/
theorem test_divmod_overflow : (shows (exec (.divmod 0) (w2 0x80000000 0xFFFFFFFF)) [0x80000000, 0] false true false true &&
    bit (engOf (exec (.divmod 0) (w2 0x80000000 0xFFFFFFFF))).stat stVS) = true := by decide +kernel
theorem test_divmod_signs : shows (exec (.divmod 0) (w2 0xFFFFFFF9 2)) [0xFFFFFFFD, 0xFFFFFFFF] false false false true = true := by decide +kernel
theorem test_divmod_zero : (shows (exec (.divmod 0) (w2 0xFFFFFFF9 0)) [0x80000000, 0xFFFFFFF9] false false false true &&
    bit (engOf (exec (.divmod 0) (w2 0xFFFFFFF9 0))).stat stDZ) = true := by decide +kernel

/-- R148: signed overflow of a sum, a borrow, and the literals and doubles of the example after R169. -/
theorem test_add_overflow : shows (exec (.add 0) (w2 0x7FFFFFFF 1)) [0x80000000] false true false true = true := by decide +kernel
theorem test_sub_borrow : shows (exec (.sub 0) (w2 3 5)) [0xFFFFFFFE] true false false true = true := by decide +kernel
theorem test_dadd : shows (exec (.dadd 0) (on (worker [1, 0, 0xFFFFFFFF, 1]))) [0, 2] false false false false = true := by decide +kernel
theorem test_mul_overflow : shows (exec (.mul 0) (w2 0x10000 0x8000)) [0x80000000] false true false true = true := by decide +kernel
/-- BCD: the manual's 3 - 5, the counter of the example after R158, and a digit above 9. -/
theorem test_bsub : let o := exec (.bsub 0) (w2 3 5)
    (engOf o).cells.head? = some 0x99999998 ∧ bit (engOf o).stat stDC = true := by decide +kernel
theorem test_dadj : (engOf (exec (.dadj 0) (on (worker [0x19A])))).cells.head? = some 0x200 := by decide +kernel
theorem test_dadj_carry : let o := exec (.dadj 0) (on (worker [0x9999999A]))
    (engOf o).cells.head? = some 0 ∧ bit (engOf o).stat stDC = true ∧ bit (engOf o).stat stZ = true := by decide +kernel
theorem test_badd_format : let o := exec (.badd 0) (w2 0x1A 1)
    (engOf o).cells.head? = some 0xFFFFFFFF ∧ bit (engOf o).stat stBF = true := by decide +kernel

/-- The check value of CRC-32C: the digits 1 to 9 give 0xE3069283 (R374). -/
theorem test_crc32c : crcOf crc32cParam ((List.range 9).map fun k => BitVec.ofNat 8 (0x31 + k)) = 0xE3069283 := by decide +kernel

/-- The worked bit address in R89: Application 7 with BASEW 0x100 and OFFW 0x40, bit 0x2A13, is bit 19 of tarn word 0x90. -/
theorem test_bit_place :
    (let s := regs cfgS [(Reg.imgInt + 7, 0x800082), (Reg.imgInl + 7, 0x600040)]
     match bitPlace s 7 .whole 0x2A13 with
     | some (.seg k t w i) => decide (k = 0 ∧ t = 2 ∧ w = 0x90 ∧ i = 19)
     | _ => false) = true := by decide +kernel

/-- The example after R136: pushing a 33rd cell spills 8 words below DSP, the deepest highest. -/
theorem test_spill :
    let t := match exec (.lit8 0 0x21) (on (worker ((List.range 32).map fun k => BitVec.ofNat 32 (32 - k)))) with | .next t => t | _ => State.reset
    (eng t 0).cells.length = 25 ∧ (eng t 0).cells.head? = some 0x21 ∧ (eng t 0).cells.getLast? = some 9 ∧ (eng t 0).ddepth = 33 ∧
      (eng t 0).dsp = 0x80020FE0 ∧ tarnRaw t 1 0x3FF = 1 ∧ tarnRaw t 1 0x3F8 = 8 := by decide +kernel

/-- The journal of the example after R398: with 4032 entries used a write of TARN_OWN17 is refused and counted; JRN_ACK of 0x903F leaves
3936, and the write made again is taken. -/
theorem test_journal_full :
    let s := regs (sb (opened cfgS 32 [0x54, 0x5D, 0x5C]) Reg.jrnStat 4 true) [(Reg.jrnTail, 0x8FE0), (Reg.jrnHead, 0x9FA0)]
    let t := (wspPut s (Reg.tarnOwn + 17) 0x20).state
    let u := (wspPut t Reg.jrnAck 0x903F).state
    let v := (wspPut u (Reg.tarnOwn + 17) 0x20).state
    jrnUsedN s = 4032 ∧ rd t (Reg.tarnOwn + 17) = rd s (Reg.tarnOwn + 17) ∧ rd t Reg.jrnHead = 0x9FA0 ∧ rd u Reg.jrnTail = 0x9040 ∧
      jrnUsedN u = 3936 ∧ rd v Reg.jrnHead = 0x9FA1 := by decide +kernel

/-- Frames that have no room in the example after R204: the entry goes to the lifeboat, word 3 of which shows BUSY, reason 1 and vector 4. -/
theorem test_lifeboat :
    let x := { worker [] with
      pc := 0x5230, stat := 0x104
      ers := [(0x14, 0x80020400), (0x15, 0x80020400), (0x16, 0x80020808), (0x17, 0x80020804), (0x19, 0x10000), (0x1B, 0x80020FF0)] }
    let t := match exec (.call 0 0x100) (on x) with | .next t => t | _ => State.reset
    (tarnRaw t 1 0x3FC, tarnRaw t 1 0x3FD, tarnRaw t 1 0x3FE, tarnRaw t 1 0x3FF) = (0x5230, 0x104, 0x80020808, 0x80000014) ∧
      (eng t 0).pc = 0x10040 ∧ (eng t 0).stat = 0x204 := by decide +kernel

end Sys2Proof.Tests
end

section
/-! PROOFS. The machine after reset, and the reads of IO registers that clear or capture. -/

namespace Sys2Proof.Machine

/-- Settles O59: each part is read off the state after reset; its memory lists nothing. -/
theorem resetState : Obligations.ResetState := by
  unfold Obligations.ResetState
  have hinv : State.reset.Inv := ⟨wf_reset, Nat.zero_le _, Nat.zero_le _⟩
  have hsrc : rd State.reset Reg.idRstsrc = 1 := by decide
  exact ⟨hinv, rfl, rfl, rfl, rfl, hsrc, rfl, rfl, rfl, rfl, fun _ => rfl, fun _ => rfl⟩

/-! ### Reads of IO registers (R12, R22) -/

@[simp] theorem reqOf_master (s : State) (m : Nat) : (reqOf s m).master = m := by
  unfold reqOf
  split
  · next h => simp [engReq, show ¬ m ≥ 32 by omega]
  · split
    · rfl
    · split
      · next h => exact h ▸ rfl
      · rfl

/-- The value that a block computes for a register, if it does not show the stored word. -/
def blockRead (s : State) (q : Req) (a : Nat) : Option Word :=
  match blockOf a with
  | 0x50 => icuRead s q a
  | 0x51 => cvuRead s q a
  | 0x52 => schedRead s q a
  | 0x54 => tarnRead s a
  | 0x55 => cmxRead s a
  | 0x56 => actRead s a
  | 0x57 => jrnRead s a
  | 0x58 => shrRead s a
  | 0x59 => grvRead s a
  | 0x5A => fltRead s a
  | 0x5B => tbRead s q a
  | 0x5D => attReadReg s a
  | 0x5E => pwrRead s a
  | 0x5F => dbgvRead s q a
  | 0x60 => idRead s a
  | _ => none

theorem ioValue_eq {a : Nat} {r : RegRow} (s : State) (q : Req) (h : rowOf a = some r) :
    ioValue s q a = (blockRead s q a).getD (rd s (ioKey s a) &&& ~~~ BitVec.ofNat 32 r.wo) := by
  unfold ioValue
  rw [h]
  show (match blockRead s q a with | some v => v | none => _) = _
  cases blockRead s q a <;> rfl

/-- The registers of the blocks with clear-on-read counters whose value is not the stored word. -/
def computed (a : Nat) : Bool :=
  inRange a Reg.icuPend 8 || inRange a Reg.icuEn 8 || inRange a Reg.icuMine 8 || isGen a || isVit a ||
  decide (a = Reg.schedCych) || inRange a Reg.schedWcyc 16 || inRange a Reg.schedWbeat 16 ||
  inRange a Reg.tarnOwn 64 || decide (a = Reg.tarnRpdat) || inRange a Reg.cmxPond 16 || inRange a Reg.actEnt 32 ||
  decide (a = Reg.jrnUsed) || decide (a = Reg.jrnStat) || decide (a = Reg.shrStat) || decide (a = Reg.shrPstata) ||
  decide (a = Reg.shrPstatb) || decide (a = Reg.shrReach0) || decide (a = Reg.shrReach1) || decide (a = Reg.shrRoster0) ||
  decide (a = Reg.shrRoster1) || inRange a Reg.grvMode 16 || decide (a = Reg.grvErdat) || inRange a Reg.fltRec 8 ||
  decide (a = Reg.tbNowl) || decide (a = Reg.tbNowh) || decide (a = Reg.attListenst) || inRange a Reg.attTxst 16 ||
  decide (a = Reg.pwrVstat) || decide (a = Reg.dbgvRx) || decide (a = Reg.dbgvTst) || decide (a = Reg.ipver) ||
  decide (a = Reg.ipcfg) || decide (a = Reg.idState) || decide (a = Reg.idUromid)

theorem blockRead_none {a : Nat} (h : computed a = false) (s : State) (q : Req) : blockRead s q a = none := by
  simp only [computed, inRange, Bool.or_eq_false_iff, decide_eq_false_iff_not] at h
  unfold blockRead
  split <;>
    simp [icuRead, cvuRead, schedRead, tarnRead, cmxRead, actRead, jrnRead, shrRead, grvRead, fltRead, tbRead, attReadReg, pwrRead,
      dbgvRead, idRead, inRange, h]

theorem ioValue_stored {a : Nat} {r : RegRow} (s : State) (q : Req) (h : rowOf a = some r) (hwo : r.wo = 0)
    (hc : computed a = false) (hb : banked a = false) : ioValue s q a = rd s a := by
  rw [ioValue_eq s q h, blockRead_none hc, hwo]
  simp only [Option.getD_none, ioKey, hb]
  exact BitVec.and_allOnes

/-- A stored register whose clear-on-read bits are those of `mask` (R12), as the register map decides it. -/
abbrev ClearsOnRead (a : Nat) (mask : Word) : Prop :=
  ((rowOf a).any fun r => decide (r.wo = 0 ∧ r.rc ≠ 0 ∧ BitVec.ofNat 32 r.rc = mask)) = true ∧
  computed a = false ∧ banked a = false ∧ a ≠ Reg.schedCycl

theorem ClearsOnRead.row {a : Nat} {mask : Word} (h : ClearsOnRead a mask) :
    ∃ r, rowOf a = some r ∧ r.wo = 0 ∧ r.rc ≠ 0 ∧ BitVec.ofNat 32 r.rc = mask := by
  obtain ⟨hrow, -⟩ := h
  cases hr : rowOf a with
  | none => simp [hr] at hrow
  | some r => exact ⟨r, rfl, by simpa [hr] using hrow⟩

theorem ioValue_clearsOnRead {a : Nat} {mask : Word} (h : ClearsOnRead a mask) (s : State) (q : Req) : ioValue s q a = rd s a := by
  obtain ⟨r, hr, hwo, -⟩ := h.row
  obtain ⟨-, hc, hb, -⟩ := h
  exact ioValue_stored s q hr hwo hc hb

theorem ioAfterRead_clearsOnRead {a : Nat} {mask : Word} (h : ClearsOnRead a mask) (s : State) (q : Req) :
    ioAfterRead s q a = wr s a (rd s a &&& ~~~ mask) := by
  obtain ⟨r, hr, -, hrc, hm⟩ := h.row
  obtain ⟨-, hc, -, hx⟩ := h
  simp only [computed, Bool.or_eq_false_iff, decide_eq_false_iff_not] at hc
  simp [ioAfterRead, hr, hrc, hm, hc, hx]

/-- A row that is a read of register `a` reads it as R22 says. -/
theorem readOf_regRead {c : Instr} {m a : Nat} {val : Req → State → Word} {aft : Req → State → State}
    (hc : ∀ s, exec c s = .next (regRead s m a)) (hv : ∀ s, ioValue s (reqOf s m) a = val (reqOf s m) s)
    (ha : ∀ s, ioAfterRead s (reqOf s m) a = aft (reqOf s m) s) : ReadOf c m a val aft := by
  intro s
  refine ⟨fun hm => ?_, fun d hm hd => ?_, fun hm hd => ?_⟩
  · simp [hc, regRead, hm]
  · simp [hc, regRead, hm, hd]
  · simp [hc, regRead, hm, hd, hv, ha]

theorem readOf_clearsOnRead {c : Instr} {m a : Nat} {mask : Word} (hc : ∀ s, exec c s = .next (regRead s m a))
    (h : ClearsOnRead a mask) : ReadOf c m a (fun _ s => rd s a) (fun _ s => wr s a (rd s a &&& ~~~ mask)) :=
  readOf_regRead hc (fun _ => ioValue_clearsOnRead h _ _) (fun _ => ioAfterRead_clearsOnRead h _ _)

theorem clearsOnRead_icuEmpty : ∀ t : Fin 33, ClearsOnRead (Reg.icuEmpty + t.val) 0xFFFF#32 := by decide
theorem clearsOnRead_schedOvrcnt : ∀ n : App, ClearsOnRead (Reg.schedOvrcnt + n.val) 0xFFFF#32 := by decide
theorem clearsOnRead_attDrop : ∀ p : Grv, ClearsOnRead (Reg.attDrop + p.val) 0xFFFF#32 := by decide

/-- R39: the read of TB_NOWL captures the high word for its master. -/
theorem readOf_tbNowl (m : Mst) : ReadOf (.tbNowlRead m) m.val Reg.tbNowl (fun _ s => lo32 s.tb.now)
    (fun _ s => { s with tb := { s.tb with capH := Sparse.set none s.tb.capH m.val (some (hi32 s.tb.now)) } }) :=
  readOf_regRead (fun _ => rfl) (fun _ => rfl) (fun s => by simp [ioAfterRead])

/-- R52: the read of SCHED_CYCL captures the high word for its master. -/
theorem readOf_schedCycl (m : Mst) : ReadOf (.schedCyclRead m) m.val Reg.schedCycl (fun _ s => rd s Reg.schedCycl)
    (fun _ s => { s with tb := { s.tb with cycH := Sparse.set none s.tb.cycH m.val (some (rd s Reg.schedCych)) } }) :=
  readOf_regRead (fun _ => rfl) (fun _ => ioValue_stored _ _ rfl rfl (by decide) (by decide))
    (fun s => by simp [ioAfterRead, Reg.schedCycl, Reg.tbNowl])

/-- R486: an engine's read of DBGV_RX empties its receive word. -/
theorem readOf_dbgvRx (m : Mst) : ReadOf (.dbgvRxRead m) m.val Reg.dbgvRx
    (fun _ s => if m.val < 32 ∧ (eng s m.val).term.rxValid then (eng s m.val).term.rx else 0)
    (fun _ s => if m.val < 32 then onEng s m.val fun x => { x with term := { x.term with rxValid := false } } else s) := by
  refine readOf_regRead (fun _ => rfl) (fun s => ?_) (fun s => ?_)
  · have h : blockRead s (reqOf s m) Reg.dbgvRx = dbgvRead s (reqOf s m) Reg.dbgvRx := rfl
    rw [ioValue_eq s _ (a := Reg.dbgvRx) rfl, h]
    simp [dbgvRead]
  · simp [ioAfterRead, Reg.dbgvRx, Reg.schedCycl, Reg.tbNowl, putTerm, onEng]

/-- Settles O35: every register of the list is stored and clears the bits of its mask; the three other reads are captures. -/
theorem readAndClear : Obligations.ReadAndClear := by
  unfold Obligations.ReadAndClear
  intro m
  refine ⟨fun c a mask h => ?_, readOf_tbNowl m, readOf_schedCycl m, readOf_dbgvRx m⟩
  obtain ⟨hc, hr⟩ : (∀ s, exec c s = .next (regRead s m a)) ∧ ClearsOnRead a mask := by
    rcases h with ⟨rfl, rfl, rfl⟩ | ⟨⟨t, rfl, rfl⟩, rfl⟩ | ⟨⟨n, rfl, rfl⟩, rfl⟩ | ⟨⟨p, rfl, rfl⟩, rfl⟩ |
      ⟨⟨rfl, rfl⟩ | ⟨rfl, rfl⟩, rfl⟩ | h
    · exact ⟨fun _ => rfl, by decide⟩
    · exact ⟨fun _ => rfl, clearsOnRead_icuEmpty t⟩
    · exact ⟨fun _ => rfl, clearsOnRead_schedOvrcnt n⟩
    · exact ⟨fun _ => rfl, clearsOnRead_attDrop p⟩
    · exact ⟨fun _ => rfl, by decide⟩
    · exact ⟨fun _ => rfl, by decide⟩
    · rcases h with ⟨rfl, rfl, rfl⟩ | ⟨rfl, rfl, rfl⟩ | ⟨rfl, rfl, rfl⟩ | ⟨rfl, rfl, rfl⟩ | ⟨rfl, rfl, rfl⟩ | ⟨rfl, rfl, rfl⟩ |
        ⟨rfl, rfl, rfl⟩ | ⟨rfl, rfl, rfl⟩ | ⟨rfl, rfl, rfl⟩ | ⟨rfl, rfl, rfl⟩ <;> exact ⟨fun _ => rfl, by decide⟩
  exact readOf_clearsOnRead hc hr

end Sys2Proof.Machine
end

section
/-! PROOFS. Bits, fields and debug registers; the level of a debug access (R472). -/

namespace Sys2Proof.Machine

/-! ### Bits and fields of words -/

theorem bit_ofNat (n : Nat) {j : Nat} (hj : j < 32) : bit (BitVec.ofNat 32 n) j = n.testBit j := by
  simp only [bit, BitVec.getLsbD_ofNat, hj, decide_true, Bool.true_and]
theorem bit_or (v w : Word) (j : Nat) : bit (v ||| w) j = (bit v j || bit w j) := BitVec.getLsbD_or
theorem bit_and (v w : Word) (j : Nat) : bit (v &&& w) j = (bit v j && bit w j) := BitVec.getLsbD_and
theorem bit_not (w : Word) {j : Nat} (hj : j < 32) : bit (~~~ w) j = !bit w j := by
  simp only [bit, BitVec.getLsbD_not, hj, decide_true, Bool.true_and]

theorem bit_putBit {w : Word} {i j : Nat} {b : Bool} (hj : j < 32) : bit (putBit w i b) j = if j = i then b else bit w j := by
  have hm : bit (BitVec.ofNat 32 (1 <<< i)) j = decide (i = j) := by
    rw [bit_ofNat _ hj, Nat.one_shiftLeft, Nat.testBit_two_pow]
  unfold putBit
  by_cases h : j = i
  · subst h; cases b <;> simp [bit_or, bit_and, bit_not _ hj, hm]
  · cases b <;> simp [bit_or, bit_and, bit_not _ hj, hm, h, Ne.symm h]

theorem bit_putFld {w : Word} {hi lo v j : Nat} (hl : lo ≤ hi) (hj : j < 32) :
    bit (putFld w hi lo v) j = if lo ≤ j ∧ j ≤ hi then v.testBit (j - lo) else bit w j := by
  simp only [putFld, bit_or, bit_and, bit_not _ hj, bit_ofNat _ hj, Nat.testBit_shiftLeft, Nat.testBit_two_pow_sub_one,
    Nat.testBit_mod_two_pow, ge_iff_le]
  by_cases h1 : lo ≤ j
  · by_cases h2 : j ≤ hi
    · simp [h1, h2, show j - lo < hi - lo + 1 by omega]
    · simp [h1, h2, show ¬ j - lo < hi - lo + 1 by omega]
  · simp [h1]

theorem testBit_fld (w : Word) (hi lo k : Nat) : (fld w hi lo).testBit k = (decide (k < hi - lo + 1) && bit w (lo + k)) := by
  simp [fld, bit, Nat.testBit_mod_two_pow, Nat.testBit_shiftRight, BitVec.getLsbD]

/-- Two words agree in a field where they agree in its bits. -/
theorem fld_congr {w x : Word} {hi lo : Nat} (h : ∀ j, lo ≤ j → j ≤ hi → bit w j = bit x j) (hl : lo ≤ hi) : fld w hi lo = fld x hi lo := by
  refine Nat.eq_of_testBit_eq fun k => ?_
  rw [testBit_fld, testBit_fld]
  by_cases hk : k < hi - lo + 1
  · rw [h (lo + k) (by omega) (by omega)]
  · simp [hk]

theorem fld_putFld {w : Word} {hi lo v : Nat} (hl : lo ≤ hi) (hh : hi < 32) :
    fld (putFld w hi lo v) hi lo = v % 2 ^ (hi - lo + 1) := by
  refine Nat.eq_of_testBit_eq fun k => ?_
  rw [testBit_fld, Nat.testBit_mod_two_pow]
  by_cases hk : k < hi - lo + 1
  · rw [bit_putFld hl (by omega)]
    simp [hk, show lo + k ≤ hi by omega]
  · simp [hk]

theorem fld_putBit {w : Word} {hi lo i : Nat} {b : Bool} (hl : lo ≤ hi) (hh : hi < 32) (hi' : i < lo ∨ hi < i) :
    fld (putBit w i b) hi lo = fld w hi lo :=
  fld_congr (fun j h1 h2 => by rw [bit_putBit (by omega), if_neg (by omega)]) hl

/-! ### Debug registers -/

@[simp] theorem dbgRd_dbgWr (s : State) (a : Nat) (v : Word) : dbgRd (dbgWr s a v) a = v := by simp [dbgRd, dbgWr]
theorem dbgRd_dbgWr_ne (s : State) {a c : Nat} (v : Word) (h : c ≠ a) : dbgRd (dbgWr s a v) c = dbgRd s c := by
  simp [dbgRd, dbgWr, Sparse.get_set_of_ne _ _ _ _ h]

/-! ### Access at a level (R472) -/

theorem atLevel_off {s : State} (h : s.dev = .off) (rnw : Bool) (a need : Nat) (f : State → State) : atLevel s rnw a need f = s := by
  simp [atLevel, dbgLive, h]

theorem atLevel_below {s : State} (h : s.dev ≠ .off) {rnw : Bool} {a need : Nat} {f : State → State} (hl : dbgLevel s < need) :
    atLevel s rnw a need f = dacc s rnw a 2 0 := by
  simp [atLevel, dbgLive, h, hl, respLevel]

theorem atLevel_of_le {s : State} (h : s.dev ≠ .off) {rnw : Bool} {a need : Nat} {f : State → State} (hl : need ≤ dbgLevel s) :
    atLevel s rnw a need f = f s := by
  simp [atLevel, dbgLive, h, Nat.not_lt.mpr hl]

end Sys2Proof.Machine
end

section
/-! PROOFS. What writes of DBG_HALT and DBG_RUN leave (R476 to R481). -/

namespace Sys2Proof.Machine

/-! ### Halts, releases and WD_HOLD (R476 to R481) -/

/-- WD_HOLD's settling writes IO registers and the period to be driven, nothing else. -/
theorem holdSettle_eq (s : State) : ∃ io w, holdSettle s = { s with io := io, wdSet := w } := by
  have hflag (b : Bool) : ∃ io, sb s Reg.wdiStat 1 b = { s with io := io } := ⟨_, rfl⟩
  unfold holdSettle
  split
  · obtain ⟨io, h⟩ := hflag true
    exact ⟨io, s.wdSet, h⟩
  · split
    · obtain ⟨io, h⟩ := hflag false
      rw [h]
      exact ⟨_, _, rfl⟩
    · exact ⟨s.io, s.wdSet, rfl⟩

@[simp] theorem holdSettle_dev (s : State) : (holdSettle s).dev = s.dev := by obtain ⟨_, _, h⟩ := holdSettle_eq s; rw [h]
@[simp] theorem holdSettle_devHalt (s : State) : (holdSettle s).devHalt = s.devHalt := by obtain ⟨_, _, h⟩ := holdSettle_eq s; rw [h]
@[simp] theorem holdSettle_cause (s : State) : (holdSettle s).cause = s.cause := by obtain ⟨_, _, h⟩ := holdSettle_eq s; rw [h]
@[simp] theorem holdSettle_bnd (s : State) : (holdSettle s).bnd = s.bnd := by obtain ⟨_, _, h⟩ := holdSettle_eq s; rw [h]
@[simp] theorem holdSettle_engs (s : State) : (holdSettle s).engs = s.engs := by obtain ⟨_, _, h⟩ := holdSettle_eq s; rw [h]
@[simp] theorem holdSettle_grvs (s : State) : (holdSettle s).grvs = s.grvs := by obtain ⟨_, _, h⟩ := holdSettle_eq s; rw [h]
@[simp] theorem eng_holdSettle (s : State) (e : Nat) : eng (holdSettle s) e = eng s e := by simp [eng]
@[simp] theorem grv_holdSettle (s : State) (g : Nat) : grv (holdSettle s) g = grv s g := by simp [grv]
@[simp] theorem dbgRd_holdSettle (s : State) (a : Nat) : dbgRd (holdSettle s) a = dbgRd s a := by
  obtain ⟨_, _, h⟩ := holdSettle_eq s; rw [h]; rfl

theorem rb_sb (s : State) (a : Nat) {i j : Nat} (b : Bool) (hj : j < 32) :
    rb (sb s a i b) a j = if j = i then b else rb s a j := by
  simp [rb, sb, bit_putBit hj]

theorem rd_sb_ne (s : State) {a c : Nat} (i : Nat) (b : Bool) (h : c ≠ a) : rd (sb s a i b) c = rd s c := rd_wr_ne _ _ h
theorem rd_wf_ne (s : State) {a c : Nat} (hi lo v : Nat) (h : c ≠ a) : rd (wf s a hi lo v) c = rd s c := rd_wr_ne _ _ h

theorem rd_holdSettle (s : State) {a : Nat} (h : a ≠ Reg.wdiStat) : rd (holdSettle s) a = rd s a := by
  unfold holdSettle
  split
  · exact rd_sb_ne _ _ _ h
  · split
    · exact (rd_wf_ne _ _ _ _ h).trans (rd_sb_ne _ _ _ h)
    · rfl

theorem rb_holdSettle {s : State} (h : anyHalt s = true) : rb (holdSettle s) Reg.wdiStat 1 = true := by
  rw [holdSettle, if_pos h, rb_sb _ _ _ (by decide), if_pos rfl]

theorem anyHalt_of_grove {s : State} {g : Nat} (hg : g < 16) (h : (grv s g).halted = true ∨ (grv s g).haltReq = true) :
    anyHalt s = true := by
  have : ((List.range 16).any fun g => (grv s g).halted || (grv s g).haltReq || (grv s g).stepping) = true :=
    List.any_eq_true.mpr ⟨g, List.mem_range.mpr hg, by rcases h with h | h <;> simp [h]⟩
  simp [anyHalt, this]

theorem anyHalt_of_devHalt {s : State} (h : s.devHalt = true) : anyHalt s = true := by simp [anyHalt, h]

/-! #### The Groves that a word names -/

theorem foldl_ifBit {α : Type} (f : α → Nat → α) (v : Word) (s : α) :
    (List.range 16).foldl (fun st g => if bit v g then f st g else st) s = ((List.range 16).filter (bit v)).foldl f s :=
  List.foldl_filter.symm

/-- The word with only the bit of Grove `g` names that Grove alone, and the bits above that steer a release are 0. -/
theorem groveWord_bits : ∀ g : Grv, (List.range 16).filter (bit (BitVec.ofNat 32 (2 ^ g.val))) = [g.val] ∧
    bit (BitVec.ofNat 32 (2 ^ g.val)) 16 = false ∧ bit (BitVec.ofNat 32 (2 ^ g.val)) 17 = false := by decide
theorem stepWord_bits : ∀ g : Grv, (List.range 16).filter (bit (BitVec.ofNat 32 (2 ^ g.val) + 0x20000)) = [g.val] ∧
    bit (BitVec.ofNat 32 (2 ^ g.val) + 0x20000) 16 = false ∧ bit (BitVec.ofNat 32 (2 ^ g.val) + 0x20000) 17 = true := by decide
theorem devWord_bits : (List.range 16).filter (bit 0x10000) = [] ∧ bit 0x10000 16 = true := by decide

theorem haltWrite_grove {s : State} (hd : s.dev ≠ .off) (hl : dbgLevel s = 2) (g : Grv) :
    haltWrite s (BitVec.ofNat 32 (2 ^ g.val)) = dacc (holdSettle (haltOne s g.val)) false 0x010 0 0 := by
  obtain ⟨hg, h16, -⟩ := groveWord_bits g
  rw [haltWrite, atLevel_of_le hd (Nat.le_of_eq hl.symm)]
  simp only [foldl_ifBit, hg, h16, List.foldl_cons, List.foldl_nil]
  rfl

theorem haltWrite_device {s : State} (hd : s.dev ≠ .off) (hl : dbgLevel s = 2) :
    haltWrite s 0x10000 =
      dacc (holdSettle (if devHaltAllowed s then { s with devHalt := true } else dbgFlag s 8)) false 0x010 0 0 := by
  obtain ⟨hg, h16⟩ := devWord_bits
  rw [haltWrite, atLevel_of_le hd (Nat.le_of_eq hl.symm)]
  simp only [foldl_ifBit, hg, h16, List.foldl_nil]
  rfl

theorem runWrite_grove {s : State} (hd : s.dev ≠ .off) (hl : dbgLevel s = 2) (g : Grv) :
    runWrite s (BitVec.ofNat 32 (2 ^ g.val)) = dacc (holdSettle (releaseGrove false s g.val)) false 0x011 0 0 := by
  obtain ⟨hg, h16, h17⟩ := groveWord_bits g
  rw [runWrite, atLevel_of_le hd (Nat.le_of_eq hl.symm)]
  simp only [foldl_ifBit, hg, h16, h17, List.foldl_cons, List.foldl_nil]
  rfl

theorem runWrite_step {s : State} (hd : s.dev ≠ .off) (hl : dbgLevel s = 2) (g : Grv) :
    runWrite s (BitVec.ofNat 32 (2 ^ g.val) + 0x20000) = dacc (holdSettle (releaseGrove true s g.val)) false 0x011 0 0 := by
  obtain ⟨hg, h16, h17⟩ := stepWord_bits g
  rw [runWrite, atLevel_of_le hd (Nat.le_of_eq hl.symm)]
  simp only [foldl_ifBit, hg, h16, h17, List.foldl_cons, List.foldl_nil]
  rfl

theorem runWrite_device {s : State} (hd : s.dev ≠ .off) (hl : dbgLevel s = 2) :
    runWrite s 0x10000 = dacc (holdSettle (releaseDev s)) false 0x011 0 0 := by
  obtain ⟨hg, h16⟩ := devWord_bits
  rw [runWrite, atLevel_of_le hd (Nat.le_of_eq hl.symm)]
  simp only [foldl_ifBit, hg, h16, List.foldl_nil]
  rfl

/-! #### What a halt does to a Grove and its engines -/

@[simp] theorem grv_haltEngine (s : State) (e g : Nat) : grv (haltEngine s e) g = grv s g := (rfl)
@[simp] theorem haltEngine_dev (s : State) (e : Nat) : (haltEngine s e).dev = s.dev := (rfl)
@[simp] theorem haltEngine_devHalt (s : State) (e : Nat) : (haltEngine s e).devHalt = s.devHalt := (rfl)

/-- The engine after a halt: its reservation is cleared, and a WAIT is to run again (R138, R477). -/
theorem eng_haltEngine (s : State) (e : Nat) :
    eng (haltEngine s e) e =
      let x := if (eng s e).run = .waiting then { eng s e with run := .running, pc := (eng s e).pc - 1 } else eng s e
      { x with rsv := putBit x.rsv 0 false, foldAt := none } := by simp [haltEngine]
theorem eng_haltEngine_ne (s : State) {e f : Nat} (h : f ≠ e) : eng (haltEngine s e) f = eng s f := by
  simp [haltEngine, eng_putEng_ne _ _ h]

theorem grv_haltGrove (s : State) (g : Nat) : grv (haltGrove s g) g = { grv s g with haltReq := false, halted := true } := by
  simp [haltGrove]

/-- What a halt leaves of engine `x`. -/
def HaltedAs (x y : Engine) : Prop :=
  bit y.rsv 0 = false ∧ (x.run = .waiting → y.run = .running ∧ y.pc = x.pc - 1) ∧ (x.run ≠ .waiting → y.pc = x.pc ∧ y.cells = x.cells)

theorem haltedAs_haltEngine (s : State) (e : Nat) : HaltedAs (eng s e) (eng (haltEngine s e) e) := by
  rw [eng_haltEngine]
  by_cases h : (eng s e).run = .waiting
  · simp [HaltedAs, h, bit_putBit]
  · simp [HaltedAs, h, bit_putBit]

theorem haltedAs_haltGrove (s : State) {g e : Nat} (h : e = 2 * g ∨ e = 2 * g + 1) : HaltedAs (eng s e) (eng (haltGrove s g) e) := by
  unfold haltGrove
  generalize hs : putGrv s g _ = t
  have ht : ∀ f, eng t f = eng s f := fun f => by rw [← hs]; rfl
  rcases h with rfl | rfl
  · rw [eng_haltEngine_ne _ (by omega), ← ht]
    exact haltedAs_haltEngine t _
  · have := haltedAs_haltEngine (haltEngine t (2 * g)) (2 * g + 1)
    rwa [eng_haltEngine_ne t (by omega), ht] at this

end Sys2Proof.Machine
end

section
/-! PROOFS. The halts in force, and which operations keep them. -/

namespace Sys2Proof.Machine

/-! ### What Safe Hold and LOSS leave of the halts (R408, R418) -/

/-- The device state and every halt in force or awaited. -/
structure HaltView where
  dev : Dev
  devHalt : Bool
  flags : Nat → Bool × Bool

def HaltView.inDev (v : HaltView) (d : Dev) : HaltView := { v with dev := d }

def haltView (s : State) : HaltView := ⟨s.dev, s.devHalt, fun g => ((grv s g).halted, (grv s g).haltReq)⟩

theorem foldl_keeps {α β γ : Type} (view : α → γ) {f : α → β → α} (h : ∀ s x, view (f s x) = view s) (l : List β) (s : α) :
    view (l.foldl f s) = view s := by
  induction l generalizing s with
  | nil => rfl
  | cons x r ih => rw [List.foldl_cons, ih, h]

theorem haltView_congr {s t : State} (hd : t.dev = s.dev) (hh : t.devHalt = s.devHalt) (hg : t.grvs = s.grvs) :
    haltView t = haltView s := by simp only [haltView, grv, hd, hh, hg]

theorem rd_congr {s t : State} (h : t.io = s.io) (a : Nat) : rd t a = rd s a := by simp only [rd, h]

@[simp] theorem haltView_wf (s : State) (a hi lo v : Nat) : haltView (wf s a hi lo v) = haltView s := (rfl)
@[simp] theorem haltView_sb (s : State) (a i : Nat) (b : Bool) : haltView (sb s a i b) = haltView s := (rfl)
@[simp] theorem haltView_bump (s : State) (a hi lo k : Nat) : haltView (bump s a hi lo k) = haltView s := (rfl)

theorem haltView_putGrv {s : State} {g : Nat} {x : Grove} (h1 : x.halted = (grv s g).halted) (h2 : x.haltReq = (grv s g).haltReq) :
    haltView (putGrv s g x) = haltView s := by
  have : ∀ k, ((grv (putGrv s g x) k).halted, (grv (putGrv s g x) k).haltReq) = ((grv s k).halted, (grv s k).haltReq) := by
    intro k
    by_cases hk : k = g
    · subst hk; simp [h1, h2]
    · rw [grv_putGrv_ne _ _ hk]
  simp only [haltView, this]
  rfl

/-! #### Frames sent, commands ended, cycles discarded -/

theorem haltView_enq (s : State) (p : Port) (f : TxFrame) : haltView (enq s p f) = haltView s := by
  unfold enq
  dsimp only
  split
  · exact haltView_bump _ _ _ _ _
  · exact haltView_congr rfl rfl rfl

theorem haltView_sendVia (s : State) (p : Port) (f : TxFrame) : haltView (sendVia s p f) = haltView s := by
  unfold sendVia
  split
  · exact haltView_enq _ _ _
  · split
    · rfl
    · exact haltView_enq _ _ _

theorem haltView_ite {c : Prop} [Decidable c] {t u : State} {v : HaltView} (ht : haltView t = v) (hu : haltView u = v) :
    haltView (if c then t else u) = v := by
  split
  · exact ht
  · exact hu

theorem haltView_originate (s : State) (typ sub dA dB : Nat) (a b nw : Bool) (ts : Word) (pay : List Word) :
    haltView (originate s typ sub dA dB a b nw ts pay) = haltView s := by
  unfold originate
  generalize hp : nextSeq s typ sub = p
  have hn : haltView p.2 = haltView s := by
    rw [← hp]
    exact haltView_congr rfl rfl rfl
  obtain ⟨q, u⟩ := p
  have ha : ∀ f, haltView (if a then sendVia u .a f else u) = haltView s := fun f =>
    haltView_ite ((haltView_sendVia _ _ _).trans hn) hn
  exact haltView_ite rfl (haltView_ite ((haltView_sendVia _ _ _).trans (ha _)) (ha _))

theorem haltView_sendTo (s : State) (typ sub dst : Nat) (nw : Bool) (pay : List Word) :
    haltView (sendTo s typ sub dst nw pay) = haltView s := haltView_originate _ _ _ _ _ _ _ _ _ _

theorem haltView_twinSend (s : State) (sub : Nat) (pay : List Word) : haltView (twinSend s sub pay) = haltView s :=
  haltView_sendTo _ _ _ _ _ _

theorem haltView_mgmtSend (s : State) (sub : Nat) (pay : List Word) : haltView (mgmtSend s sub pay) = haltView s :=
  haltView_sendTo _ _ _ _ _ _

theorem haltView_respond (s : State) (c : Nat) (w1 hseq : Word) (abt : Bool) (d : List Word) :
    haltView (respond s c w1 hseq abt d) = haltView s := haltView_congr rfl rfl rfl

theorem haltView_complete (s : State) (c st r : Nat) (d : List Word) : haltView (complete s c st r d) = haltView s :=
  (haltView_respond _ _ _ _ _ _).trans (haltView_congr rfl rfl rfl)

theorem haltView_endWaits (s : State) (p : WaitCmd → Bool) (st r : Nat) : haltView (endWaits s p st r) = haltView s :=
  foldl_keeps haltView (fun _ _ => haltView_complete _ _ _ _ _) _ s

theorem haltView_editFault (s : State) : haltView (editFault s) = haltView s := by
  have hab (t : State) (n : Nat) : haltView (editAbandon t n) = haltView t := by
    refine (haltView_endWaits _ _ _ _).trans ?_
    have hedit (x : State) (e : EditSt) : haltView { x with edit := e } = haltView x := rfl
    refine haltView_ite ((hedit _ _).trans ?_) rfl
    rw [haltView_wf, haltView_wf, haltView_sb, haltView_sb]
  unfold editFault
  split
  · refine (hab _ _).trans ?_
    exact haltView_ite (haltView_mgmtSend _ _ _) rfl
  · rfl

theorem haltView_discardApp (s : State) (a : Nat) : haltView (discardApp s a) = haltView s := by
  unfold discardApp stopGlades
  dsimp only
  split
  · refine (foldl_keeps haltView (fun t g => ?_) _ _).trans rfl
    split
    · split
      · exact haltView_putGrv rfl rfl
      · rfl
    · rfl
  · rfl

theorem haltView_forceStop (s : State) (g : Nat) : haltView (forceStop s g) = haltView s := by
  unfold forceStop
  split
  · rfl
  · refine (haltView_putGrv ?_ ?_).trans (haltView_discardApp _ _)
    · rfl
    · rfl

theorem haltView_stopAll (s : State) : haltView (stopAll s) = haltView s :=
  (foldl_keeps haltView haltView_discardApp _ _).trans (foldl_keeps haltView haltView_forceStop _ _)

theorem haltView_stopForLoss (s : State) : haltView (stopForLoss s) = haltView s := by
  refine (foldl_keeps haltView (fun t a => ?_) _ _).trans (foldl_keeps haltView (fun t g => ?_) _ _)
  · split
    · rfl
    · exact haltView_discardApp _ _
  · split
    · rfl
    · exact haltView_forceStop _ _

/-! #### Changes of the device state -/

/-- What settles with the device state are ports, pins, the manager's registers and part. -/
theorem settle_eq (s : State) : ∃ att pwr io shr, settle s = { s with att := att, pwr := pwr, io := io, shr := shr } ∧
    ∀ a, a ≠ Reg.shrRoster0 → a ≠ Reg.shrStat → rd (settle s) a = rd s a := by
  have hatt : ∃ att, attSettle s = { s with att := att } := by
    unfold attSettle
    generalize List.range 16 = l
    suffices h : ∀ (st : State), (∃ att, st = { s with att := att }) → ∃ att, l.foldl (fun st p =>
        if attListen st p then putAttp st p { attp st p with tx := [] } else st) st = { s with att := att } from h s ⟨_, rfl⟩
    induction l with
    | nil => exact fun st h => h
    | cons p r ih =>
      rintro _ ⟨att, rfl⟩
      rw [List.foldl_cons]
      apply ih
      split
      · exact ⟨_, rfl⟩
      · exact ⟨_, rfl⟩
  obtain ⟨att, hatt⟩ := hatt
  unfold settle
  rw [hatt]
  unfold managerSettle
  dsimp only
  split
  · split
    · split
      · exact ⟨_, _, _, _, rfl, fun _ _ _ => rfl⟩
      · exact ⟨_, _, _, _, rfl, fun a h0 h1 => (rd_sb_ne _ _ _ h1).trans (rd_sb_ne _ _ _ h0)⟩
    · exact ⟨_, _, _, _, rfl, fun _ _ _ => rfl⟩
  · split
    · exact ⟨_, _, _, _, rfl, fun _ _ _ => rfl⟩
    · exact ⟨_, _, _, _, rfl, fun _ _ _ => rfl⟩

theorem pushEvent_eq (s : State) (k x d : Nat) : ∃ evq host, pushEvent s k x d = { s with evq := evq, host := host } := by
  unfold pushEvent
  split
  · exact ⟨_, _, rfl⟩
  · split <;> exact ⟨_, _, rfl⟩

/-- A change of the device state (R28). -/
theorem setDev_eq {s : State} {d : Dev} (h : s.dev ≠ d) (cause : Nat) : ∃ att pwr io shr evq host,
    setDev s d cause = { s with dev := d, prevDev := BitVec.ofNat 4 s.dev.code, cause := BitVec.ofNat 8 cause,
                                att := att, pwr := pwr, io := io, shr := shr, evq := evq, host := host } ∧
    ∀ a, a ≠ Reg.shrRoster0 → a ≠ Reg.shrStat → rd (setDev s d cause) a = rd s a := by
  rw [setDev, if_neg h]
  dsimp only
  generalize ht : ({ s with dev := d, prevDev := _, cause := _ } : State) = t
  obtain ⟨att, pwr, io, shr, hs, hrd⟩ := settle_eq t
  obtain ⟨evq, host, hp⟩ := pushEvent_eq (settle t) 2 (d.code + s.dev.code * 16) cause
  refine ⟨att, pwr, io, shr, evq, host, ?_, fun a h0 h1 => ?_⟩
  · rw [hp, hs, ← ht]
  · rw [hp]
    have hset : rd t a = rd s a := rd_congr (by rw [← ht]) a
    exact Eq.trans (b := rd (settle t) a) (rd_congr (by dsimp only) a) ((hrd a h0 h1).trans hset)

theorem haltView_setDev (s : State) (d : Dev) (cause : Nat) : haltView (setDev s d cause) = (haltView s).inDev d := by
  by_cases h : s.dev = d
  · rw [setDev, if_pos h, ← h]; rfl
  · obtain ⟨_, _, _, _, _, _, he, -⟩ := setDev_eq h cause
    rw [he]; exact haltView_congr (t := { s with dev := d }) rfl rfl rfl

theorem haltView_settle (s : State) : haltView (settle s) = haltView s := by
  obtain ⟨_, _, _, _, h, -⟩ := settle_eq s
  rw [h]; exact haltView_congr rfl rfl rfl

theorem haltView_safeHoldWaits (s : State) (cause : Nat) : haltView (safeHoldWaits s cause) = haltView s := by
  unfold safeHoldWaits
  split
  · rfl
  · split <;> exact haltView_endWaits _ _ _ _

/-- Safe Hold moves no halt. -/
theorem haltView_enterSafeHold (s : State) (cause : Nat) :
    haltView (enterSafeHold s cause) = haltView s ∨ haltView (enterSafeHold s cause) = (haltView s).inDev .safeHold := by
  unfold enterSafeHold
  split
  · exact .inl rfl
  · refine .inr ?_
    have hpair := haltView_ite (c := (bound s && (decide (s.dev = .run) || decide (s.dev = .tracking))) = true)
      ((haltView_twinSend (editFault s) (if cause = 9 then 7 else 8) []).trans (haltView_editFault s)) (haltView_editFault s)
    have hstop := haltView_ite (c := cause = 9) ((haltView_stopForLoss _).trans hpair) ((haltView_stopAll _).trans hpair)
    have htwin (x : State) (w : Twin) : haltView { sb x Reg.grvTwstat 0 false with twin := w } = haltView x := rfl
    refine (htwin _ _).trans ((haltView_safeHoldWaits _ cause).trans ((haltView_setDev _ _ _).trans ?_))
    exact congrArg (HaltView.inDev · .safeHold) hstop

/-! #### LOSS -/

theorem haltView_setOwner (s : State) (t c : Nat) : haltView (setOwner s t c) = haltView s := by
  have hask (u : State) : haltView (askWake u t) = haltView u := by
    unfold askWake
    split
    · exact haltView_congr rfl rfl rfl
    · rfl
  unfold setOwner
  have h : haltView { wf s (Reg.tarnOwn + t) 7 0 c with ownPend := Sparse.set none s.ownPend t none } = haltView s :=
    haltView_congr rfl rfl rfl
  exact haltView_ite h (haltView_ite h ((hask _).trans h))

theorem haltView_handOutlet (s : State) (a : Nat) (safe : Bool) : haltView (handOutlet s a safe) = haltView s := by
  have hg (u : State) (b : Bool) : haltView (giveSides (sb u Reg.imgOside a b) Reg.imgOutt Reg.imgOside a) = haltView u :=
    (haltView_setOwner _ _ _).trans ((haltView_setOwner _ _ _).trans (haltView_sb _ _ _ _))
  have hsides : ∀ {c d e : Prop} [Decidable c] [Decidable d] [Decidable e] (b : Bool), haltView (if c then s
      else if d then giveSides (sb s Reg.imgOside a false) Reg.imgOutt Reg.imgOside a
      else if e then giveSides (sb s Reg.imgOside a b) Reg.imgOutt Reg.imgOside a else s) = haltView s := fun b =>
    haltView_ite rfl (haltView_ite (hg s _) (haltView_ite (hg s b) rfl))
  unfold handOutlet
  refine (haltView_congr rfl rfl rfl).trans ((haltView_sb _ Reg.imgSafeout a safe).trans ?_)
  exact haltView_ite (hsides _) (hsides _)

theorem haltView_lossSend (s : State) : haltView (lossSend s) = haltView s := by
  unfold lossSend
  refine haltView_ite rfl ((foldl_keeps haltView (fun t a => ?_) _ _).trans (haltView_congr rfl rfl rfl))
  exact haltView_ite (haltView_handOutlet _ _ _) rfl

/-- LOSS moves no halt either. -/
theorem haltView_lossEntry (s : State) :
    haltView (lossEntry s) = haltView s ∨ haltView (lossEntry s) = (haltView s).inDev .safeHold := by
  unfold lossEntry
  generalize ht : ({ s with pwr := { s.pwr with lossAt := _, lossSent := _, marked := _ } } : State) = t
  have hv : haltView t = haltView s := by rw [← ht]; exact haltView_congr rfl rfl rfl
  rw [haltView_lossSend, haltView_settle, ← hv]
  split
  · exact .inr (haltView_setDev _ _ _)
  · exact haltView_enterSafeHold _ _

/-! #### The debug domain's reset releases every halt (R470, R482) -/

theorem haltView_holdSettle (s : State) : haltView (holdSettle s) = haltView s := by simp [haltView]

theorem devOfCode_ne_halted (n : Nat) : devOfCode n ≠ .halted := by
  unfold devOfCode
  split
  · decide
  · split <;> decide

/-- A device that leaves Halted moves no other halt, and is in Halted no more. -/
theorem haltView_leaveHalted (s : State) : ∃ d, d ≠ .halted ∧ haltView (leaveHalted s) = (haltView s).inDev d := by
  have step {f : State → State} {t : State} (h : haltView (f t) = haltView t ∨ haltView (f t) = (haltView t).inDev .safeHold)
      (c : Prop) [Decidable c] (ht : ∃ d, d ≠ .halted ∧ haltView t = (haltView s).inDev d) :
      ∃ d, d ≠ .halted ∧ haltView (if c then f t else t) = (haltView s).inDev d := by
    split
    · rcases h with h | h
      · rwa [h]
      · obtain ⟨d, -, hd⟩ := ht
        exact ⟨.safeHold, by decide, by rw [h, hd]; rfl⟩
    · exact ht
  unfold leaveHalted
  refine step (f := fun t => enterSafeHold t 0xA) (haltView_enterSafeHold _ _) _
    (step (haltView_lossEntry _) _ ⟨_, devOfCode_ne_halted s.prevDev.toNat, ?_⟩)
  have hlinks (x : State) (p : Shr) (b : Bnd) : haltView { x with shr := p, bnd := b } = haltView x := rfl
  refine (hlinks _ _ _).trans ?_
  rw [haltView_sb, haltView_sb, haltView_setDev]

end Sys2Proof.Machine
end

section
/-! PROOFS. What DBG_RST_N releases and clears (R470, R482). -/

namespace Sys2Proof.Machine

@[simp] theorem grv_releaseGrove_self (s : State) (g : Nat) :
    grv (releaseGrove false s g) g = { grv s g with haltReq := false, halted := false, stepping := false } := by simp [releaseGrove]
theorem grv_releaseGrove_ne (b : Bool) (s : State) {g k : Nat} (h : k ≠ g) : grv (releaseGrove b s g) k = grv s k := by
  cases b with
  | false => simp [releaseGrove, grv_putGrv_ne _ _ h]
  | true =>
    rw [releaseGrove, if_pos rfl]
    split
    · exact grv_putGrv_ne _ _ h
    · rfl

/-- No halt of the device or of a Grove is in force or awaited. -/
def HaltView.Clear (v : HaltView) : Prop := v.dev ≠ .halted ∧ v.devHalt = false ∧ ∀ g, g < 16 → v.flags g = (false, false)

theorem clear_haltView {s : State} (h : (haltView s).Clear) : s.dev ≠ .halted ∧ s.devHalt = false ∧
    ∀ g, g < 16 → (grv s g).halted = false ∧ (grv s g).haltReq = false :=
  ⟨h.1, h.2.1, fun g hg => Prod.mk.inj (h.2.2 g hg)⟩

/-- Groves released one after the other have no halt. -/
theorem flags_releaseGroves (l : List Nat) (s : State) (g : Nat) (h : g ∈ l ∨ (haltView s).flags g = (false, false)) :
    (haltView (l.foldl (releaseGrove false) s)).flags g = (false, false) := by
  induction l generalizing s with
  | nil => simpa using h
  | cons k r ih =>
    rw [List.foldl_cons]
    apply ih
    by_cases hk : g = k
    · exact .inr (by simp [haltView, hk])
    · simpa [haltView, hk, grv_releaseGrove_ne] using h

theorem clear_releaseDev {s : State} (h : ∀ g, g < 16 → (haltView s).flags g = (false, false)) : (haltView (releaseDev s)).Clear := by
  unfold releaseDev
  dsimp only
  split
  · obtain ⟨d, hd, hv⟩ := haltView_leaveHalted { s with devHalt := false }
    rw [hv]
    exact ⟨hd, rfl, h⟩
  · next hd => exact ⟨hd, rfl, h⟩

/-- R482: every halt is released. -/
theorem clear_releaseAll (s : State) : (haltView (releaseAll s)).Clear := by
  rw [releaseAll, haltView_holdSettle]
  exact clear_releaseDev fun g hg => flags_releaseGroves _ s g (.inl (List.mem_range.mpr hg))

/-- The terminal pairs of the engines as after DBG_RST_N (R470). -/
def emptyTerm (s : State) (p : Nat × Engine) : State := putEng s p.1 { eng s p.1 with term := State.engReset.term }
def termsEmptied (s : State) : State := s.engs.foldl emptyTerm s

theorem haltView_termsEmptied (s : State) : haltView (termsEmptied s) = haltView s :=
  foldl_keeps haltView (f := emptyTerm) (fun _ _ => haltView_congr rfl rfl rfl) _ s

theorem get_of_unlisted {α : Type} (d : α) {m : Sparse α} {k : Nat} (h : ∀ p ∈ m, p.1 ≠ k) : Sparse.get d m k = d := by
  induction m with
  | nil => rfl
  | cons p r ih =>
    rw [Sparse.get, if_neg (h p (by simp)), ih fun q hq => h q (by simp [hq])]

theorem term_termsEmptied (s : State) (e : Nat) : (eng (termsEmptied s) e).term = State.engReset.term := by
  have fold : ∀ (l : Sparse Engine) (t : State), (∃ p ∈ l, p.1 = e) ∨ (eng t e).term = State.engReset.term →
      (eng (l.foldl emptyTerm t) e).term = State.engReset.term := by
    intro l
    induction l with
    | nil => intro t h; simpa using h
    | cons p r ih =>
      intro t h
      rw [List.foldl_cons]
      apply ih
      by_cases hp : p.1 = e
      · exact .inr (by rw [← hp, emptyTerm, eng_putEng])
      · rw [emptyTerm, eng_putEng_ne _ _ (Ne.symm hp)]
        simpa [hp] using h
  refine fold _ s ?_
  by_cases he : ∃ p ∈ s.engs, p.1 = e
  · exact .inl he
  · exact .inr (congrArg Engine.term (get_of_unlisted _ fun p hp hpe => he ⟨p, hp, hpe⟩))

theorem dbgRstN_live {s : State} (h : s.dev ≠ .off) : dbgRstN s = { termsEmptied (releaseAll s) with
    dbg := [], dbgSt := State.dbgReset, io := (releaseAll s).io.filter fun p => !dbgvKey p.1 } := by
  rw [dbgRstN, if_neg (by simp [dbgLive, h])]
  rfl

theorem debugReset_clears {s : State} (h : s.dev ≠ .off) : ∃ t, exec .debugReset s = .next t ∧ t.dbg = [] ∧ t.dbgSt = State.dbgReset ∧
    t.dev ≠ .halted ∧ t.devHalt = false ∧ (∀ g, g < 16 → (grv t g).halted = false ∧ (grv t g).haltReq = false) ∧
    ∀ e, (eng t e).term = State.engReset.term := by
  have hx : exec .debugReset s = .next (dbgRstN s) := rfl
  have hclear := (haltView_termsEmptied (releaseAll s)).symm ▸ clear_releaseAll s
  have hterm := term_termsEmptied (releaseAll s)
  rw [hx, dbgRstN_live h]
  generalize termsEmptied (releaseAll s) = u at hclear hterm
  obtain ⟨hdev, hhalt, hgrv⟩ := clear_haltView hclear
  exact ⟨_, rfl, rfl, rfl, hdev, hhalt, hgrv, hterm⟩

end Sys2Proof.Machine
end

section
/-! PROOFS. Halts, releases and steps (R476 to R480). -/

namespace Sys2Proof.Machine

/-! #### Writes of DBG_HALT and DBG_RUN (R476 to R480) -/

theorem exec_haltGrove (v : Word) (s : State) : exec (.haltGrove v) s = .next (haltWrite s v) := by rfl
theorem exec_haltDevice (v : Word) (s : State) : exec (.haltDevice v) s = .next (if bit v 16 then haltWrite s v else s) := by rfl
theorem exec_releaseGrove (v : Word) (s : State) : exec (.releaseGrove v) s = .next (if bit v 17 then s else runWrite s v) := by rfl
theorem exec_releaseDevice (v : Word) (s : State) : exec (.releaseDevice v) s = .next (if bit v 16 then runWrite s v else s) := by rfl
theorem exec_step (v : Word) (s : State) : exec (.step v) s = .next (if bit v 17 then runWrite s v else s) := by rfl
theorem exec_deviceHalted (s : State) : exec .deviceHalted s = .next (deviceHalted s) := by rfl
theorem exec_groveHalted (g : Grv) (s : State) : exec (.groveHalted g) s =
    .next (if (grv s g.val).haltReq && !(grv s g.val).halted then haltGrove s g.val else s) := by rfl

theorem bit_dbgFlag (s : State) {i : Nat} (hi : i < 32) : bit (dbgRd (dbgFlag s i) 0) i = true := by
  simp [dbgFlag, bit_putBit hi]

theorem haltGrove_refused {s : State} (hd : s.dev ≠ .off) (hl : dbgLevel s = 2) (g : Grv) (h : haltAllowed s g.val = false) :
    ∃ t, exec (.haltGrove (BitVec.ofNat 32 (2 ^ g.val))) s = .next (dacc t false 0x010 0 0) ∧ bit (dbgRd t 0) 8 = true ∧
      t.grvs = s.grvs := by
  have hone : haltOne s g.val = dbgFlag s 8 := by simp [haltOne, h]
  refine ⟨_, by rw [exec_haltGrove, haltWrite_grove hd hl], ?_, ?_⟩
  · rw [dbgRd_holdSettle, hone, bit_dbgFlag s (by decide)]
  · rw [holdSettle_grvs, hone]; rfl

theorem haltGrove_allowed {s : State} (hd : s.dev ≠ .off) (hl : dbgLevel s = 2) (g : Grv) (h : haltAllowed s g.val = true)
    (hn : (grv s g.val).halted = false) :
    ∃ t, exec (.haltGrove (BitVec.ofNat 32 (2 ^ g.val))) s = .next (dacc t false 0x010 0 0) ∧
      (grvIdle s g.val = true → (grv t g.val).halted = true ∧ bit (eng t (2 * g.val)).rsv 0 = false ∧
        bit (eng t (2 * g.val + 1)).rsv 0 = false) ∧
      (grvIdle s g.val = false → grv t g.val = { grv s g.val with haltReq := true } ∧ t.engs = s.engs) ∧
      rb t Reg.wdiStat 1 = true := by
  refine ⟨_, by rw [exec_haltGrove, haltWrite_grove hd hl], fun hi => ?_, fun hi => ?_, rb_holdSettle ?_⟩
  · have hone : haltOne s g.val = haltGrove s g.val := by simp [haltOne, h, hn, hi]
    rw [grv_holdSettle, eng_holdSettle, eng_holdSettle, hone, grv_haltGrove]
    exact ⟨rfl, (haltedAs_haltGrove s (.inl rfl)).1, (haltedAs_haltGrove s (.inr rfl)).1⟩
  · have hone : haltOne s g.val = putGrv s g.val { grv s g.val with haltReq := true } := by simp [haltOne, h, hn, hi]
    rw [grv_holdSettle, holdSettle_engs, hone, grv_putGrv]
    exact ⟨rfl, rfl⟩
  · refine anyHalt_of_grove g.isLt ?_
    cases hi : grvIdle s g.val with
    | true =>
      have hone : haltOne s g.val = haltGrove s g.val := by simp [haltOne, h, hn, hi]
      rw [hone, grv_haltGrove]; exact .inl rfl
    | false =>
      have hone : haltOne s g.val = putGrv s g.val { grv s g.val with haltReq := true } := by simp [haltOne, h, hn, hi]
      rw [hone, grv_putGrv]; exact .inr rfl

theorem releaseGrove_releases {s : State} (hd : s.dev ≠ .off) (hl : dbgLevel s = 2) (g : Grv) :
    ∃ t, exec (.releaseGrove (BitVec.ofNat 32 (2 ^ g.val))) s = .next (dacc t false 0x011 0 0) ∧
      grv t g.val = { grv s g.val with haltReq := false, halted := false, stepping := false } ∧
      ∀ k, k ≠ g.val → grv t k = grv s k := by
  obtain ⟨-, -, h17⟩ := groveWord_bits g
  refine ⟨_, by rw [exec_releaseGrove, h17, if_neg Bool.false_ne_true, runWrite_grove hd hl], ?_, fun k hk => ?_⟩
  · rw [grv_holdSettle, grv_releaseGrove_self]
  · rw [grv_holdSettle, grv_releaseGrove_ne _ _ hk]

theorem step_steps {s : State} (hd : s.dev ≠ .off) (hl : dbgLevel s = 2) (g : Grv) :
    ∃ t, exec (.step (BitVec.ofNat 32 (2 ^ g.val) + 0x20000)) s = .next (dacc t false 0x011 0 0) ∧
      grv t g.val = if (grv s g.val).halted then { grv s g.val with halted := false, stepping := true } else grv s g.val := by
  obtain ⟨-, -, h17⟩ := stepWord_bits g
  refine ⟨_, by rw [exec_step, if_pos h17, runWrite_step hd hl], ?_⟩
  rw [grv_holdSettle, releaseGrove, if_pos rfl]
  split
  · exact grv_putGrv _ _ _
  · rfl

/-- R477: a Grove that was asked to halt halts at its next stop point. -/
theorem groveHalted_halts (s : State) (g : Grv) :
    ((grv s g.val).haltReq = true → (grv s g.val).halted = false → ∃ t, exec (.groveHalted g) s = .next t ∧
      grv t g.val = { grv s g.val with haltReq := false, halted := true } ∧
      ∀ e, (e = 2 * g.val ∨ e = 2 * g.val + 1) → HaltedAs (eng s e) (eng t e)) ∧
    ((grv s g.val).haltReq = false ∨ (grv s g.val).halted = true → exec (.groveHalted g) s = .next s) := by
  refine ⟨fun hr hh => ⟨haltGrove s g.val, ?_, grv_haltGrove _ _, fun e he => haltedAs_haltGrove s he⟩, fun h => ?_⟩
  · rw [exec_groveHalted, hr, hh]; rfl
  · rw [exec_groveHalted, if_neg]
    rcases h with h | h <;> simp [h]

/-! #### The device-wide halt (R478, R480) -/

theorem devHaltAllowed_iff {s : State} (hl : dbgLevel s = 2) :
    devHaltAllowed s = true ↔ s.dev = .config ∨ s.dev = .safeHold ∨ s.dev = .maintenance := by
  simp [devHaltAllowed, hl, or_assoc]

theorem haltDevice_halts {s : State} (hd : s.dev ≠ .off) (hl : dbgLevel s = 2) :
    ∃ t, exec (.haltDevice 0x10000) s = .next (dacc t false 0x010 0 0) ∧
      ((s.dev = .config ∨ s.dev = .safeHold ∨ s.dev = .maintenance) → t.devHalt = true ∧ rb t Reg.wdiStat 1 = true) ∧
      (s.dev ≠ .config → s.dev ≠ .safeHold → s.dev ≠ .maintenance → t.devHalt = s.devHalt ∧ bit (dbgRd t 0) 8 = true) := by
  refine ⟨_, by rw [exec_haltDevice, if_pos devWord_bits.2, haltWrite_device hd hl], fun h => ?_, fun h1 h2 h3 => ?_⟩
  · rw [if_pos ((devHaltAllowed_iff hl).mpr h), holdSettle_devHalt]
    exact ⟨rfl, rb_holdSettle (anyHalt_of_devHalt rfl)⟩
  · have hno : ¬ devHaltAllowed s = true := fun h => by
      rcases (devHaltAllowed_iff hl).mp h with h | h | h
      · exact h1 h
      · exact h2 h
      · exact h3 h
    rw [if_neg hno, holdSettle_devHalt, dbgRd_holdSettle]
    exact ⟨rfl, bit_dbgFlag s (by decide)⟩

theorem foldl_haltEngine (l : List Nat) (s : State) :
    (l.foldl haltEngine s).dev = s.dev ∧ (l.foldl haltEngine s).devHalt = s.devHalt :=
  ⟨foldl_keeps State.dev haltEngine_dev l s, foldl_keeps State.devHalt haltEngine_devHalt l s⟩

theorem deviceHalted_halts {s : State} (hl : dbgLevel s = 2) (hh : s.devHalt = true) (hb : s.bnd.phase = .idle)
    (hr : s.safeReq = none) (hdev : s.dev = .config ∨ s.dev = .safeHold ∨ s.dev = .maintenance) :
    ∃ t, exec .deviceHalted s = .next t ∧ t.dev = .halted ∧ t.cause = 0xB ∧ t.prevDev = BitVec.ofNat 4 s.dev.code ∧
      t.devHalt = false := by
  have hx : deviceHalted s = setDev ((List.range 33).foldl haltEngine { s with devHalt := false }) .halted 0xB := by
    simp [deviceHalted, hh, hb, hr, (devHaltAllowed_iff hl).mpr hdev]
  obtain ⟨hd, hf⟩ := foldl_haltEngine (List.range 33) { s with devHalt := false }
  generalize (List.range 33).foldl haltEngine _ = u at hx hd hf
  have hne : u.dev ≠ .halted := by
    rw [hd]
    rcases hdev with h | h | h <;> simp [h]
  obtain ⟨_, _, _, _, _, _, he, -⟩ := setDev_eq hne 0xB
  refine ⟨_, by rw [exec_deviceHalted, hx], ?_⟩
  rw [he, hf, hd]
  exact ⟨rfl, rfl, rfl, rfl⟩

theorem deviceHalted_yields {s : State} (hh : s.devHalt = true) (hb : s.bnd.phase = .idle) (hr : s.safeReq ≠ none) :
    ∃ t, exec .deviceHalted s = .next t ∧ t.dev = s.dev ∧ t.devHalt = false ∧ bit (dbgRd t 0) 8 = true := by
  have hx : deviceHalted s = holdSettle (dbgFlag { s with devHalt := false } 8) := by
    simp [deviceHalted, hh, hb, Option.isSome_iff_ne_none.mpr hr]
  refine ⟨_, by rw [exec_deviceHalted, hx], ?_⟩
  rw [holdSettle_dev, holdSettle_devHalt, dbgRd_holdSettle, bit_dbgFlag _ (by decide)]
  exact ⟨rfl, rfl, rfl⟩

theorem deviceHalted_waits {s : State} (h : s.devHalt = false ∨ s.bnd.phase ≠ .idle) : exec .deviceHalted s = .next s := by
  have hx : deviceHalted s = s := by
    rcases h with h | h <;> simp [deviceHalted, h]
  rw [exec_deviceHalted, hx]

theorem nextCyc_congr {s t : State} (hn : t.tb.now = s.tb.now) (h : ∀ a ∈ [Reg.schedMcyc, Reg.schedEpochl, Reg.schedEpochh], rd t a = rd s a) :
    nextCyc t = nextCyc s := by
  simp only [List.mem_cons, List.not_mem_nil, or_false, forall_eq_or_imp, forall_eq] at h
  obtain ⟨hmcyc, hlow, hhigh⟩ := h
  have hepoch : epoch t = epoch s := by rw [epoch, epoch, hlow, hhigh]
  have hlen : mcycNs t = mcycNs s := by rw [mcycNs, mcycNs, rf, rf, hmcyc]
  have hcyc : cycAt t = cycAt s := by rw [cycAt, cycAt, hn, hepoch, hlen]
  rw [nextCyc, nextCyc, hcyc]

theorem setDev_leaves {s : State} {d : Dev} (h : s.dev ≠ d) (cause : Nat) :
    (setDev s d cause).dev = d ∧ (setDev s d cause).cause = BitVec.ofNat 8 cause ∧ (setDev s d cause).tb = s.tb := by
  obtain ⟨_, _, _, _, _, _, he, -⟩ := setDev_eq h cause
  rw [he]
  exact ⟨rfl, rfl, rfl⟩

/-- With no LOSS and no bite accepted meanwhile, a device that leaves Halted returns to the state that PREV names, its next boundary is
the next one to come, and no port is UP. -/
theorem leaveHalted_returns {s : State} {d : Dev} (hcode : devOfCode s.prevDev.toNat = d) (hne : s.dev ≠ d)
    (hv : rb s Reg.pwrVstat 4 = false) (hw : rb s Reg.wdiStat 2 = false) :
    (leaveHalted s).dev = d ∧ (leaveHalted s).cause = 0xC ∧ (leaveHalted s).bnd.next = BitVec.ofNat 64 (nextCyc s) ∧
      rb (leaveHalted s) (pstat .a) 1 = false ∧ rb (leaveHalted s) (pstat .b) 1 = false := by
  obtain ⟨hdev, hcause, htb⟩ := setDev_leaves hne 0xC
  obtain ⟨_, _, _, _, _, _, -, hrd⟩ := setDev_eq hne 0xC
  rw [leaveHalted, hcode]
  dsimp only
  generalize setDev s d 0xC = u at hdev hcause htb hrd
  have hrdu : ∀ a, a ≠ Reg.shrPstata → a ≠ Reg.shrPstatb → a ≠ Reg.shrRoster0 → a ≠ Reg.shrStat →
      rd (sb (sb u (pstat .a) 1 false) (pstat .b) 1 false) a = rd s a := fun a h1 h2 h3 h4 =>
    (rd_sb_ne _ _ _ h2).trans ((rd_sb_ne _ _ _ h1).trans (hrd a h3 h4))
  have hpa : rb (sb (sb u (pstat .a) 1 false) (pstat .b) 1 false) (pstat .a) 1 = false := by
    rw [rb, rd_sb_ne _ _ _ (by decide)]
    exact rb_sb u _ false (by decide)
  have hpb : rb (sb (sb u (pstat .a) 1 false) (pstat .b) 1 false) (pstat .b) 1 = false := rb_sb _ _ false (by decide)
  have hx : (sb (sb u (pstat .a) 1 false) (pstat .b) 1 false).dev = d ∧ (sb (sb u (pstat .a) 1 false) (pstat .b) 1 false).cause = 0xC ∧
      (sb (sb u (pstat .a) 1 false) (pstat .b) 1 false).tb = s.tb := ⟨hdev, hcause, htb⟩
  generalize sb (sb u (pstat .a) 1 false) (pstat .b) 1 false = x at hrdu hpa hpb hx
  obtain ⟨hxd, hxc, hxt⟩ := hx
  have hvx : ¬ rb x Reg.pwrVstat 4 = true := by
    rw [rb, hrdu _ (by decide) (by decide) (by decide) (by decide)]
    exact Bool.eq_false_iff.mp hv
  have hwx : ¬ rb x Reg.wdiStat 2 = true := by
    rw [rb, hrdu _ (by decide) (by decide) (by decide) (by decide)]
    exact Bool.eq_false_iff.mp hw
  have hcyc : nextCyc x = nextCyc s := nextCyc_congr (congrArg TbState.now hxt) (by
    simp only [List.mem_cons, List.not_mem_nil, or_false, forall_eq_or_imp, forall_eq]
    exact ⟨hrdu _ (by decide) (by decide) (by decide) (by decide), hrdu _ (by decide) (by decide) (by decide) (by decide),
      hrdu _ (by decide) (by decide) (by decide) (by decide)⟩)
  generalize hy : ({ x with shr := _, bnd := _ } : State) = y
  have hvy : ¬ rb y Reg.pwrVstat 4 = true := by rw [← hy]; exact hvx
  have hwy : ¬ rb y Reg.wdiStat 2 = true := by rw [← hy]; exact hwx
  rw [if_neg hvy, if_neg hwy, ← hy]
  exact ⟨hxd, hxc, congrArg (BitVec.ofNat 64) hcyc, hpa, hpb⟩

theorem releaseDevice_releases {s : State} (hd : s.dev ≠ .off) (hl : dbgLevel s = 2) {d : Dev} (hdev : s.dev = .halted)
    (hp : (s.prevDev, d) ∈ [(3#4, Dev.config), (6, .safeHold), (7, .maintenance)]) (hv : rb s Reg.pwrVstat 4 = false)
    (hw : rb s Reg.wdiStat 2 = false) :
    ∃ t, exec (.releaseDevice 0x10000) s = .next (dacc t false 0x011 0 0) ∧ t.dev = d ∧ t.cause = 0xC ∧
      t.bnd.next = BitVec.ofNat 64 (nextCyc s) ∧ rb t (pstat .a) 1 = false ∧ rb t (pstat .b) 1 = false := by
  obtain ⟨hcode, hnot⟩ : devOfCode s.prevDev.toNat = d ∧ d ≠ .halted := by
    simp only [List.mem_cons, Prod.mk.injEq, List.not_mem_nil, or_false] at hp
    rcases hp with ⟨h, rfl⟩ | ⟨h, rfl⟩ | ⟨h, rfl⟩ <;> simp [h, devOfCode]
  have hrel : releaseDev s = leaveHalted { s with devHalt := false } := by simp [releaseDev, hdev]
  have hback := leaveHalted_returns (s := { s with devHalt := false }) hcode (by simpa [hdev] using hnot.symm) hv hw
  refine ⟨_, by rw [exec_releaseDevice, if_pos devWord_bits.2, runWrite_device hd hl], ?_⟩
  rw [hrel, holdSettle_dev, holdSettle_cause, holdSettle_bnd, rb, rb, rd_holdSettle _ (by decide), rd_holdSettle _ (by decide)]
  exact hback

end Sys2Proof.Machine
end

section
/-! PROOFS. The debug port without power or level, the terminal, and register writes over every path (R17, R422, R470, R472, R486). -/

namespace Sys2Proof.Machine

/-! #### The other rows of the debug port, each through the function of its register -/

theorem exec_debugAuth (v : Word) (s : State) : exec (.debugAuth v) s = .next (authWrite s v) := by rfl
theorem exec_debugLockoutEnd (s : State) : exec .debugLockoutEnd s = .next (lockoutEnd s) := by rfl
theorem exec_debugReset (s : State) : exec .debugReset s = .next (dbgRstN s) := by rfl
theorem exec_tapReset (s : State) : exec .tapReset s =
    .next (if dbgLive s then { s with dbgSt := { s.dbgSt with tapIr := 1 } } else s) := by rfl
theorem exec_feed (v : Word) (s : State) : exec (.feed v) s = .next (if bit v 11 then feedWrite s v else s) := by rfl
theorem exec_xferPush (v : Word) (s : State) : exec (.xferPush v) s = .next (xferPush s v) := by rfl
theorem exec_xferPop (s : State) : exec .xferPop s = .next (xferPop s) := by rfl
theorem exec_vtxRead (s : State) : exec .vtxRead s = .next (vtxRead s) := by rfl
theorem exec_vrxWrite (v : Word) (s : State) : exec (.vrxWrite v) s = .next (vrxWrite s v) := by rfl
theorem exec_mdataRead (s : State) : exec .mdataRead s = .next (mdataRead s) := by rfl
theorem exec_mdataWrite (v : Word) (s : State) : exec (.mdataWrite v) s = .next (mdataWrite s v) := by rfl
theorem exec_traceWrite (s : State) : exec .traceWrite s = .next (traceWrite s) := by rfl
theorem exec_registerWrite (p : RegPath) (v : Word) (s : State) : exec (.registerWrite p v) s = .next (registerWrite p v s) := by rfl
theorem exec_debugResetRequest (v : Word) (s : State) : exec (.debugResetRequest v) s =
    .next (atLevel s false 0x03F 2 fun s => if bit v 0 then resetAssert (dacc s false 0x03F 0 0) .debug else dacc s false 0x03F 0 0) := by
  rfl
theorem exec_dbgTrcdropRead (s : State) : exec .dbgTrcdropRead s =
    .next (atLevel s true 0x034 1 fun s => dacc (dbgWr s 0x034 0) true 0x034 0 (dbgRd s 0x034)) := by rfl

theorem dbgLive_off {s : State} (h : s.dev = .off) : dbgLive s = false := by simp [dbgLive, h]
theorem dbgLive_of_ne {s : State} (h : s.dev ≠ .off) : dbgLive s = true := by simp [dbgLive, h]

/-! #### Without power, and below the level (R470, R472) -/

theorem debugPort_off {s : State} (h : s.dev = .off) (v : Word) :
    ∀ c ∈ [Instr.debugReset, .tapReset, .debugAuth v, .haltGrove v, .haltDevice v, .releaseGrove v, .releaseDevice v,
      .step v, .feed v, .xferPush v, .xferPop, .vtxRead, .vrxWrite v, .mdataRead, .mdataWrite v, .debugResetRequest v, .dbgTrcdropRead],
      exec c s = .next s := by
  have hlive := dbgLive_off h
  have hhalt : haltWrite s v = s := atLevel_off h _ _ _ _
  have hrun : runWrite s v = s := atLevel_off h _ _ _ _
  have hfeed : feedWrite s v = s := atLevel_off h _ _ _ _
  have hpush : xferPush s v = s := by rw [xferPush, xfer, atLevel_off h]
  have hpop : xferPop s = s := by rw [xferPop, xfer, atLevel_off h]
  have hvtx : vtxRead s = s := atLevel_off h _ _ _ _
  have hvrx : vrxWrite s v = s := atLevel_off h _ _ _ _
  have hrd : mdataRead s = s := atLevel_off h _ _ _ _
  have hwr : mdataWrite s v = s := atLevel_off h _ _ _ _
  have hrst : dbgRstN s = s := by rw [dbgRstN, hlive]; rfl
  have hauth : authWrite s v = s := by rw [authWrite, hlive]; rfl
  simp only [List.mem_cons, List.not_mem_nil, or_false, forall_eq_or_imp, forall_eq]
  refine ⟨?_, ?_, ?_, ?_, ?_, ?_, ?_, ?_, ?_, ?_, ?_, ?_, ?_, ?_, ?_, ?_, ?_⟩
  · rw [exec_debugReset, hrst]
  · rw [exec_tapReset, hlive]; rfl
  · rw [exec_debugAuth, hauth]
  · rw [exec_haltGrove, hhalt]
  · rw [exec_haltDevice, hhalt, ite_self]
  · rw [exec_releaseGrove, hrun, ite_self]
  · rw [exec_releaseDevice, hrun, ite_self]
  · rw [exec_step, hrun, ite_self]
  · rw [exec_feed, hfeed, ite_self]
  · rw [exec_xferPush, hpush]
  · rw [exec_xferPop, hpop]
  · rw [exec_vtxRead, hvtx]
  · rw [exec_vrxWrite, hvrx]
  · rw [exec_mdataRead, hrd]
  · rw [exec_mdataWrite, hwr]
  · rw [exec_debugResetRequest, atLevel_off h]
  · rw [exec_dbgTrcdropRead, atLevel_off h]

theorem debugPort_belowInvasive {s : State} (h : s.dev ≠ .off) (v : Word) (hl : dbgLevel s < 2) :
    exec (.haltGrove v) s = .next (dacc s false 0x010 2 0) ∧
    (bit v 16 = true → exec (.haltDevice v) s = .next (dacc s false 0x010 2 0) ∧
      exec (.releaseDevice v) s = .next (dacc s false 0x011 2 0)) ∧
    (bit v 17 = false → exec (.releaseGrove v) s = .next (dacc s false 0x011 2 0)) ∧
    (bit v 17 = true → exec (.step v) s = .next (dacc s false 0x011 2 0)) ∧
    (bit v 11 = true → exec (.feed v) s = .next (dacc s false 0x016 2 0)) ∧
    exec (.xferPush v) s = .next (dacc s false 0x018 2 0) ∧ exec .xferPop s = .next (dacc s true 0x018 2 0) ∧
    exec (.mdataWrite v) s = .next (dacc s false 0x022 2 0) ∧ exec (.debugResetRequest v) s = .next (dacc s false 0x03F 2 0) := by
  have hhalt : haltWrite s v = dacc s false 0x010 2 0 := atLevel_below h hl
  have hrun : runWrite s v = dacc s false 0x011 2 0 := atLevel_below h hl
  have hfeed : feedWrite s v = dacc s false 0x016 2 0 := atLevel_below h hl
  have hpush : xferPush s v = dacc s false 0x018 2 0 := by rw [xferPush, xfer, atLevel_below h hl]
  have hpop : xferPop s = dacc s true 0x018 2 0 := by rw [xferPop, xfer, atLevel_below h hl]
  have hwr : mdataWrite s v = dacc s false 0x022 2 0 := atLevel_below h hl
  refine ⟨?_, fun hv => ⟨?_, ?_⟩, fun hv => ?_, fun hv => ?_, fun hv => ?_, ?_, ?_, ?_, ?_⟩
  · rw [exec_haltGrove, hhalt]
  · rw [exec_haltDevice, if_pos hv, hhalt]
  · rw [exec_releaseDevice, if_pos hv, hrun]
  · rw [exec_releaseGrove, hv, if_neg Bool.false_ne_true, hrun]
  · rw [exec_step, if_pos hv, hrun]
  · rw [exec_feed, if_pos hv, hfeed]
  · rw [exec_xferPush, hpush]
  · rw [exec_xferPop, hpop]
  · rw [exec_mdataWrite, hwr]
  · rw [exec_debugResetRequest, atLevel_below h hl]

theorem debugPort_belowNoninvasive {s : State} (h : s.dev ≠ .off) (v : Word) (hl : dbgLevel s < 1) :
    exec .vtxRead s = .next (dacc s true 0x019 2 0) ∧ exec (.vrxWrite v) s = .next (dacc s false 0x01A 2 0) ∧
    exec .mdataRead s = .next (dacc s true 0x022 2 0) ∧ exec .dbgTrcdropRead s = .next (dacc s true 0x034 2 0) := by
  have hvtx : vtxRead s = dacc s true 0x019 2 0 := atLevel_below h hl
  have hvrx : vrxWrite s v = dacc s false 0x01A 2 0 := atLevel_below h hl
  have hrd : mdataRead s = dacc s true 0x022 2 0 := atLevel_below h hl
  exact ⟨by rw [exec_vtxRead, hvtx], by rw [exec_vrxWrite, hvrx], by rw [exec_mdataRead, hrd],
    by rw [exec_dbgTrcdropRead, atLevel_below h hl]⟩

theorem tapReset_resets {s : State} (h : s.dev ≠ .off) :
    exec .tapReset s = .next { s with dbgSt := { s.dbgSt with tapIr := 1 } } := by rw [exec_tapReset, dbgLive_of_ne h]; rfl

/-! #### The lockout and the terminal (R474, R486) -/

theorem debugLockoutEnd_ends {s : State} {e : Dbl} (hd : s.dev ≠ .off) (hl : s.dbgSt.lockEnd = some e) :
    (s.tb.now.toNat < e.toNat → exec .debugLockoutEnd s = .next s) ∧
    (e.toNat ≤ s.tb.now.toNat → ∃ t, exec .debugLockoutEnd s = .next t ∧ bit (dbgRd t 0) 3 = false ∧ t.dbgSt.lockEnd = none) := by
  have hx : lockoutEnd s = if e.toNat ≤ s.tb.now.toNat ∧ s.dev ≠ .off then
      { dbgWr s 0 (putBit (dbgRd s 0) 3 false) with dbgSt := { s.dbgSt with lockEnd := none } } else s := by
    rw [lockoutEnd, hl]
  rw [exec_debugLockoutEnd, hx]
  refine ⟨fun h => by rw [if_neg (by omega)], fun h => ⟨_, by rw [if_pos ⟨h, hd⟩], ?_, rfl⟩⟩
  exact (congrArg (bit · 3) (dbgRd_dbgWr s 0 _)).trans (bit_putBit (by decide))

theorem vtxRead_takes {s : State} (hd : s.dev ≠ .off) (hl : 1 ≤ dbgLevel s) :
    exec .vtxRead s = .next (dacc
      (putEng s (dbgEng s) { eng s (dbgEng s) with term := { (eng s (dbgEng s)).term with txFull := false } }) true 0x019 0
      (if (eng s (dbgEng s)).term.txFull then (eng s (dbgEng s)).term.tx else 0)) := by
  rw [exec_vtxRead, vtxRead, atLevel_of_le hd hl]; rfl

theorem vrxWrite_fills {s : State} (hd : s.dev ≠ .off) (hl : 1 ≤ dbgLevel s) (v : Word) :
    ((eng s (dbgEng s)).term.rxValid = true → exec (.vrxWrite v) s = .next (dacc s false 0x01A 1 0)) ∧
    ((eng s (dbgEng s)).term.rxValid = false → exec (.vrxWrite v) s = .next (dacc
      (putEng s (dbgEng s) { eng s (dbgEng s) with term := { (eng s (dbgEng s)).term with rx := v, rxValid := true } }) false 0x01A 0 0)) := by
  rw [exec_vrxWrite, vrxWrite, atLevel_of_le hd hl]
  exact ⟨fun h => by rw [if_pos h]; rfl, fun h => by rw [if_neg (by simp [h])]; rfl⟩

theorem dbgTrcdropRead_clears {s : State} (hd : s.dev ≠ .off) (hl : 1 ≤ dbgLevel s) :
    exec .dbgTrcdropRead s = .next (dacc (dbgWr s 0x034 0) true 0x034 0 (dbgRd s 0x034)) := by
  rw [exec_dbgTrcdropRead, atLevel_of_le hd hl]

/-! #### Writes of registers over IO-space and over the debug port (R17, R475) -/

theorem registerWrite_io (m : Mst) (a : BitVec 16) (v : Word) (s : State) : exec (.registerWrite (.io m a) v) s =
    .next (if masterActs s m.val then (ioPost s (reqOf s m.val) a.toNat v).state else s) := by
  rw [exec_registerWrite, registerWrite]
  rfl

/-- A debug register whose write has no function of its own. -/
theorem dbgWrite_plain {s : State} (hd : s.dev ≠ .off) {k : Nat} (v : Word)
    (hk : k ∉ [0x005, 0x010, 0x011, 0x016, 0x018, 0x01A, 0x022, 0x03F]) (hl : dbgNeed k ≤ dbgLevel s) :
    dbgWrite s k v = dacc (dbgPlain s k v) false k 0 0 := by
  simp only [List.mem_cons, List.not_mem_nil, or_false, not_or] at hk
  obtain ⟨h05, h10, h11, h16, h18, h1A, h22, h3F⟩ := hk
  rw [dbgWrite, if_neg h05, if_neg h10, if_neg h11, if_neg h16, if_neg h18, if_neg h1A, if_neg h22, if_neg h3F, atLevel_of_le hd hl]
  rfl

theorem exec_registerWrite_dbg (a : BitVec 10) (v : Word) (s : State) :
    exec (.registerWrite (.dbg a) v) s = .next (dbgWrite s a.toNat v) := by rfl

theorem registerWrite_dbg {s : State} (hd : s.dev ≠ .off) (a : BitVec 10) (v : Word) :
    (∀ k, a.toNat = k → k ∈ [0x015, 0x016] → dbgLevel s < 2 → exec (.registerWrite (.dbg a) v) s = .next (dacc s false k 2 0)) ∧
    (a = 0x015 → dbgLevel s = 2 → exec (.registerWrite (.dbg a) v) s = .next (dacc (dbgWr s 0x015 v) false 0x015 0 0)) ∧
    (a = 0x013 → 1 ≤ dbgLevel s → exec (.registerWrite (.dbg a) v) s = .next (dacc (dbgWr s 0x013 (v &&& 0x1F)) false 0x013 0 0)) ∧
    (a = 0x020 → 1 ≤ dbgLevel s → exec (.registerWrite (.dbg a) v) s = .next (dacc (dbgWr s 0x020 v) false 0x020 0 0)) ∧
    (∀ k, k < 8 → a.toNat = 8 + k → exec (.registerWrite (.dbg a) v) s = .next (dacc (dbgWr s (8 + k) v) false (8 + k) 0 0)) ∧
    (a = 0x000 → exec (.registerWrite (.dbg a) v) s = .next (dacc (dbgWr s 0 (dbgRd s 0 &&& ~~~ (v &&& 0x130))) false 0 0 0)) := by
  rw [exec_registerWrite_dbg]
  refine ⟨fun k ha hk hl => ?_, fun ha hl => ?_, fun ha hl => ?_, fun ha hl => ?_, fun k hk ha => ?_, fun ha => ?_⟩
  · simp only [List.mem_cons, List.not_mem_nil, or_false] at hk
    rcases hk with rfl | rfl
    · have hw : dbgWrite s 0x015 v = dacc s false 0x015 2 0 := (atLevel_below hd hl :
        atLevel s false 0x015 (dbgNeed 0x015) (fun s => dacc (dbgPlain s 0x015 v) false 0x015 respOk 0) = _)
      rw [ha, hw]
    · have hw : dbgWrite s 0x016 v = feedWrite s v := rfl
      rw [ha, hw, feedWrite, atLevel_below hd hl]
  · subst ha
    rw [show BitVec.toNat (0x015 : BitVec 10) = 0x015 from rfl, dbgWrite_plain hd (k := 0x015) v (by decide) (Nat.le_of_eq hl.symm)]
    rfl
  · subst ha
    rw [show BitVec.toNat (0x013 : BitVec 10) = 0x013 from rfl, dbgWrite_plain hd (k := 0x013) v (by decide) hl]
    rfl
  · subst ha
    rw [show BitVec.toNat (0x020 : BitVec 10) = 0x020 from rfl, dbgWrite_plain hd (k := 0x020) v (by decide) hl]
    rfl
  · have hneed : dbgNeed (8 + k) = 0 := by rw [dbgNeed, if_pos (.inr ⟨by omega, by omega⟩)]
    rw [ha, dbgWrite_plain hd v (by simp only [List.mem_cons, List.not_mem_nil, or_false]; omega) (hneed ▸ Nat.zero_le _)]
    rw [dbgPlain, if_neg (by omega), if_pos (.inl ⟨by omega, by omega⟩)]
  · subst ha
    rw [show BitVec.toNat (0x000 : BitVec 10) = 0 from rfl, dbgWrite_plain hd (k := 0x000) v (by decide) (Nat.zero_le _)]
    rfl

/-! #### Writes of registers over the slave port (R422) -/

theorem exec_registerWrite_host (h : Chan) (off : BitVec 20) (be : BitVec 4) (v : Word) (s : State) :
    exec (.registerWrite (.host h off be) v) s = .next (hostWrite s h.val off.toNat be v) := by rfl

/-- Outside its windows, a host's write at the slave port is one of a register: of a whole word, or an error. -/
theorem hostWrite_register {s : State} (hd : s.dev ≠ .off) (hr : s.dev ≠ .reset) (h : Nat) {off : Nat} (be : BitVec 4) (v : Word)
    (ho : off < 0xC000 ∨ 0x10000 ≤ off ∧ off < 0x40000) : hostWrite s h off be v =
      if off % 4 ≠ 0 ∨ be ≠ 0xF then answerErr s 0 else answerOk (slaveWrite s (38 + h) off v) [] := by
  rw [hostWrite, if_neg (by omega), if_neg (by omega), slaveWriteBe, if_neg (by simp [portRuns, hd, hr])]
  rfl

theorem slaveWrite_register {s : State} {m off : Nat} {v : Word} (ho : off < 0x1000 ∨ 0x9000 ≤ off) :
    (off = 0x10 → slaveWrite s m off v = hostWr s 0x10 (hostRd s 0x10 &&& ~~~ (v &&& 0xFF))) ∧
    (off = 0x14 → slaveWrite s m off v = hostWr s 0x14 (v &&& 0x3FF)) ∧
    (38 ≤ m → m < 46 → off = 0x20 + 4 * (m - 38) → slaveWrite s m off v = hostWr s off (v &&& 0xF)) ∧
    (0x20000 ≤ off → off < 0x20018 → slaveWrite s m off v = hostWr s off (v &&& 0x7F)) := by
  have hc : chanOf off = none := if_neg (by omega)
  unfold slaveWrite
  rw [hc]
  dsimp only
  rw [offHintstat, offHinten, offEvstat]
  refine ⟨fun h => ?_, fun h => ?_, fun h1 h2 h => ?_, fun h1 h2 => ?_⟩
  · rw [if_pos h, h]; rfl
  · rw [if_neg (by omega), if_pos h, h]; rfl
  · rw [if_neg (by omega), if_neg (by omega), if_neg (by omega), if_pos (by omega), if_pos (by omega)]; rfl
  · rw [if_neg (by omega), if_neg (by omega), if_neg (by omega), if_neg (by omega), if_neg (by omega), if_pos ⟨h1, h2⟩]; rfl

/-- A word of a channel's command buffer: refused while the channel holds a command. -/
theorem slaveWrite_buffer (s : State) (m : Nat) {c i : Nat} (v : Word) (hc : c < 8) (hi : i < 256) :
    slaveWrite s m (0x1400 + 0x1000 * c + 4 * i) v = mbxBuf s c i v := by
  have hoff : chanOf (0x1400 + 0x1000 * c + 4 * i) = some (c, 0x400 + 4 * i) := by
    rw [chanOf, if_pos (by omega)]
    congr 2 <;> omega
  rw [slaveWrite, hoff]
  dsimp only
  rw [if_neg (by omega), if_neg (by omega), if_pos (by omega)]
  congr 1
  omega

theorem chan_putChan (s : State) (c : Nat) (x : Mbx) : chan (putChan s c x) c = x := by simp [chan, putChan]

theorem chan_mbxBuf (s : State) (c i : Nat) (v : Word) :
    ((chan s c).st = 1 → chan (mbxBuf s c i v) c = { chan s c with rej := true }) ∧
    ((chan s c).st ≠ 1 → chan (mbxBuf s c i v) c = { chan s c with cmd := Sparse.set 0#32 (chan s c).cmd i v }) := by
  rw [mbxBuf]
  exact ⟨fun h => by rw [if_pos h]; exact chan_putChan s c _, fun h => by rw [if_neg h]; exact chan_putChan s c _⟩

theorem registerWrite_host {s : State} (hd : s.dev ≠ .off) (hr : s.dev ≠ .reset) (h : Chan) (off : BitVec 20) (be : BitVec 4) (v : Word)
    (ho : off.toNat < 0xC000 ∨ 0x10000 ≤ off.toNat ∧ off.toNat < 0x40000) :
    (off.toNat % 4 ≠ 0 ∨ be ≠ 0xF → exec (.registerWrite (.host h off be) v) s = .next { s with outResp := 2, outData := [] }) ∧
    (off.toNat % 4 = 0 → be = 0xF → ∃ t, exec (.registerWrite (.host h off be) v) s = .next { t with outResp := 0, outData := [] } ∧
      (off = 0x10 → t = hostWr s 0x10 (hostRd s 0x10 &&& ~~~ (v &&& 0xFF))) ∧
      (off = 0x14 → t = hostWr s 0x14 (v &&& 0x3FF)) ∧
      (off.toNat = 0x20 + 4 * h.val → t = hostWr s off.toNat (v &&& 0xF)) ∧
      (0x20000 ≤ off.toNat → off.toNat < 0x20018 → t = hostWr s off.toNat (v &&& 0x7F)) ∧
      (∀ c i, c < 8 → i < 256 → off.toNat = 0x1400 + 0x1000 * c + 4 * i →
        ((chan s c).st = 1 → chan t c = { chan s c with rej := true }) ∧
        ((chan s c).st ≠ 1 → chan t c = { chan s c with cmd := Sparse.set 0#32 (chan s c).cmd i v }))) := by
  have hh := h.isLt
  have hreg (hx : off.toNat < 0x1000 ∨ 0x9000 ≤ off.toNat) := slaveWrite_register (s := s) (m := 38 + h.val) (v := v) hx
  rw [exec_registerWrite_host, hostWrite_register hd hr _ _ _ ho]
  refine ⟨fun hbad => by rw [if_pos hbad]; rfl, fun h4 hbe => ⟨_, by rw [if_neg (by simp [h4, hbe])]; rfl, fun h => ?_, fun h => ?_,
    fun h => ?_, fun h1 h2 => ?_, fun c i hc hi h => ?_⟩⟩
  · have h' : off.toNat = 0x10 := congrArg BitVec.toNat h
    obtain ⟨hstat, -, -, -⟩ := hreg (by omega)
    exact hstat h'
  · have h' : off.toNat = 0x14 := congrArg BitVec.toNat h
    obtain ⟨-, hen, -, -⟩ := hreg (by omega)
    exact hen h'
  · obtain ⟨-, -, hctl, -⟩ := hreg (by omega)
    exact hctl (by omega) (by omega) (by omega)
  · obtain ⟨-, -, -, hwin⟩ := hreg (by omega)
    exact hwin h1 h2
  · rw [h, slaveWrite_buffer s _ v hc hi]
    exact chan_mbxBuf s c i v

end Sys2Proof.Machine
end

section
/-! PROOFS. Authentication, the reset request and the trace ring (R474, R475, R487). -/

namespace Sys2Proof.Machine

/-! #### Authentication (R474) -/

/-- The new challenge that every GO makes: the counter, and the time words (log 31). -/
def newChallenge (s : State) : State :=
  dbgWr (dbgWr { s with dbgSt := { s.dbgSt with counter := s.dbgSt.counter + 1 } } 0x002 (lo32 s.tb.now)) 0x003 (hi32 s.tb.now)

theorem newChallenge_eq (s : State) : ∃ g, newChallenge s = { s with dbg := g, dbgSt := { s.dbgSt with counter := s.dbgSt.counter + 1 } } :=
  ⟨_, rfl⟩
theorem dbgRd_newChallenge (s : State) : dbgRd (newChallenge s) 0 = dbgRd s 0 ∧ dbgRd (newChallenge s) 2 = lo32 s.tb.now ∧
    dbgRd (newChallenge s) 3 = hi32 s.tb.now := by
  refine ⟨?_, ?_, dbgRd_dbgWr _ _ _⟩
  · rw [newChallenge, dbgRd_dbgWr_ne _ _ (by decide), dbgRd_dbgWr_ne _ _ (by decide)]; rfl
  · rw [newChallenge, dbgRd_dbgWr_ne _ _ (by decide), dbgRd_dbgWr]

/-- The debugger's response for level `lvl` is the one that the device key asks for, and there is a key. -/
def Answers (s : State) (lvl : Nat) : Prop :=
  (∃ b ∈ fuseBytes s 0x140 8, b ≠ 0) ∧
    hmac256 (fuseBytes s 0x140 8) (wordsBytes [s.dbgSt.counter, dbgRd s 2, dbgRd s 3, rd s Reg.idBootcnt] ++ [BitVec.ofNat 8 lvl]) =
      wordsBytes ((List.range 8).map fun w => dbgRd s (8 + w))

theorem answers_iff (s : State) (lvl : Nat) :
    (((fuseBytes s 0x140 8).any (· ≠ 0) && decide (dbgAnswer s lvl = dbgResponse s)) = true) ↔ Answers s lvl := by
  rw [Bool.and_eq_true, List.any_eq_true, decide_eq_true_iff, Answers]
  simp only [decide_eq_true_iff]
  rfl

/-- The state in which a level was granted. -/
def levelGranted (s : State) (lvl : Nat) : State :=
  dbgWr { s with dbgSt := { s.dbgSt with granted := min lvl (dbgLvlSvc s) } } 0 (putFld (dbgRd s 0) 23 16 0)

/-- The state in which a wrong response was counted: the third locks the port out for a second. -/
def responseFailed (s : State) : State :=
  let n := satAdd 0xFF (fld (dbgRd s 0) 23 16) 1
  let s := dbgWr s 0 (putFld (dbgRd s 0) 23 16 n)
  if n ≥ 3 then { dbgFlag s 3 with dbgSt := { s.dbgSt with lockEnd := some (s.tb.now + oneSecond) } } else s

/-- What a GO leaves before the new challenge. -/
def judged (s : State) (lvl : Nat) : State :=
  if bit (dbgRd s 0) 3 then s
  else if lvl = 0 then { s with dbgSt := { s.dbgSt with granted := 0 } }
  else if (fuseBytes s 0x140 8).any (· ≠ 0) && decide (dbgAnswer s lvl = dbgResponse s) then levelGranted s lvl
  else responseFailed s

theorem judged_tb (s : State) (lvl : Nat) : (judged s lvl).tb = s.tb ∧ (judged s lvl).dbgSt.counter = s.dbgSt.counter := by
  unfold judged
  split
  · exact ⟨rfl, rfl⟩
  · split
    · exact ⟨rfl, rfl⟩
    · split
      · exact ⟨rfl, rfl⟩
      · unfold responseFailed
        dsimp only
        split
        · exact ⟨rfl, rfl⟩
        · exact ⟨rfl, rfl⟩

theorem lvlCap_eq_min (n : Nat) : lvlCap n = min 2 n := by
  unfold lvlCap
  split <;> omega

theorem satAdd_eq_min (lim n k : Nat) : satAdd lim n k = min lim (n + k) := by
  unfold satAdd
  split <;> omega

theorem authGo_eq (s : State) (v : Word) :
    authGo s v = dacc (newChallenge (judged s (min 2 (fld v 1 0)))) false 5 (if bit (dbgRd s 0) 3 then 2 else 0) 0 := by
  rw [← lvlCap_eq_min]
  unfold authGo judged
  generalize lvlCap (fld v 1 0) = lvl
  dsimp only
  split
  · next h => rfl
  · next h =>
    split
    · rfl
    · split
      · rfl
      · rfl

theorem responseFailed_counts (s : State) : (responseFailed s).dbgSt.granted = s.dbgSt.granted ∧
    fld (dbgRd (responseFailed s) 0) 23 16 = min 0xFF (fld (dbgRd s 0) 23 16 + 1) ∧
    (bit (dbgRd s 0) 3 = false → (bit (dbgRd (responseFailed s) 0) 3 = true ↔ 2 ≤ fld (dbgRd s 0) 23 16)) ∧
    (2 ≤ fld (dbgRd s 0) 23 16 → (responseFailed s).dbgSt.lockEnd = some (s.tb.now + 1000000000)) := by
  unfold responseFailed
  rw [satAdd_eq_min]
  generalize hn : min 0xFF (fld (dbgRd s 0) 23 16 + 1) = n
  have hcount : fld (putFld (dbgRd s 0) 23 16 n) 23 16 = n := by
    rw [fld_putFld (by decide) (by decide)]
    omega
  have hlock : bit (putFld (dbgRd s 0) 23 16 n) 3 = bit (dbgRd s 0) 3 := by
    rw [bit_putFld (by decide) (by decide), if_neg (by decide)]
  dsimp only
  split
  · next h3 =>
    refine ⟨rfl, ?_, fun _ => ?_, fun _ => rfl⟩
    · change fld (dbgRd (dbgFlag _ 3) 0) 23 16 = n
      rw [dbgFlag, dbgRd_dbgWr, dbgRd_dbgWr, fld_putBit (by decide) (by decide) (by decide), hcount]
    · change bit (dbgRd (dbgFlag _ 3) 0) 3 = true ↔ _
      rw [bit_dbgFlag _ (by decide)]
      exact ⟨fun _ => by omega, fun _ => rfl⟩
  · next h3 =>
    rw [dbgRd_dbgWr, hcount, hlock]
    refine ⟨rfl, rfl, fun hb => ?_, fun h2 => ?_⟩
    · rw [hb]
      exact ⟨fun h => absurd h Bool.false_ne_true, fun h => by omega⟩
    · omega

theorem debugAuth_judges {s : State} (hd : s.dev ≠ .off) (v : Word) :
    (bit v 2 = false → exec (.debugAuth v) s = .next (dacc s false 5 0 0)) ∧
    (bit v 2 = true → ∃ t, exec (.debugAuth v) s = .next (dacc t false 5 (if bit (dbgRd s 0) 3 then 2 else 0) 0) ∧
      t.dbgSt.counter = s.dbgSt.counter + 1 ∧ dbgRd t 2 = lo32 s.tb.now ∧ dbgRd t 3 = hi32 s.tb.now ∧
      (bit (dbgRd s 0) 3 = true → t.dbgSt.granted = s.dbgSt.granted ∧ dbgRd t 0 = dbgRd s 0) ∧
      (bit (dbgRd s 0) 3 = false → min 2 (fld v 1 0) = 0 → t.dbgSt.granted = 0 ∧ dbgRd t 0 = dbgRd s 0) ∧
      (bit (dbgRd s 0) 3 = false → min 2 (fld v 1 0) ≠ 0 → Answers s (min 2 (fld v 1 0)) →
        t.dbgSt.granted = min (min 2 (fld v 1 0)) (dbgLvlSvc s) ∧ fld (dbgRd t 0) 23 16 = 0) ∧
      (bit (dbgRd s 0) 3 = false → min 2 (fld v 1 0) ≠ 0 → ¬ Answers s (min 2 (fld v 1 0)) → t.dbgSt.granted = s.dbgSt.granted ∧
        fld (dbgRd t 0) 23 16 = min 0xFF (fld (dbgRd s 0) 23 16 + 1) ∧ (bit (dbgRd t 0) 3 = true ↔ 2 ≤ fld (dbgRd s 0) 23 16) ∧
        (2 ≤ fld (dbgRd s 0) 23 16 → t.dbgSt.lockEnd = some (s.tb.now + 1000000000)))) := by
  have hw : authWrite s v = if bit v 2 then authGo s v else dacc s false 0x005 respOk 0 := by rw [authWrite, dbgLive_of_ne hd]; rfl
  rw [exec_debugAuth, hw]
  refine ⟨fun h => by rw [if_neg (by simp [h])]; rfl, fun h => ?_⟩
  rw [if_pos h, authGo_eq]
  generalize min 2 (fld v 1 0) = lvl
  obtain ⟨htb, hcounter⟩ := judged_tb s lvl
  have hlocked : bit (dbgRd s 0) 3 = true → judged s lvl = s := fun h3 => if_pos h3
  have hcase : bit (dbgRd s 0) 3 = false → judged s lvl = if lvl = 0 then { s with dbgSt := { s.dbgSt with granted := 0 } }
      else if (fuseBytes s 0x140 8).any (· ≠ 0) && decide (dbgAnswer s lvl = dbgResponse s) then levelGranted s lvl else responseFailed s :=
    fun h3 => if_neg (by simp [h3])
  have hzero : bit (dbgRd s 0) 3 = false → lvl = 0 → judged s lvl = { s with dbgSt := { s.dbgSt with granted := 0 } } :=
    fun h3 h0 => by rw [hcase h3, if_pos h0]
  have hgood : bit (dbgRd s 0) 3 = false → lvl ≠ 0 → Answers s lvl → judged s lvl = levelGranted s lvl :=
    fun h3 h0 ha => by rw [hcase h3, if_neg h0, if_pos ((answers_iff s lvl).mpr ha)]
  have hbad : bit (dbgRd s 0) 3 = false → lvl ≠ 0 → ¬ Answers s lvl → judged s lvl = responseFailed s :=
    fun h3 h0 ha => by rw [hcase h3, if_neg h0, if_neg (mt (answers_iff s lvl).mp ha)]
  clear hcase
  generalize judged s lvl = u at htb hcounter hlocked hzero hgood hbad
  obtain ⟨h0, h2, h3⟩ := dbgRd_newChallenge u
  obtain ⟨g, hg⟩ := newChallenge_eq u
  refine ⟨_, rfl, ?_⟩
  rw [h0, h2, h3, htb]
  rw [hg]
  dsimp only
  rw [hcounter]
  refine ⟨rfl, rfl, rfl, fun hb => ?_, fun hb hz => ?_, fun hb hz ha => ?_, fun hb hz ha => ?_⟩
  · rw [hlocked hb]; exact ⟨rfl, rfl⟩
  · rw [hzero hb hz]; exact ⟨rfl, rfl⟩
  · rw [hgood hb hz ha, levelGranted, dbgRd_dbgWr, fld_putFld (by decide) (by decide)]; exact ⟨rfl, rfl⟩
  · rw [hbad hb hz ha]
    obtain ⟨hgr, hcnt, hlk, hend⟩ := responseFailed_counts s
    exact ⟨hgr, hcnt, hlk hb, hend⟩

/-! #### The reset request (R475) -/

theorem keepTerms_dev (s t : State) : (keepTerms s t).dev = t.dev := 
  foldl_keeps State.dev (f := fun (st : State) (p : Nat × Engine) => putEng st p.1 { eng st p.1 with term := p.2.term }) (fun _ _ => rfl) s.engs t

theorem devReset_dev (s : State) (r : RstSrc) : (devReset s r).dev = .reset :=
  keepTerms_dev s (outlive (flashCuts s) State.reset)

theorem rb_devReset_debug (s : State) : rb (devReset s .debug) Reg.idRstsrc 4 = true := by
  rw [rb, devReset]
  dsimp only
  rw [rd_wr, bit_or, bit_ofNat _ (by decide)]
  simp only [srcBit, Bool.or_eq_true]
  exact .inr (by decide)

theorem debugResetRequest_resets {s : State} (hd : s.dev ≠ .off) (hl : dbgLevel s = 2) (v : Word) :
    (bit v 0 = false → exec (.debugResetRequest v) s = .next (dacc s false 0x03F 0 0)) ∧
    (bit v 0 = true → ∃ t, exec (.debugResetRequest v) s = .next t ∧ t.dev = .reset ∧ rb t Reg.idRstsrc 4 = true) := by
  rw [exec_debugResetRequest, atLevel_of_le hd (Nat.le_of_eq hl.symm)]
  refine ⟨fun h => by rw [if_neg (by simp [h])],
    fun h => ⟨devReset (dacc s false 0x03F 0 0) .debug, ?_, devReset_dev _ _, rb_devReset_debug _⟩⟩
  have hr : resetAssert (dacc s false 0x03F 0 0) .debug = devReset (dacc s false 0x03F 0 0) .debug := if_neg hd
  rw [if_pos h, hr]

/-! #### The trace ring (R487) -/

theorem traceWrite_records {s : State} {x y : Word} {r : List (Word × Word)} (htr : s.dbgSt.trace = (x, y) :: r) (hd : s.dev ≠ .off)
    (hr : s.dev ≠ .reset) (hlen : 8 ≤ (dbgRd s 0x032).toNat)
    (ha : ((dbgRd s 0x031 &&& 0xFFFFFFF8) + BitVec.ofNat 32 (tracePtr s)).toNat < 0x80000000) :
    exec .traceWrite s = .next (mWrites
      (dbgWr { s with dbgSt := { s.dbgSt with trace := r } } 0x033 (BitVec.ofNat 32 (traceNext s)))
      (wordBytes x ++ wordBytes y)
      [(((dbgRd s 0x031 &&& 0xFFFFFFF8) + BitVec.ofNat 32 (tracePtr s)).toNat, 4),
       (((dbgRd s 0x031 &&& 0xFFFFFFF8) + BitVec.ofNat 32 (tracePtr s)).toNat + 4, 4)]).1 := by
  have hmask : (0xFFFFFFF8 : Word) = 0xFFFFFFF8#32 := rfl
  rw [hmask] at ha ⊢
  rw [exec_traceWrite, traceWrite, htr]
  dsimp only
  rw [if_neg (by simp [hd, hr]), if_neg (by omega), if_pos ha]

theorem traceWrite_empty {s : State} (h : s.dbgSt.trace = []) : exec .traceWrite s = .next s := by
  rw [exec_traceWrite, traceWrite, h]

end Sys2Proof.Machine
end

section
/-! PROOFS. The stack of a halted engine, and instructions fed to it (R479). -/

namespace Sys2Proof.Machine

/-! #### The stack of a halted engine (R479) -/

theorem exec_feed_go {v : Word} (h : bit v 11 = true) (s : State) : exec (.feed v) s = .next (feedWrite s v) := by
  rw [exec_feed, if_pos h]

/-- A Lockstep leader's checker follows it; the leader stays as it is. -/
@[simp] theorem eng_mirror (s : State) (e : Nat) : eng (mirror s e) e = eng s e := by
  unfold mirror
  split
  · exact eng_putEng_ne _ _ (by omega)
  · rfl
@[simp] theorem mirror_mem (s : State) (e : Nat) : (mirror s e).mem = s.mem := by
  unfold mirror
  split
  · rfl
  · rfl

/-- Cells that are all in the cache are taken there: nothing is filled, and nothing is spilled while there is room for the pushes (R126). -/
theorem run_popN_cached {e n p : Nat} {s : State} (hdepth : n ≤ (eng s e).ddepth.toNat) (hcells : n ≤ (eng s e).cells.length)
    (hroom : (eng s e).cells.length - n + p ≤ 32) :
    (popN e n p).run s = .ok ((eng s e).cells.take n, putEng s e
      { eng s e with cells := (eng s e).cells.drop n, ddepth := (eng s e).ddepth - BitVec.ofNat 32 n }) := by
  have hfill : (fillTo e n).run s = .ok ((), s) := by
    refine run_bind_of (run_getE e s) ?_
    rw [if_neg (Nat.not_lt.mpr hcells), run_pure]
  have hmake : (makeRoom e n p).run s = .ok ((), s) := by
    refine run_bind_of (run_getE e s) ?_
    rw [if_neg (show ¬ _ > cacheDepth from Nat.not_lt.mpr hroom), run_pure]
  refine run_bind_of (run_getE e s) ?_
  rw [if_neg (Nat.not_lt.mpr hdepth)]
  exact run_bind_of hfill (run_bind_of hmake (run_bind_of (run_getE e s) rfl))

/-- Work that stops, stops what follows it. -/
theorem run_bind_error {α β : Type} {m : EM α} {f : α → EM β} {s : State} {x : Stop} (h : m.run s = .error x) :
    (m >>= f).run s = .error x := by
  rw [StateT.run_bind, h]; rfl

theorem run_popN_short {e n p : Nat} {s : State} (h : (eng s e).ddepth.toNat < n) :
    (popN e n p).run s = .error (.fault vStack none s.dbg) := by
  refine run_bind_of (run_getE e s) ?_
  rw [if_pos h]
  exact run_bind_error (run_raise _ _ _)

theorem xfer_running {s : State} (hd : s.dev ≠ .off) (hl : dbgLevel s = 2) (h : engHalted s (dbgEng s) = false) (rnw : Bool)
    (work : Nat → EM Word) : xfer s rnw work = dacc s rnw 0x018 3 0 := by
  rw [xfer, atLevel_of_le hd (Nat.le_of_eq hl.symm)]
  dsimp only
  rw [if_pos (by simp [h])]
  rfl

/-- Work that succeeds on the halted engine leaves the engine as the work did. -/
theorem xfer_done {s t : State} (hd : s.dev ≠ .off) (hl : dbgLevel s = 2) (h : engHalted s (dbgEng s) = true) {rnw : Bool}
    {work : Nat → EM Word} {v : Word} (hw : (work (dbgEng s)).run (stillWeir s (dbgEng s)) = .ok (v, t)) :
    ∃ u, xfer s rnw work = dacc u rnw 0x018 0 v ∧ eng u (dbgEng s) = eng t (dbgEng s) ∧ u.mem = t.mem := by
  refine ⟨mirror (backWeir s t (dbgEng s)) (dbgEng s), ?_, ?_, ?_⟩
  · rw [xfer, atLevel_of_le hd (Nat.le_of_eq hl.symm)]
    dsimp only
    rw [if_neg (by simp [h]), hw]
    rfl
  · rw [eng_mirror, backWeir, eng_putGrv]
  · rw [mirror_mem]; rfl

/-- A pop of a stack with no cell has no effect. -/
theorem xfer_faults {s : State} (hd : s.dev ≠ .off) (hl : dbgLevel s = 2) (h : engHalted s (dbgEng s) = true) {rnw : Bool}
    {work : Nat → EM Word} {k : Nat} {d : Option Denial} {g : Sparse Word}
    (hw : (work (dbgEng s)).run (stillWeir s (dbgEng s)) = .error (.fault k d g)) : xfer s rnw work = dacc s rnw 0x018 3 0 := by
  rw [xfer, atLevel_of_le hd (Nat.le_of_eq hl.symm)]
  dsimp only
  rw [if_neg (by simp [h]), hw]
  rfl

theorem xferPush_pushes {s : State} (hd : s.dev ≠ .off) (hl : dbgLevel s = 2) (h : engHalted s (dbgEng s) = true) (v : Word)
    (hroom : (eng s (dbgEng s)).cells.length < 32) :
    ∃ t, exec (.xferPush v) s = .next (dacc t false 0x018 0 0) ∧ (eng t (dbgEng s)).cells = v :: (eng s (dbgEng s)).cells ∧
      (eng t (dbgEng s)).ddepth = (eng s (dbgEng s)).ddepth + 1 ∧ t.mem = s.mem := by
  have hpop := run_popN_cached (e := dbgEng s) (n := 0) (p := 1) (s := stillWeir s (dbgEng s)) (Nat.zero_le _) (Nat.zero_le _) hroom
  obtain ⟨t, hx, he, hm⟩ := xfer_done hd hl h (rnw := false)
    (work := fun e => do let _ ← popN e 0 1; pushN e [v]; pure 0) (run_bind_of hpop (run_bind_of (run_pushN _ _ _) (run_pure 0 _)))
  refine ⟨t, by rw [exec_xferPush, xferPush, hx], ?_⟩
  have heng : eng (stillWeir s (dbgEng s)) (dbgEng s) = eng s (dbgEng s) := rfl
  rw [he, hm, eng_onEng, eng_putEng, heng]
  refine ⟨rfl, ?_, rfl⟩
  simp only [pushed, BitVec.ofNat_eq_ofNat, BitVec.sub_zero]
  rfl

theorem xferPop_pops {s : State} (hd : s.dev ≠ .off) (hl : dbgLevel s = 2) (h : engHalted s (dbgEng s) = true) {v : Word} {r : List Word}
    (hc : (eng s (dbgEng s)).cells = v :: r) (hr : r.length < 32) (hdepth : 0 < (eng s (dbgEng s)).ddepth.toNat) :
    ∃ t, exec .xferPop s = .next (dacc t true 0x018 0 v) ∧ (eng t (dbgEng s)).cells = r ∧
      (eng t (dbgEng s)).ddepth = (eng s (dbgEng s)).ddepth - 1 ∧ t.mem = s.mem := by
  have heng : eng (stillWeir s (dbgEng s)) (dbgEng s) = eng s (dbgEng s) := rfl
  have hpop := run_popN_cached (e := dbgEng s) (n := 1) (p := 0) (s := stillWeir s (dbgEng s)) (by rw [heng]; exact hdepth)
    (by rw [heng, hc, List.length_cons]; omega) (by rw [heng, hc, List.length_cons]; omega)
  obtain ⟨t, hx, he, hm⟩ := xfer_done hd hl h (rnw := true) (work := fun e => pop1 e 0) (run_bind_of hpop (run_pure _ _))
  have hv : nth ((eng (stillWeir s (dbgEng s)) (dbgEng s)).cells.take 1) 0 = v := by rw [heng, hc]; rfl
  refine ⟨t, by rw [exec_xferPop, xferPop, hx, hv], ?_⟩
  rw [he, hm, eng_putEng, heng]
  dsimp only
  rw [hc]
  exact ⟨rfl, rfl, rfl⟩

theorem xferPop_empty {s : State} (hd : s.dev ≠ .off) (hl : dbgLevel s = 2) (h : engHalted s (dbgEng s) = true)
    (hdepth : (eng s (dbgEng s)).ddepth = 0) : exec .xferPop s = .next (dacc s true 0x018 3 0) := by
  have hz : (eng (stillWeir s (dbgEng s)) (dbgEng s)).ddepth.toNat < 1 := by
    change (eng s (dbgEng s)).ddepth.toNat < 1
    rw [hdepth]; decide
  have hpop : (pop1 (dbgEng s) 0).run (stillWeir s (dbgEng s)) = .error (.fault vStack none s.dbg) := by
    exact run_bind_error (run_popN_short hz)
  rw [exec_xferPop, xferPop, xfer_faults hd hl h hpop]

/-! #### Feeding an instruction (R479) -/

/-- The instruction that DBG_FEED0 and a write of DBG_FEED1 spell. -/
def fedInsn (s : State) (e : Nat) (v : Word) : Option (Nat × EM Unit) :=
  feedInsn e ((dbgRd s 0x015).extractLsb' (8 * 0) 8) ((dbgRd s 0x015).extractLsb' (8 * 1) 8)
    (bytesWord ((dbgRd s 0x015).extractLsb' (8 * 1) 8) ((dbgRd s 0x015).extractLsb' (8 * 2) 8) ((dbgRd s 0x015).extractLsb' (8 * 3) 8)
      (v.extractLsb' 0 8))

theorem feedWrite_running {s : State} (hd : s.dev ≠ .off) (hl : dbgLevel s = 2) {v : Word} (hv : bit v 11 = true)
    (h : engHalted s (dbgEng s) = false) : feedWrite s v = dacc s false 0x016 3 0 := by
  rw [feedWrite, atLevel_of_le hd (Nat.le_of_eq hl.symm)]
  dsimp only
  rw [if_neg (by simp [hv]), if_pos (by simp [h])]
  rfl

theorem feedWrite_halted {s : State} (hd : s.dev ≠ .off) (hl : dbgLevel s = 2) {v : Word} (hv : bit v 11 = true)
    (h : engHalted s (dbgEng s) = true) : feedWrite s v =
      match fedInsn s (dbgEng s) v with
      | some (n, body) => if n = fld v 10 8 then feedRun (dbgWr s 0x016 (v &&& 0x7FF)) (dbgEng s) n body
          else dacc (fres (dbgWr s 0x016 (v &&& 0x7FF)) (some vIllegal)) false 0x016 respOk 0
      | none => dacc (fres (dbgWr s 0x016 (v &&& 0x7FF)) (some vIllegal)) false 0x016 respOk 0 := by
  rw [feedWrite, atLevel_of_le hd (Nat.le_of_eq hl.symm)]
  dsimp only
  rw [if_neg (by simp [hv]), if_neg (by simp [h]), dbgRd_dbgWr_ne _ _ (by decide)]
  rfl

theorem feedWrite_refuses {s : State} (hd : s.dev ≠ .off) (hl : dbgLevel s = 2) {v : Word} (hv : bit v 11 = true)
    (h : engHalted s (dbgEng s) = true) (hi : ∀ body, fedInsn s (dbgEng s) v ≠ some (fld v 10 8, body)) :
    feedWrite s v = dacc (dbgWr (dbgWr s 0x016 (v &&& 0x7FF)) 0x017 (BitVec.ofNat 32 (2 + 4 * 1))) false 0x016 0 0 := by
  rw [feedWrite_halted hd hl hv h]
  cases hf : fedInsn s (dbgEng s) v with
  | none => rfl
  | some q =>
    obtain ⟨n, body⟩ := q
    have hn : n ≠ fld v 10 8 := fun hn => hi body (hn ▸ hf)
    dsimp only
    rw [if_neg hn]
    rfl

theorem feedWrite_runs {s : State} (hd : s.dev ≠ .off) (hl : dbgLevel s = 2) {v : Word} (hv : bit v 11 = true)
    (h : engHalted s (dbgEng s) = true) {body : EM Unit} (hi : fedInsn s (dbgEng s) v = some (fld v 10 8, body)) :
    feedWrite s v = feedRun (dbgWr s 0x016 (v &&& 0x7FF)) (dbgEng s) (fld v 10 8) body := by
  rw [feedWrite_halted hd hl hv h, hi]
  exact if_pos rfl

theorem feedRun_done {t u : State} {e len : Nat} {body : EM Unit} (h : body.run (feedStart t e len) = .ok ((), u)) :
    ∃ w, feedRun t e len body = dacc w false 0x016 0 0 ∧
      dbgRd w 0x017 = (match (eng u e).dueTrap with | none => 0 | some k => BitVec.ofNat 32 (2 + 4 * k)) ∧
      (eng w e).pc = (if (eng u e).foldAt.isNone then (eng u e).pc else (eng t e).pc) ∧ (eng w e).cells = (eng u e).cells ∧
      (eng w e).stat = (eng u e).stat ∧ (eng w e).dueTrap = (eng t e).dueTrap ∧ w.mem = u.mem := by
  have heng (x : Option Nat) : eng (fres (feedEnd t u e) x) e = { eng u e with
      pc := if (eng u e).foldAt.isNone then (eng u e).pc else (eng t e).pc, dueTrap := (eng t e).dueTrap,
      inEntry := (eng t e).inEntry, foldAt := none } := by
    change eng (feedEnd t u e) e = _
    rw [feedEnd, eng_mirror, eng_putEng]
  have hmem (x : Option Nat) : (fres (feedEnd t u e) x).mem = u.mem := by
    change (feedEnd t u e).mem = _
    rw [feedEnd, mirror_mem]
    rfl
  refine ⟨fres (feedEnd t u e) (eng u e).dueTrap, ?_, ?_, ?_⟩
  · rw [feedRun, h]
    rfl
  · cases (eng u e).dueTrap with
    | none => exact dbgRd_dbgWr _ _ _
    | some k => exact dbgRd_dbgWr _ _ _
  · rw [heng, hmem]
    exact ⟨rfl, rfl, rfl, rfl, rfl⟩

theorem feedRun_faults {t : State} {e len k : Nat} {body : EM Unit} {g : Sparse Word}
    (h : body.run (feedStart t e len) = .error (.fault k none g)) :
    feedRun t e len body = dacc (dbgWr { t with dbg := g } 0x017 (BitVec.ofNat 32 (2 + 4 * k))) false 0x016 0 0 := by
  rw [feedRun, h]
  rfl

end Sys2Proof.Machine
end

section
/-! PROOFS. The memory master (R483). -/

namespace Sys2Proof.Machine

/-! #### Bytes of a word -/

theorem bytesWord_wordBytes (v : Word) :
    bytesWord (v.extractLsb' 0 8) (v.extractLsb' 8 8) (v.extractLsb' 16 8) (v.extractLsb' 24 8) = v := by
  refine BitVec.eq_of_getLsbD_eq fun i hi => ?_
  simp only [bytesWord, BitVec.getLsbD_append, BitVec.getLsbD_extractLsb']
  split
  · next h => simp [h]
  · next h0 =>
    split
    · next h => simp [h, show 8 + (i - 8) = i by omega]
    · next h1 =>
      split
      · next h => simp [h, show 16 + (i - 8 - 8) = i by omega]
      · next h2 => simp [show i - 8 - 8 - 8 < 8 by omega, show 24 + (i - 8 - 8 - 8) = i by omega]

theorem bytesVal_wordBytes (v : Word) : bytesVal (wordBytes v) = v := bytesWord_wordBytes v

/-- The four bytes of a word, stored as one piece, are the whole word (R340). -/
theorem byteMask_wordBytes (v : Word) : byteMask 0 (wordBytes v) = (BitVec.allOnes 32, v) := by
  refine Prod.ext (by rfl) ?_
  refine BitVec.eq_of_getLsbD_eq fun i hi => ?_
  simp only [wordBytes, byteMask, BitVec.getLsbD_or, BitVec.getLsbD_shiftLeft, BitVec.getLsbD_setWidth, BitVec.getLsbD_extractLsb']
  simp only [hi, decide_true, Bool.true_and, Nat.zero_add, Nat.mul_one, Nat.mul_zero, Nat.sub_zero]
  grind

/-! #### A tarn word stored whole (R133, R138, R341) -/

theorem clearRsv_keeps {α : Type} (view : State → α) (h : ∀ (st : State) (e : Nat) (x : Engine), view (putEng st e x) = view st)
    (s : State) (m a : Nat) : view (clearRsv s m a) = view s := by
  refine foldl_keeps view (fun st p => ?_) s.engs s
  dsimp only
  split
  · exact h _ _ _
  · rfl

/-- The tarn word, whole, and the reservations that its write clears. -/
theorem writeTarn_word {s : State} {t w : Nat} (h : bufIndex s t w = none) (m : Nat) (v : Word) :
    writeTarn s t w m (BitVec.allOnes 32) v = (clearRsv (storeTarn s t w v) m (tarnAddr t w), some ()) := by
  rw [writeTarn, h]
  exact if_pos rfl

theorem storeTarn_eq (s : State) (t w : Nat) (v : Word) : ∃ q, storeTarn s t w v =
    { s with mem := (putBytes s (tarnAddr t w) (wordBytes v)).mem,
             tarnErr := Sparse.set .good s.tarnErr (t * 32768 + w) .good, corrQ := q } := by
  rw [storeTarn, putTarnRaw, putWord]
  have hput := putBytes_eq s (wordBytes v) (tarnAddr t w)
  generalize putBytes s (tarnAddr t w) (wordBytes v) = u at hput ⊢
  generalize u.mem = m at hput ⊢
  subst hput
  exact ⟨_, rfl⟩

theorem byteAt_congr {s t : State} (h : t.mem = s.mem) (a : Nat) : byteAt t a = byteAt s a := by rw [byteAt, byteAt, h]

theorem wordAt_putBytes (s : State) (a : Nat) (v : Word) : wordAt (putBytes s a (wordBytes v)) a = v := by
  have hb (i : Nat) (hi : i < 4) : byteAt (putBytes s a (wordBytes v)) (a + i) = (wordBytes v).getD i 0 := byteAt_putBytes_in _ _ hi
  have h0 : byteAt (putBytes s a (wordBytes v)) a = (wordBytes v).getD 0 0 := hb 0 (by decide)
  rw [wordAt, h0, hb 1 (by decide), hb 2 (by decide), hb 3 (by decide)]
  exact bytesWord_wordBytes v

/-- What holds of a tarn word after its store, and of every other byte. -/
theorem storedTarn {s u : State} {t w : Nat} {v : Word} (hm : u.mem = (storeTarn s t w v).mem) (he : u.tarnErr = (storeTarn s t w v).tarnErr) :
    tarnRaw u t w = v ∧ tarnCls u t w = .good ∧ ∀ k, k < tarnAddr t w ∨ tarnAddr t w + 4 ≤ k → byteAt u k = byteAt s k := by
  obtain ⟨q, hq⟩ := storeTarn_eq s t w v
  rw [hq] at hm he
  dsimp only at hm he
  have hbyte (k : Nat) : byteAt u k = byteAt (putBytes s (tarnAddr t w) (wordBytes v)) k := byteAt_congr hm k
  refine ⟨?_, ?_, fun k hk => (hbyte k).trans (byteAt_putBytes_out s (wordBytes v) hk)⟩
  · rw [tarnRaw, wordAt, hbyte, hbyte, hbyte, hbyte]
    exact wordAt_putBytes s _ v
  · rw [tarnCls, he]
    exact Sparse.get_set_self TarnErr.good s.tarnErr (t * 32768 + w) .good

/-! #### The memory master (R483) -/

theorem mStep_io {s : State} (h : fld (dbgRd s 0x021) 1 0 = 1) : mStep s = 1 := by
  rw [mStep, h]
  rfl
theorem mSize_word {s : State} (h : fld (dbgRd s 0x021) 3 2 = 2) : mSize s = 4 :=
  congrArg (HPow.hPow 2) h
theorem mStep_word {s : State} (h0 : fld (dbgRd s 0x021) 1 0 = 0) (h : fld (dbgRd s 0x021) 3 2 = 2) : mStep s = 4 := by
  rw [mStep, h0]
  exact mSize_word h

theorem mAdvance_eq {s : State} {n : Nat} (h : mStep s = n) : mAdvance s =
    if bit (dbgRd s 0x021) 4 then dbgWr s 0x020 (BitVec.ofNat 32 ((dbgRd s 0x020).toNat + n)) else s := by
  rw [mAdvance, h, BitVec.ofNat_add, BitVec.ofNat_toNat, BitVec.setWidth_eq]

/-- Only DBG_MADDR advances. -/
theorem mAdvance_only (s : State) : ∃ g, mAdvance s = { s with dbg := g } := by
  unfold mAdvance
  split
  · exact ⟨_, rfl⟩
  · exact ⟨_, rfl⟩
theorem dbgRd_mAdvance (s : State) {a : Nat} (h : a ≠ 0x020) : dbgRd (mAdvance s) a = dbgRd s a := by
  unfold mAdvance
  split
  · exact dbgRd_dbgWr_ne _ _ h
  · rfl

theorem mdataRead_of {s : State} (hd : s.dev ≠ .off) (hl : 1 ≤ dbgLevel s) : mdataRead s = mFinish true (mAccessRead s) :=
  atLevel_of_le hd hl
theorem mdataWrite_of {s : State} (hd : s.dev ≠ .off) (hl : dbgLevel s = 2) (v : Word) : mdataWrite s v = mFinish false (mAccessWrite s v) :=
  atLevel_of_le hd (Nat.le_of_eq hl.symm)

theorem mdataRead_io {s : State} (hd : s.dev ≠ .off) (hr : s.dev ≠ .reset) (hl : 1 ≤ dbgLevel s) (h : fld (dbgRd s 0x021) 1 0 = 1) :
    exec .mdataRead s = .next (dacc (mAdvance s) true 0x022 0 (ioValue s (reqOf s 46) ((dbgRd s 0x020).toNat % 65536))) := by
  have ha : mAccessRead s = (s, .ok (ioValue s (reqOf s 46) ((dbgRd s 0x020).toNat % 65536))) := by
    rw [mAccessRead]
    rw [if_neg hr, h]
    rfl
  rw [exec_mdataRead, mdataRead_of hd hl, ha]
  rfl

theorem mdataWrite_io {s : State} (hd : s.dev ≠ .off) (hr : s.dev ≠ .reset) (hl : dbgLevel s = 2) (h : fld (dbgRd s 0x021) 1 0 = 1)
    (v : Word) : exec (.mdataWrite v) s = .next (mFinish false (mIoWrite s ((dbgRd s 0x020).toNat % 65536) v)) := by
  have ha : mAccessWrite s v = mIoWrite s ((dbgRd s 0x020).toNat % 65536) v := by
    rw [mAccessWrite]
    rw [if_neg hr, h]
    rfl
  rw [exec_mdataWrite, mdataWrite_of hd hl, ha]

/-- A write in IO-space that is done, and one that the journal refuses (R396). -/
theorem mFinish_mIoWrite {s u : State} {a : Nat} {v : Word} :
    (ioPut s (reqOf s 46) a v false = .done u → mFinish false (mIoWrite s a v) = dacc (mAdvance u) false 0x022 0 0) ∧
    (ioPut s (reqOf s 46) a v false = .full u → mFinish false (mIoWrite s a v) =
      dacc (mAdvance (dbgWr u 0 (putFld (putBit (dbgRd u 0) 5 true) 7 6 3))) false 0x022 3 0) := by
  rw [mIoWrite, mReq]
  exact ⟨fun h => by rw [h]; rfl, fun h => by rw [h]; rfl⟩

/-- An aligned word is one piece. -/
theorem piecesOf_word {a : Nat} (h : a % 4 = 0) : piecesOf a 4 = [(a, 4)] := if_pos h

theorem placeOf_tarn {a t w : Nat} (h : placeOf a = .tarn t w) (h4 : a % 4 = 0) : tarnAddr t w = a := by
  unfold placeOf at h
  split at h
  · cases h
  · split at h
    · cases h
      rw [tarnAddr]
      omega
    · split at h
      · cases h
      · cases h

theorem mAccessRead_word {s : State} (hr : s.dev ≠ .reset) (h0 : fld (dbgRd s 0x021) 1 0 = 0) (hz : fld (dbgRd s 0x021) 3 2 = 2)
    (h4 : (dbgRd s 0x020).toNat % 4 = 0) : mAccessRead s = mReads s 0 0 [((dbgRd s 0x020).toNat, 4)] := by
  rw [mAccessRead]
  rw [if_neg hr, h0]
  rw [mSize_word hz, piecesOf_word h4]
  rfl

theorem mAccessWrite_word {s : State} (hr : s.dev ≠ .reset) (h0 : fld (dbgRd s 0x021) 1 0 = 0) (hz : fld (dbgRd s 0x021) 3 2 = 2)
    (h4 : (dbgRd s 0x020).toNat % 4 = 0) (v : Word) : mAccessWrite s v = mWrites s (wordBytes v) [((dbgRd s 0x020).toNat, 4)] := by
  rw [mAccessWrite]
  rw [if_neg hr, h0]
  rw [mSize_word hz, piecesOf_word h4]
  rfl

theorem mReads_tarn {s : State} {a t w : Nat} (hp : placeOf a = .tarn t w) (h4 : a % 4 = 0)
    (hc : checkMem s (reqOf s 46) a needR spData = none) (hu : tarnUp s t = true) (hg : tarnCls s t w = .good) :
    mReads s 0 0 [(a, 4)] = (s, .ok (tarnRaw s t w)) := by
  have hread : readTarn s t w 46 = (s, some (tarnRaw s t w)) := by rw [readTarn, hg]
  have hone : mRead s a 4 = (s, .ok (tarnRaw s t w)) := by
    rw [mRead, hp]
    dsimp only
    rw [mReq, hc]
    dsimp only
    rw [if_neg (by simp [hu]), hread]
    dsimp only
    rw [h4]
    exact congrArg (fun v => (s, MEnd.ok v)) (bytesVal_wordBytes _)
  rw [mReads, hone]
  dsimp only
  rw [mReads, BitVec.shiftLeft_zero]
  exact congrArg (fun v => (s, MEnd.ok v)) BitVec.zero_or

theorem mReads_denied {s : State} {a t w : Nat} {d : Denial} (hp : placeOf a = .tarn t w)
    (hc : checkMem s (reqOf s 46) a needR spData = some d) : mReads s 0 0 [(a, 4)] = (logDenial s d, .fail 1) := by
  have hone : mRead s a 4 = (logDenial s d, .fail 1) := by
    rw [mRead, hp]
    dsimp only
    rw [mReq, hc]
    rfl
  rw [mReads, hone]

theorem mWrites_tarn {s : State} {a t w : Nat} (hp : placeOf a = .tarn t w) (h4 : a % 4 = 0)
    (hc : checkMem s (reqOf s 46) a needW spData = none) (hu : tarnUp s t = true) (hb : bufIndex s t w = none) (v : Word) :
    mWrites s (wordBytes v) [(a, 4)] = (clearRsv (storeTarn s t w v) 46 (tarnAddr t w), .ok 0) := by
  have hone : mWrite s a (wordBytes v) = (clearRsv (storeTarn s t w v) 46 (tarnAddr t w), .ok 0) := by
    rw [mWrite, hp]
    dsimp only
    rw [mReq, hc]
    dsimp only
    rw [if_neg (by simp [hu]), h4, byteMask_wordBytes]
    dsimp only
    rw [writeTarn_word hb]
  have htake : (wordBytes v).take 4 = wordBytes v := rfl
  rw [mWrites, htake, hone]
  rfl

theorem logDenial_mem (s : State) (d : Denial) : (logDenial s d).mem = s.mem := by
  rw [logDenial, record_mem]
  split
  · exact bump_mem _ _ _ _ _
  · rw [wr_mem, wr_mem, bump_mem]

/-- A failed access sets MERR and MKIND, and changes no memory. -/
theorem mFinish_fail (rnw : Bool) (s : State) {k : Nat} (hk : k < 4) :
    ∃ u, mFinish rnw (s, .fail k) = dacc u rnw 0x022 3 0 ∧ bit (dbgRd u 0) 5 = true ∧ fld (dbgRd u 0) 7 6 = k ∧ u.mem = s.mem := by
  refine ⟨_, rfl, ?_, ?_, ?_⟩
  · rw [dbgRd_mAdvance _ (by decide), dbgRd_dbgWr, bit_putFld (by decide) (by decide), if_neg (by decide), bit_putBit (by decide)]
    rfl
  · rw [dbgRd_mAdvance _ (by decide), dbgRd_dbgWr, fld_putFld (by decide) (by decide)]
    exact Nat.mod_eq_of_lt hk
  · obtain ⟨g, hg⟩ := mAdvance_only (dbgWr s 0 (putFld (putBit (dbgRd s 0) 5 true) 7 6 k))
    rw [hg]
    rfl

theorem mdataRead_tarn {s : State} (hd : s.dev ≠ .off) (hr : s.dev ≠ .reset) (hl : 1 ≤ dbgLevel s) {t w : Nat}
    (h0 : fld (dbgRd s 0x021) 1 0 = 0) (hz : fld (dbgRd s 0x021) 3 2 = 2) (h4 : (dbgRd s 0x020).toNat % 4 = 0)
    (hp : placeOf (dbgRd s 0x020).toNat = .tarn t w) :
    (checkMem s (reqOf s 46) (dbgRd s 0x020).toNat needR spData = none → tarnUp s t = true → tarnCls s t w = .good →
      exec .mdataRead s = .next (dacc (mAdvance s) true 0x022 0 (tarnRaw s t w))) ∧
    (∀ d, checkMem s (reqOf s 46) (dbgRd s 0x020).toNat needR spData = some d → ∃ u,
      exec .mdataRead s = .next (dacc u true 0x022 3 0) ∧ bit (dbgRd u 0) 5 = true ∧ fld (dbgRd u 0) 7 6 = 1 ∧ u.mem = s.mem) := by
  rw [exec_mdataRead, mdataRead_of hd hl, mAccessRead_word hr h0 hz h4]
  refine ⟨fun hc hu hg => by rw [mReads_tarn hp h4 hc hu hg]; rfl, fun d hc => ?_⟩
  obtain ⟨u, hx, hm, hk, hmem⟩ := mFinish_fail true (logDenial s d) (k := 1) (by decide)
  exact ⟨u, by rw [mReads_denied hp hc, hx], hm, hk, hmem.trans (logDenial_mem s d)⟩

theorem mdataWrite_tarn {s : State} (hd : s.dev ≠ .off) (hr : s.dev ≠ .reset) (hl : dbgLevel s = 2) {t w : Nat}
    (h0 : fld (dbgRd s 0x021) 1 0 = 0) (hz : fld (dbgRd s 0x021) 3 2 = 2) (h4 : (dbgRd s 0x020).toNat % 4 = 0)
    (hp : placeOf (dbgRd s 0x020).toNat = .tarn t w) (v : Word)
    (hc : checkMem s (reqOf s 46) (dbgRd s 0x020).toNat needW spData = none) (hu : tarnUp s t = true) (hb : bufIndex s t w = none) :
    ∃ u, exec (.mdataWrite v) s = .next (dacc u false 0x022 0 0) ∧ tarnRaw u t w = v ∧ tarnCls u t w = .good ∧
      (bit (dbgRd s 0x021) 4 = true → dbgRd u 0x020 = BitVec.ofNat 32 ((dbgRd s 0x020).toNat + 4)) ∧
      ∀ k, k < (dbgRd s 0x020).toNat ∨ (dbgRd s 0x020).toNat + 4 ≤ k → byteAt u k = byteAt s k := by
  have haddr := placeOf_tarn hp h4
  have hmem : (clearRsv (storeTarn s t w v) 46 (tarnAddr t w)).mem = (storeTarn s t w v).mem := clearRsv_mem _ _ _
  have herr : (clearRsv (storeTarn s t w v) 46 (tarnAddr t w)).tarnErr = (storeTarn s t w v).tarnErr :=
    clearRsv_keeps State.tarnErr (fun _ _ _ => rfl) _ _ _
  have hdbg : (clearRsv (storeTarn s t w v) 46 (tarnAddr t w)).dbg = s.dbg := by
    rw [clearRsv_keeps State.dbg (fun _ _ _ => rfl)]
    obtain ⟨q, hq⟩ := storeTarn_eq s t w v
    rw [hq]
  have hx : exec (.mdataWrite v) s =
      .next (dacc (mAdvance (clearRsv (storeTarn s t w v) 46 (tarnAddr t w))) false 0x022 0 0) := by
    rw [exec_mdataWrite, mdataWrite_of hd hl, mAccessWrite_word hr h0 hz h4, mWrites_tarn hp h4 hc hu hb]
    rfl
  generalize clearRsv (storeTarn s t w v) 46 (tarnAddr t w) = u at hmem herr hdbg hx
  have hrd (a : Nat) : dbgRd u a = dbgRd s a := by rw [dbgRd, dbgRd, hdbg]
  obtain ⟨g, hg⟩ := mAdvance_only u
  obtain ⟨hraw, hcls, hout⟩ := storedTarn (u := mAdvance u) (by rw [hg]; exact hmem) (by rw [hg]; exact herr)
  refine ⟨_, hx, hraw, hcls, fun h => ?_, haddr ▸ hout⟩
  rw [mAdvance_eq (mStep_word (by rw [hrd, h0]) (by rw [hrd, hz])), hrd, hrd, if_pos h, dbgRd_dbgWr]

end Sys2Proof.Machine
end

section
/-! PROOFS. The debug port, settled. -/

namespace Sys2Proof.Machine

/-- Settles O57: each clause by the laws of its registers above, over the level of an access (R472). -/
theorem debugPort : Obligations.DebugPort := by
  unfold Obligations.DebugPort
  intro s
  dsimp only
  refine ⟨?off, ?below, ?auth, ?lockout, ?reset, ?groves, ?groveHalted, ?device, ?feed, ?xfer, ?terminal, ?memory, ?trace, ?traceEmpty,
    ?resetRequest, ?io, ?host, ?dbg⟩
  case off => exact fun h v => debugPort_off h v
  case below => exact fun hd v => ⟨debugPort_belowInvasive hd v, debugPort_belowNoninvasive hd v⟩
  case auth => exact fun hd v => debugAuth_judges hd v
  case lockout => exact fun e hd he => debugLockoutEnd_ends hd he
  case reset => exact fun hd => ⟨tapReset_resets hd, debugReset_clears hd⟩
  case groves =>
    exact fun hd hl g => ⟨haltGrove_refused hd hl g, haltGrove_allowed hd hl g, releaseGrove_releases hd hl g, step_steps hd hl g⟩
  case groveHalted => exact fun g => groveHalted_halts s g
  case device =>
    exact fun hd hl => ⟨haltDevice_halts hd hl,
      fun hh hb => ⟨fun hr hdev => deviceHalted_halts hl hh hb hr hdev, fun hr => deviceHalted_yields hh hb hr⟩,
      deviceHalted_waits, fun d hdev hp hv hw => releaseDevice_releases hd hl hdev hp hv hw⟩
  case feed =>
    intro hd hl v hv
    rw [exec_feed_go hv]
    refine ⟨fun h => by rw [feedWrite_running hd hl hv h], fun h hi => by rw [feedWrite_refuses hd hl hv h hi], fun body u h hi => ?_⟩
    rw [feedWrite_runs hd hl hv h hi]
    refine ⟨fun hrun => ?_, fun k g hrun => by rw [feedRun_faults hrun]⟩
    obtain ⟨w, hx, hres⟩ := feedRun_done hrun
    exact ⟨w, by rw [hx], hres⟩
  case xfer =>
    refine fun hd hl => ⟨fun h => ⟨fun v => ?_, ?_⟩, fun h => ⟨fun v hc => xferPush_pushes hd hl h v hc,
      fun v r hc hr hdepth => xferPop_pops hd hl h hc hr hdepth, xferPop_empty hd hl h⟩⟩
    · rw [exec_xferPush, xferPush, xfer_running hd hl h]
    · rw [exec_xferPop, xferPop, xfer_running hd hl h]
  case terminal => exact fun hd hl => ⟨vtxRead_takes hd hl, vrxWrite_fills hd hl, dbgTrcdropRead_clears hd hl⟩
  case memory =>
    refine fun hd hr => ⟨fun hl h => ?_, fun t w h0 hz h4 hp => ⟨fun hl hc hu hg => ?_, fun d hl hc => ?_, fun v hl hc hu hb => ?_⟩,
      fun v hl h u => ?_⟩
    · rw [mdataRead_io hd hr hl h, mAdvance_eq (mStep_io h)]
    · rw [(mdataRead_tarn hd hr hl h0 hz h4 hp).1 hc hu hg, mAdvance_eq (mStep_word h0 hz)]
    · exact (mdataRead_tarn hd hr hl h0 hz h4 hp).2 d hc
    · exact mdataWrite_tarn hd hr hl h0 hz h4 hp v hc hu hb
    · rw [mdataWrite_io hd hr hl h]
      exact ⟨fun hu => by rw [mFinish_mIoWrite.1 hu], fun hu => by rw [mFinish_mIoWrite.2 hu]⟩
  case trace => exact fun x y r htr hd hr hlen ha => traceWrite_records htr hd hr hlen ha
  case traceEmpty => exact traceWrite_empty
  case resetRequest => exact fun hd hl v => debugResetRequest_resets hd hl v
  case io => exact fun m a v => registerWrite_io m a v s
  case host => exact fun h off be v hd hr ho => registerWrite_host hd hr h off be v ho
  case dbg => exact fun a v hd => registerWrite_dbg hd a v

end Sys2Proof.Machine
end

section
/-! PROOFS. Views of the state that background work leaves alone: the memory system, the journal, FLT and the ICU. -/

namespace Sys2Proof.Machine

/-! ### Background work -/

/-- The IO registers that the memory system, the journal, FLT, ACT and the ICU write on their own account. -/
def backReg (a : Nat) : Bool :=
  inRange a Reg.icuPend 8 ||
  [Reg.icuWakep, Reg.fltStat, Reg.fltHead, Reg.fltLost, Reg.jrnHead, Reg.jrnStat, Reg.actVinfo, Reg.actVaddr, Reg.actVcnt,
    Reg.cmxLkcnt, Reg.cmxPerr].contains a

/-- A view of the state that none of the small updates of background work moves. -/
structure Background {α : Type} (view : State → α) : Prop where
  wr (s : State) (a : Nat) (v : Word) (h : backReg a = true) : view (wr s a v) = view s
  free (s : State) (x : Nat) : view { s with free := x } = view s
  mem (s : State) (x : Sparse Byte) : view { s with mem := x } = view s
  tarnErr (s : State) (x : Sparse TarnErr) : view { s with tarnErr := x } = view s
  corrQ (s : State) (x : Sparse (List Nat)) : view { s with corrQ := x } = view s
  lake (s : State) (x : Sparse (Option CLine)) : view { s with lake := x } = view s
  lfsr16 (s : State) (x : BitVec 16) : view { s with lfsr16 := x } = view s
  nchm (s : State) (x : List NchTxn) : view { s with nchm := x } = view s
  engs (s : State) (x : Sparse Engine) : view { s with engs := x } = view s
  grvs (s : State) (x : Sparse Grove) : view { s with grvs := x } = view s
  apps (s : State) (x : Sparse AppRun) : view { s with apps := x } = view s
  pwr (s : State) (x : PwrState) : view { s with pwr := x } = view s
  flt (s : State) (x : List (List Word)) : view { s with flt := x } = view s
  evq (s : State) (x : List Word) : view { s with evq := x } = view s
  host (s : State) (x : Sparse Word) : view { s with host := x } = view s

theorem background_tb : Background State.tb := by constructor <;> intros <;> rfl
theorem background_jPend : Background State.jPend := by constructor <;> intros <;> rfl

/-- A register that background work does not write. -/
theorem background_rd {a : Nat} (ha : backReg a = false) : Background (rd · a) := by
  constructor
  case wr => exact fun s c v hc => rd_wr_ne s v fun h => by rw [h, hc] at ha; exact Bool.noConfusion ha
  all_goals exact fun _ _ => rfl

theorem view_ite {α : Type} {view : State → α} {c : Prop} [Decidable c] {t u : State} {x : α} (ht : view t = x) (hu : view u = x) :
    view (if c then t else u) = x := by
  split
  · exact ht
  · exact hu

section
variable {α : Type} {view : State → α} (h : Background view)
include h

namespace Background

/-! ### Registers -/

theorem wf (s : State) (a hi lo v : Nat) (ha : backReg a = true) : view (Machine.wf s a hi lo v) = view s := h.wr _ _ _ ha
theorem sb (s : State) (a i : Nat) (b : Bool) (ha : backReg a = true) : view (Machine.sb s a i b) = view s := h.wr _ _ _ ha
theorem bump (s : State) (a hi lo k : Nat) (ha : backReg a = true) : view (Machine.bump s a hi lo k) = view s := h.wr _ _ _ ha

/-! ### Events, fault records, denials -/

theorem pushEvent (s : State) (k x d : Nat) : view (Machine.pushEvent s k x d) = view s :=
  view_ite rfl (view_ite (h.host _ _) (h.evq _ _))

theorem record (s : State) (r : FaultInfo) : view (Machine.record s r) = view s := by
  refine view_ite ?_ ?_
  · rw [h.sb _ _ _ _ (by decide), h.bump _ _ _ _ _ (by decide)]
  · rw [h.pushEvent, h.wf _ _ _ _ _ (by decide), h.wr _ _ _ (by decide), h.flt]

theorem logDenial (s : State) (d : Denial) : view (Machine.logDenial s d) = view s := by
  refine (h.record _ _).trans (view_ite ?_ ?_)
  · exact h.bump _ _ _ _ _ (by decide)
  · rw [h.wr _ _ _ (by decide), h.wr _ _ _ (by decide), h.bump _ _ _ _ _ (by decide)]

/-! ### Discards -/

theorem putGrv (s : State) (g : Nat) (x : Grove) : view (Machine.putGrv s g x) = view s := h.grvs _ _
theorem putEng (s : State) (e : Nat) (x : Engine) : view (Machine.putEng s e x) = view s := h.engs _ _
theorem putApp (s : State) (n : Nat) (x : AppRun) : view (Machine.putApp s n x) = view s := h.apps _ _

theorem stopGlades (s : State) (a : Nat) : view (Machine.stopGlades s a) = view s := by
  refine foldl_keeps view (fun t g => ?_) _ s
  split
  · exact view_ite (h.putGrv _ _ _) rfl
  · rfl

theorem discardApp (s : State) (a : Nat) : view (Machine.discardApp s a) = view s :=
  view_ite ((h.stopGlades _ _).trans (h.putApp _ _ _)) rfl

theorem discardOpt (s : State) (a : Option Nat) : view (Machine.discardOpt s a) = view s := by
  cases a with
  | none => rfl
  | some a => exact view_ite (h.discardApp _ _) (h.putApp _ _ _)

theorem dirtyLost (s : State) (l : CLine) (f : Option Nat) : view (Machine.dirtyLost s l f) = view s :=
  (h.discardOpt _ _).trans (h.record _ _)

/-! ### Outer memory and the Lake -/

theorem charge (s : State) (e c b : Nat) : view (Machine.charge s e c b) = view s :=
  view_ite (view_ite (h.putGrv _ _ _) rfl) rfl

theorem chargeWait (s : State) (e : Nat) : view (Machine.chargeWait s e) = view s :=
  (h.charge _ _ _ _).trans (h.free _ _)

theorem putBytes (s : State) (a : Nat) (bs : List Byte) : view (Machine.putBytes s a bs) = view s := by
  rw [putBytes_eq, h.mem]

theorem nchWriteAt (s : State) (m a n : Nat) (x : Option Nat) : view (Machine.nchWriteAt s m a n x) = view s := by
  unfold Machine.nchWriteAt
  split
  · exact h.nchm _ _
  · rfl

theorem writeLine (s : State) (m n : Nat) (l : Line) (x : Option Nat) : view (nchWrite (putLine s n l) m n x) = view s :=
  (h.nchWriteAt _ _ _ _ _).trans (h.putBytes _ _ _)

theorem putLake (s : State) (t w : Nat) (l : Option CLine) : view (Machine.putLake s t w l) = view s := h.lake _ _

theorem lakeDrop (s : State) (m t w : Nat) : view (Machine.lakeDrop s m t w) = view s := by
  unfold Machine.lakeDrop
  split
  · rfl
  · have hl := view_ite (c := ‹CLine›.locked = true) (h.wf (Machine.putLake s t w none) Reg.cmxLkcnt 15 0
      (rf (Machine.putLake s t w none) Reg.cmxLkcnt 15 0 - 1) (by decide)) rfl
    have hs := hl.trans (h.putLake s t w none)
    refine view_ite (view_ite ((h.dirtyLost _ _ _).trans hs) ((h.bump _ _ _ _ _ (by decide)).trans hs)) ?_
    exact view_ite ((h.writeLine _ _ _ _ _).trans hs) hs

theorem putLakeLfsr (s : State) (m : Nat) (v : BitVec 16) : view (Machine.putLakeLfsr s m v) = view s :=
  view_ite (h.putGrv _ _ _) (h.lfsr16 _ _)

theorem lakeInstall (s : State) (m : Nat) (l : CLine) : view (Machine.lakeInstall s m l) = view s :=
  (h.putLake _ _ _ _).trans ((h.lakeDrop _ _ _ _).trans (h.putLakeLfsr _ _ _))

theorem lakeRead (s : State) (m n : Nat) : view (Machine.lakeRead s m n).1 = view s := by
  have fill (t : State) : view (match nchLine (Machine.chargeWait t m) n with
      | none => (Machine.chargeWait t m, (.error .nchErr : Except LineErr Line))
      | some d => (if mayAlloc (Machine.chargeWait t m) 4 0 n then
          Machine.lakeInstall (Machine.chargeWait t m) m ⟨n, d, false, none, false, false⟩ else Machine.chargeWait t m, .ok d)).1 = view t := by
    split
    · exact h.chargeWait _ _
    · exact view_ite ((h.lakeInstall _ _ _).trans (h.chargeWait _ _)) (h.chargeWait _ _)
  unfold Machine.lakeRead
  dsimp only
  split
  · exact fill s
  · split
    · split
      · exact h.lakeDrop _ _ _ _
      · exact (fill _).trans (h.lakeDrop _ _ _ _)
    · rfl

theorem lakeUpdate (s : State) (m a : Nat) (bs : List Byte) : view (Machine.lakeUpdate s m a bs) = view s := by
  unfold Machine.lakeUpdate
  split
  · rfl
  · exact view_ite (h.lakeDrop _ _ _ _) (h.putLake _ _ _ _)

theorem lakeWriteBack (s : State) (m : Nat) (l : CLine) : view (Machine.lakeWriteBack s m l) = view s := by
  refine view_ite ?_ ((h.nchWriteAt _ _ _ _ _).trans ((h.lakeUpdate _ _ _ _).trans (h.putBytes _ _ _)))
  split
  · exact h.putLake _ _ _ _
  · exact h.lakeInstall _ _ _

/-- A read of outer memory that presents the Wellspring. -/
theorem outerRead_wellspring (s : State) (r a n : Nat) : view (outerRead s 32 r a n).1 = view s := by
  unfold outerRead
  dsimp only
  rw [if_neg (by simp)]
  split
  · have hl := h.lakeRead (Machine.charge s 32 14 0) 32 (a / 64)
    split <;> next hr => rw [hr] at hl; exact hl.trans (h.charge _ _ _ _)
  · have hw := (h.chargeWait (Machine.charge s 32 14 1) 32).trans (h.charge s 32 14 1)
    split <;> exact hw

theorem readOuterN (n : Nat) : ∀ (s : State) (a : Nat), view (Machine.readOuterN s a n).1 = view s := by
  induction n with
  | zero => exact fun _ _ => rfl
  | succ n ih =>
    intro s a
    rw [Machine.readOuterN]
    split
    · exact h.logDenial _ _
    · split
      · rfl
      · have hr := h.outerRead_wellspring s ‹Nat› a 4
        split
        · next he => rw [he] at hr; exact hr
        · next he =>
          rw [he] at hr
          have hn := ih ‹State› (a + 4)
          split <;> next hs => rw [hs] at hn; exact hn.trans hr

/-! ### Doorbells -/

theorem leaveWait (s : State) (e : Nat) : view (Machine.leaveWait s e) = view s :=
  view_ite ((h.putEng _ _ _).trans (h.putEng _ _ _)) (h.putEng _ _ _)

theorem icuSettle (old s : State) : view (Machine.icuSettle old s) = view s :=
  foldl_keeps view (fun _ _ => view_ite (view_ite ((h.pwr _ _).trans (h.sb _ _ _ _ (by decide))) rfl) (view_ite (h.leaveWait _ _) rfl)) _ s

theorem ringSource (s : State) {n : Nat} (hn : n < 256) : view (Machine.ringSource s n) = view s := by
  refine (h.icuSettle _ _).trans (h.sb _ _ _ _ ?_)
  simp [backReg, inRange, show n / 32 < 8 by omega]

/-! ### Journal entries -/

theorem storeTarn (s : State) (t w : Nat) (v : Word) : view (Machine.storeTarn s t w v) = view s :=
  (h.corrQ _ _).trans ((h.tarnErr _ _).trans (h.putBytes _ _ _))

theorem writeEntry (s : State) (q : Word) (t : Dbl) (i : JrnInfo) : view (Machine.writeEntry s q t i) = view s := by
  unfold Machine.writeEntry storeWords
  generalize entryWords q t i = ws
  generalize jrnSlot q = w
  exact foldl_keeps (f := fun (p : State × Nat) v => (Machine.storeTarn p.1 63 p.2 v, p.2 + 1)) (fun p => view p.1)
    (fun p v => h.storeTarn p.1 63 p.2 v) ws (s, w)

theorem takeSeq (s : State) : view (Machine.takeSeq s).2 = view s := by
  have hh := h.wr s Reg.jrnHead (rd s Reg.jrnHead + 1) (by decide)
  refine (view_ite (view_ite ((h.ringSource _ ?_).trans (h.pushEvent _ _ _ _)) (h.pushEvent _ _ _ _)) rfl : view (jrnRise _) = _).trans hh
  exact Nat.mod_lt _ (by decide)

theorem jrnExempt (s : State) (i : JrnInfo) : view (Machine.jrnExempt s i) = view s :=
  view_ite rfl (view_ite ((h.record _ _).trans (h.sb _ _ _ _ (by decide))) ((h.writeEntry _ _ _ _).trans (h.takeSeq _)))

theorem jrnEvent (s : State) (k a t : Nat) (o n : Word) : view (Machine.jrnEvent s k a t o n) = view s := h.jrnExempt _ _

end Background
end

end Sys2Proof.Machine
end

section
/-! PROOFS. The timebase and the interrupt hold-off, settled (R38, R43 to R46, R364). -/

namespace Sys2Proof.Machine

/-! ### Ticks (R38, R44) -/

theorem exec_timebaseTick (s : State) : exec .timebaseTick s = .next (tbTick s) := by rfl
theorem exec_tbPpsEdge (s : State) : exec .tbPpsEdge s = .next (ppsEdge s) := by rfl
theorem exec_ppsMiss (s : State) : exec .ppsMiss s = .next (ppsMiss s) := by rfl
theorem exec_holdOffEnd (j : Fin 32) (s : State) : exec (.holdOffEnd j) s = .next (if blocksRun s then endHold s j.val else s) := by rfl

theorem tbTick_plain {s : State} (hd : s.dev ≠ .off) (h : s.tb.err = 0 ∨ s.tb.sinceAdj < 999) :
    tbTick s = { s with tb := { s.tb with now := s.tb.now + 10, sinceAdj := s.tb.sinceAdj + 1 } } := by
  have hn : ¬ (s.tb.err ≠ 0 ∧ s.tb.sinceAdj ≥ 999) := by omega
  rw [tbTick, if_neg hd, if_neg hn]

theorem tbTick_adjusts {s : State} (hd : s.dev ≠ .off) (he : s.tb.err ≠ 0) (ha : s.tb.sinceAdj ≥ 999) :
    tbTick s = { s with tb := { s.tb with now := s.tb.now + (if s.tb.err > 0 then 11 else 9),
                                          err := if s.tb.err > 0 then s.tb.err - 1 else s.tb.err + 1, sinceAdj := 0 } } := by
  rw [tbTick, if_neg hd, if_pos ⟨he, ha⟩]
  simp only [decide_eq_true_eq]

/-! ### TB_PPS (R43, R45, R46) -/

/-- The error is the signed distance to the nearest whole second, and -0.5 s halfway between two. -/
theorem ppsError_eq {n e k : Int} (h : n + e = 1000000000 * k) (hl : -500000000 ≤ e) (hu : e < 500000000) : ppsError n = e := by
  unfold ppsError
  dsimp only
  split <;> omega

theorem satErr_toInt {e : Int} (hl : -500000000 ≤ e) (hu : e < 500000000) : (satErr e).toInt = e := by
  rw [satErr, if_neg (by omega), if_neg (by omega), BitVec.toInt_ofInt]
  exact Int.bmod_eq_of_le (by omega) (by omega)

/-- A measured error is shown, and flagged if it is large while the device runs (R43). -/
def errorLatched (s : State) (e : Int) : State :=
  let s := wr s Reg.tbOffs (satErr e)
  if (s.dev = .run ∨ s.dev = .tracking) ∧ (e > 1000 ∨ e < -1000) then sb s Reg.tbStat 3 true else s

/-- LOCK follows (R43); TB_NOW is not yet stepped, and no error left to be worked off. -/
def errorShown (s : State) (e : Int) : State :=
  sb (errorLatched s e) Reg.tbStat 0
    (decide (-20 ≤ e ∧ e ≤ 20) && !rb (errorLatched s e) Reg.tbStat 1 && decide (tbSrc (errorLatched s e) ≠ 0))

theorem errorShown_leaves (s : State) (e : Int) : (errorShown s e).tb = s.tb ∧ (errorShown s e).mem = s.mem :=
  ⟨view_ite (view := State.tb) rfl rfl, view_ite (view := State.mem) rfl rfl⟩

theorem tbMeasure_eq (s : State) (e : Int) (step : Bool) : tbMeasure s e step =
    if step then
      let t := errorShown s e
      let new := BitVec.ofInt 64 (t.tb.now.toNat + e)
      jrnEvent (jrnEvent { t with tb := { t.tb with now := new, err := 0 } } 2 0x3004 0x5B (lo32 t.tb.now) (lo32 new))
        2 0x3005 0x5B (hi32 t.tb.now) (hi32 new)
    else { errorShown s e with tb := { (errorShown s e).tb with err := e } } := rfl

theorem rd_errorLatched (s : State) (e : Int) : rd (errorLatched s e) Reg.tbOffs = satErr e ∧
    rb (errorLatched s e) Reg.tbStat 1 = rb s Reg.tbStat 1 ∧ tbSrc (errorLatched s e) = tbSrc s := by
  have hstat : rb (wr s Reg.tbOffs (satErr e)) Reg.tbStat 1 = rb s Reg.tbStat 1 := congrArg (bit · 1) (rd_wr_ne _ _ (by decide))
  have hsrc : tbSrc (wr s Reg.tbOffs (satErr e)) = tbSrc s := congrArg (fld · 1 0) (rd_wr_ne _ _ (by decide))
  refine ⟨?_, ?_, ?_⟩
  · exact view_ite (view := (rd · Reg.tbOffs)) ((rd_sb_ne _ _ _ (by decide)).trans (rd_wr _ _ _)) (rd_wr _ _ _)
  · exact view_ite (view := (rb · Reg.tbStat 1)) ((rb_sb _ _ _ (by decide)).trans hstat) hstat
  · exact view_ite (view := tbSrc) ((congrArg (fld · 1 0) (rd_sb_ne _ _ _ (by decide))).trans hsrc) hsrc

theorem rd_errorShown (s : State) (e : Int) : rd (errorShown s e) Reg.tbOffs = satErr e ∧
    rb (errorShown s e) Reg.tbStat 0 = (decide (-20 ≤ e ∧ e ≤ 20) && !rb s Reg.tbStat 1 && decide (tbSrc s ≠ 0)) := by
  obtain ⟨hoffs, hmiss, hsrc⟩ := rd_errorLatched s e
  refine ⟨(rd_sb_ne _ _ _ (by decide)).trans hoffs, ?_⟩
  rw [errorShown, rb_sb _ _ _ (by decide), if_pos rfl, hmiss, hsrc]

theorem rd_tbMeasure (s : State) (e : Int) (step : Bool) {a : Nat} (ha : backReg a = false) :
    rd (tbMeasure s e step) a = rd (errorShown s e) a := by
  rw [tbMeasure_eq]
  exact view_ite (view := (rd · a)) (((background_rd ha).jrnEvent _ _ _ _ _ _).trans ((background_rd ha).jrnEvent _ _ _ _ _ _)) rfl

theorem tbMeasure_steps (s : State) (e : Int) :
    (tbMeasure s e true).tb = { s.tb with now := BitVec.ofInt 64 (s.tb.now.toNat + e), err := 0 } := by
  rw [tbMeasure_eq, if_pos rfl]
  dsimp only
  rw [background_tb.jrnEvent, background_tb.jrnEvent, (errorShown_leaves s e).1]

theorem tbMeasure_waits (s : State) (e : Int) :
    (tbMeasure s e false).tb = { s.tb with err := e } ∧ (tbMeasure s e false).mem = s.mem := by
  obtain ⟨htb, hmem⟩ := errorShown_leaves s e
  rw [tbMeasure_eq, if_neg Bool.false_ne_true]
  exact ⟨by rw [htb], hmem⟩

/-- R45: what an edge measures, and whether it steps TB_NOW. -/
theorem tbPpsEdge_measures {s : State} {e k : Int} (hsrc : rf s Reg.tbCtl 1 0 = 2) (hr : s.dev ≠ .reset) (ho : s.dev ≠ .off)
    (hk : (s.tb.now.toNat : Int) - 30 + e = 1000000000 * k) (hl : -500000000 ≤ e) (hu : e < 500000000) :
    ∃ t, exec .tbPpsEdge s = .next t ∧ (rd t Reg.tbOffs).toInt = e ∧ t.tb.ppsLast = some s.tb.now ∧
      rb t Reg.tbStat 0 = (decide (-20 ≤ e ∧ e ≤ 20) && !rb s Reg.tbStat 1) ∧
      (if s.tb.ppsSeen = false ∧ (s.dev = .config ∨ s.dev = .maintenance) ∧ rb s Reg.schedCtl 0 = false then
        t.tb.err = 0 ∧ t.tb.now = BitVec.ofInt 64 ((s.tb.now.toNat : Int) + e)
      else t.tb.err = e ∧ t.tb.now = s.tb.now ∧ t.mem = s.mem) := by
  let u : State := { s with tb := { s.tb with ppsLast := some s.tb.now, ppsSeen := true } }
  let step : Bool := !s.tb.ppsSeen && mayStep s
  have hx : exec .tbPpsEdge s = .next (tbMeasure u e step) := by
    rw [exec_tbPpsEdge, ppsEdge, if_pos ⟨hsrc, hr, ho⟩]
    dsimp only
    rw [ppsError_eq hk hl hu]
    rfl
  have hstep : step = true ↔ s.tb.ppsSeen = false ∧ (s.dev = .config ∨ s.dev = .maintenance) ∧ rb s Reg.schedCtl 0 = false := by
    simp [step, mayStep]
  obtain ⟨hoffs, hlock⟩ := rd_errorShown u e
  refine ⟨_, hx, ?_, ?_, ?_, ?_⟩
  · rw [rd_tbMeasure u e step (by decide), hoffs, satErr_toInt hl hu]
  · cases step
    · rw [(tbMeasure_waits u e).1]
    · rw [tbMeasure_steps]
  · have hne : tbSrc u ≠ 0 := by
      have : tbSrc u = 2 := hsrc
      omega
    rw [rb, rd_tbMeasure u e step (by decide)]
    refine hlock.trans ?_
    rw [decide_eq_true hne, Bool.and_true]
    rfl
  · simp only [← hstep]
    generalize step = b
    cases b with
    | false =>
      obtain ⟨htb, hmem⟩ := tbMeasure_waits u e
      rw [if_neg Bool.false_ne_true, htb]
      exact ⟨rfl, rfl, hmem⟩
    | true =>
      rw [if_pos rfl, tbMeasure_steps]
      exact ⟨rfl, rfl⟩

theorem record_appends {s : State} (h : s.flt.length < 64) (r : FaultInfo) : ∃ ws, (record s r).flt = s.flt ++ [faultWord0 r :: ws] := by
  rw [record, if_neg (by omega)]
  dsimp only
  obtain ⟨_, _, he⟩ := pushEvent_eq (wf (wr { s with flt := s.flt ++ [_] } Reg.fltHead _) Reg.fltStat 14 8 _) 1 r.code.toNat
    ((rd s Reg.fltHead).toNat % 0x8000)
  exact ⟨_, by rw [he]; rfl⟩

/-- R46: a missed edge clears LOCK and is recorded. -/
theorem ppsMiss_unlocks {s : State} {l : Dbl} (hsrc : rf s Reg.tbCtl 1 0 = 2) (hl : s.tb.ppsLast = some l)
    (ht : s.tb.now.toNat > l.toNat + 1000500000) :
    ∃ t, exec .ppsMiss s = .next t ∧ rb t Reg.tbStat 1 = true ∧ rb t Reg.tbStat 0 = false ∧ t.tb.now = s.tb.now ∧
      (s.flt.length < 64 → ∃ r, t.flt = s.flt ++ [r] ∧ fld (nth r 0) 7 0 = 0x14) := by
  have hx : exec .ppsMiss s = .next (record { sb (sb s Reg.tbStat 1 true) Reg.tbStat 0 false with
      tb := { s.tb with ppsLast := none, ppsSeen := true } } (faultOf 0x14 0)) := by
    rw [exec_ppsMiss, ppsMiss, hl]
    dsimp only
    rw [if_pos ⟨hsrc, ht⟩]
    rfl
  generalize hu : ({ sb (sb s Reg.tbStat 1 true) Reg.tbStat 0 false with tb := _ } : State) = u at hx
  have hstat (i : Nat) : rb (record u (faultOf 0x14 0)) Reg.tbStat i = rb (sb (sb s Reg.tbStat 1 true) Reg.tbStat 0 false) Reg.tbStat i := by
    rw [rb, (background_rd (by decide)).record, ← hu]
    rfl
  refine ⟨_, hx, ?_, ?_, ?_, fun hlen => ?_⟩
  · rw [hstat, rb_sb _ _ _ (by decide), if_neg (by decide), rb_sb _ _ _ (by decide), if_pos rfl]
  · rw [hstat, rb_sb _ _ _ (by decide), if_pos rfl]
  · rw [background_tb.record, ← hu]
  · have hflt : u.flt = s.flt := by rw [← hu]; rfl
    obtain ⟨ws, hws⟩ := record_appends (s := u) (by rwa [hflt]) (faultOf 0x14 0)
    rw [hflt] at hws
    have hcode : fld (faultWord0 (faultOf 0x14 0)) 7 0 = 0x14 := by decide
    exact ⟨_, hws, hcode⟩

/-- Settles O41: the three ticks, the edge, the missed edge, and the end of a hold-off (R364). -/
theorem timebaseAndHoldOff : Obligations.TimebaseAndHoldOff := by
  unfold Obligations.TimebaseAndHoldOff
  intro s
  refine ⟨fun hd h => ?_, fun hd he ha => ?_, fun hd he ha => ?_, fun e k hsrc hr ho hk hl hu => ?_, fun l hsrc hl ht => ?_,
    fun j hb hj => ?_⟩
  · rw [exec_timebaseTick, tbTick_plain hd h]
  · rw [exec_timebaseTick, tbTick_adjusts hd (by omega) ha, if_pos he, if_pos he]
  · rw [exec_timebaseTick, tbTick_adjusts hd (by omega) ha, if_neg (by omega), if_neg (by omega)]
  · exact tbPpsEdge_measures hsrc hr ho hk hl hu
  · exact ppsMiss_unlocks hsrc hl ht
  · rw [exec_holdOffEnd, if_pos hb, endHold, if_pos hj]

end Sys2Proof.Machine
end

section
/-! PROOFS. Writes of SCHED_CTL and SCHED_EDCTL, settled (R49, R58, R60, R243, R520). -/

namespace Sys2Proof.Machine

/-! ### Folds that attain a property -/

/-- A fold whose steps keep `P` and `Q` attains `Q` if the step of one element of the list does, from `P`. -/
theorem foldl_attains {α β : Type} {P Q : α → Prop} {f : α → β → α} {x : β} {l : List β} (hx : x ∈ l) (hP : ∀ s y, P s → P (f s y))
    (hQ : ∀ s y, Q s → Q (f s y)) (hf : ∀ s, P s → Q (f s x)) {s : α} (hs : P s) : Q (l.foldl f s) := by
  have keeps (r : List β) {t : α} (ht : Q t) : Q (r.foldl f t) := List.foldlRecOn r f ht fun t ht y _ => hQ t y ht
  induction l generalizing s with
  | nil => cases hx
  | cons y r ih =>
    rw [List.foldl_cons]
    rcases List.mem_cons.mp hx with rfl | hr
    · exact keeps r (hf s hs)
    · exact ih hr (hP s y hs)

/-! ### Applications and Groves at a discard (R405) -/

@[simp] theorem app_putApp (s : State) (n : Nat) (x : AppRun) : app (putApp s n x) n = x := by simp [app, putApp]
theorem app_putApp_ne (s : State) {n k : Nat} (x : AppRun) (h : k ≠ n) : app (putApp s n x) k = app s k := by
  simp [app, putApp, Sparse.get_set_ne _ _ _ h]
theorem app_congr {s t : State} (h : t.apps = s.apps) (n : Nat) : app t n = app s n := by simp only [app, h]
theorem grv_congr {s t : State} (h : t.grvs = s.grvs) (g : Nat) : grv t g = grv s g := by simp only [grv, h]

theorem stopGlades_apps (s : State) (a : Nat) : (stopGlades s a).apps = s.apps := by
  refine foldl_keeps State.apps (fun t g => ?_) _ s
  split
  · exact view_ite (view := State.apps) rfl rfl
  · rfl

/-- A discard ends the cycle of its Application, and of no other. -/
theorem active_discardApp (s : State) (a n : Nat) : (app (discardApp s a) n).active = ((app s n).active && decide (n ≠ a)) := by
  unfold discardApp
  dsimp only
  split
  · rw [app_congr (stopGlades_apps _ _)]
    by_cases h : n = a
    · subst h; simp
    · rw [app_putApp_ne _ _ h]; simp [h]
  · next ha => by_cases h : n = a <;> simp_all

/-- A Grove is left as it was, or with its Glade to stop without an overrun. -/
def LeftOrForced (x y : Grove) : Prop := y = x ∨ y = { x with trip := some .force }

theorem LeftOrForced.refl (x : Grove) : LeftOrForced x x := .inl rfl
theorem LeftOrForced.trans {x y z : Grove} (h : LeftOrForced x y) (h' : LeftOrForced y z) : LeftOrForced x z := by
  rcases h with rfl | rfl
  · exact h'
  · exact .inr (h'.elim id id)
theorem LeftOrForced.glade {x y : Grove} (h : LeftOrForced x y) : y.glade = x.glade := by rcases h with rfl | rfl <;> rfl
theorem LeftOrForced.trip {x y : Grove} (h : LeftOrForced x y) (hx : x.trip = some .force) : y.trip = some .force := by
  rcases h with rfl | rfl
  · exact hx
  · rfl

theorem leftOrForced_putGrv (s : State) (k g : Nat) :
    LeftOrForced (grv s g) (grv (putGrv s k { grv s k with trip := some .force }) g) := by
  by_cases h : g = k
  · subst h; exact .inr (grv_putGrv _ _ _)
  · exact .inl (grv_putGrv_ne _ _ h)

theorem leftOrForced_discardApp (s : State) (a g : Nat) : LeftOrForced (grv s g) (grv (discardApp s a) g) := by
  have hstop {u : State} (hu : u.grvs = s.grvs) : LeftOrForced (grv s g) (grv (stopGlades u a) g) := by
    rw [← grv_congr hu]
    unfold stopGlades
    refine List.foldlRecOn (motive := fun t => LeftOrForced (grv u g) (grv t g)) _ _ (.refl _) fun t ht k _ => ht.trans ?_
    split
    · split
      · exact leftOrForced_putGrv t k g
      · exact .refl _
    · exact .refl _
  unfold discardApp
  dsimp only
  split
  · exact hstop rfl
  · exact .refl _

theorem leftOrForced_forceStop (s : State) (k g : Nat) : LeftOrForced (grv s g) (grv (forceStop s k) g) := by
  unfold forceStop
  split
  · exact .refl _
  · exact (leftOrForced_discardApp _ _ _).trans (leftOrForced_putGrv _ _ _)

theorem trip_forceStop {s : State} {g : Nat} (h : (grv s g).glade.isSome = true) : (grv (forceStop s g) g).trip = some .force := by
  obtain ⟨r, hr⟩ := Option.isSome_iff_exists.mp h
  rw [forceStop, hr]
  dsimp only
  rw [grv_putGrv]

/-- R520: no cycle stays in progress. -/
theorem active_stopAll (s : State) {n : Nat} (hn : n < 32) : (app (stopAll s) n).active = false := by
  unfold stopAll
  refine foldl_attains (P := fun _ => True) (Q := fun t => (app t n).active = false) (List.mem_range.mpr hn) (fun _ _ _ => trivial)
    (fun t a ht => ?_) (fun t _ => ?_) trivial
  · rw [active_discardApp, ht, Bool.false_and]
  · rw [active_discardApp, decide_eq_false (fun h => h rfl), Bool.and_false]

/-- R520: every running Grove is to stop. -/
theorem trip_stopAll {s : State} {g : Nat} (hg : g < 16) (h : (grv s g).glade.isSome = true) :
    (grv (stopAll s) g).trip = some .force := by
  unfold stopAll
  have hstop : (grv ((List.range 16).foldl forceStop s) g).trip = some .force :=
    foldl_attains (P := fun t => (grv t g).glade.isSome = true) (Q := fun t => (grv t g).trip = some .force) (List.mem_range.mpr hg)
      (fun t k ht => by rwa [(leftOrForced_forceStop t k g).glade]) (fun t k ht => (leftOrForced_forceStop t k g).trip ht)
      (fun t ht => trip_forceStop ht) h
  exact List.foldlRecOn (motive := fun t => (grv t g).trip = some .force) _ _ hstop fun t ht a _ => (leftOrForced_discardApp t a g).trip ht

/-! ### Validation (R58) -/

namespace Background

theorem loadShadows {α : Type} {view : State → α} (h : Background view) (hs : ∀ s x, view { s with shadow := x } = view s) (ns : List Nat) :
    ∀ s, view (Machine.loadShadows s ns).1 = view s := by
  induction ns with
  | nil => exact fun _ => rfl
  | cons n r ih =>
    intro s
    have hr := h.readOuterN 64 s (slotBase s n (activeB s n))
    rw [Machine.loadShadows]
    split
    · next he => rw [he] at hr; exact hr
    · next he =>
      rw [he] at hr
      split
      · exact (ih _).trans ((hs _ _).trans hr)
      · exact hr

theorem validate {α : Type} {view : State → α} (h : Background view) (hs : ∀ s x, view { s with shadow := x } = view s)
    (hw : ∀ s v, view (Machine.wr s Reg.schedStat v) = view s) (s : State) (b swap : Bool) : view (Machine.validate s b swap).1 = view s := by
  have hput (t : State) (e : Option CfgErr) : view (putCfgErr t e) = view t := by
    cases e <;> exact hw _ _
  unfold Machine.validate
  dsimp only
  split
  · dsimp only
    exact hput _ _
  · have hl := h.loadShadows hs (newlyEnabled s b) s
    split
    · next he =>
      rw [he] at hl
      dsimp only at hl ⊢
      exact (hput _ _).trans hl
    · next he =>
      rw [he] at hl
      dsimp only at hl ⊢
      exact (hput _ _).trans ((hs _ _).trans hl)

end Background

theorem rd_validate (s : State) (b swap : Bool) {a : Nat} (ha : backReg a = false) (hs : a ≠ Reg.schedStat) :
    rd (validate s b swap).1 a = rd s a :=
  (background_rd ha).validate (fun _ _ => rfl) (fun _ _ => rd_wr_ne _ _ hs) s b swap

/-! ### SCHED_CTL (R49, R60, R520) -/

/-- WBANK and the overrun fields are written first. -/
def ctlWritten (s : State) (v : Word) : State :=
  wr s Reg.schedCtl (putBit (putFld (rd s Reg.schedCtl) 16 8 (fld v 16 8)) 1 (bit v 1))

theorem ctlEffect_eq (s : State) (v : Word) : ctlEffect s v =
    (let w := ctlWritten s v
     let u := if bit v 0 then (if schedOn w then w else schedEnable w) else (if schedOn w then schedDisable w else w)
     if bit v 3 then swapRequest u else u) := rfl

theorem rb_ctlWritten (s : State) (v : Word) {i : Nat} (hi : i < 8) :
    rb (ctlWritten s v) Reg.schedCtl i = if i = 1 then bit v 1 else rb s Reg.schedCtl i := by
  rw [rb, ctlWritten, rd_wr, bit_putBit (by omega), bit_putFld (by decide) (by omega), if_neg (by omega : ¬ (8 ≤ i ∧ i ≤ 16))]
  rfl

theorem schedOn_ctlWritten (s : State) (v : Word) : schedOn (ctlWritten s v) = rb s Reg.schedCtl 0 := rb_ctlWritten s v (by decide)
theorem wBank_ctlWritten (s : State) (v : Word) : wBank (ctlWritten s v) = bit v 1 := rb_ctlWritten s v (by decide)
theorem aBank_ctlWritten (s : State) (v : Word) : aBank (ctlWritten s v) = rb s Reg.schedCtl 2 := rb_ctlWritten s v (by decide)

theorem schedEnable_passes {s : State} (h : (validate s (wBank s) false).2 = true) : schedEnable s =
    (let t := startApps (sb (sb (validate s (wBank s) false).1 Reg.schedCtl 0 true) Reg.schedCtl 2 (wBank s)) (newlyEnabled s (wBank s))
     { t with cutSince := false, bnd := { t.bnd with phase := .idle, next := BitVec.ofNat 64 (nextCyc t) } }) := by
  unfold schedEnable
  dsimp only
  split
  · next he => rw [he] at h; exact Bool.noConfusion h
  · next he => rw [he]

theorem schedEnable_fails {s : State} (h : (validate s (wBank s) false).2 = false) : schedEnable s = (validate s (wBank s) false).1 := by
  unfold schedEnable
  dsimp only
  split
  · next he => rw [he]
  · next he => rw [he] at h; exact Bool.noConfusion h

theorem swapRequest_eq (s : State) : swapRequest s = (let r := validate s (!aBank s) true
    if r.2 then sb r.1 Reg.schedCtl 4 true else sb r.1 Reg.schedStat 3 true) := by
  unfold swapRequest
  split <;> next he => rw [he]; rfl

theorem rd_startApps (s : State) (ns : List Nat) (a : Nat) : rd (startApps s ns) a = rd s a :=
  foldl_keeps (f := fun t n => putApp t n { State.appReset with discards := 0 }) (rd · a) (fun _ _ => rfl) ns s

theorem app_startApps (s : State) {ns : List Nat} {n : Nat} (h : n ∈ ns) : app (startApps s ns) n = State.appReset := by
  unfold startApps
  refine foldl_attains (P := fun _ => True) (Q := fun t => app t n = State.appReset) h (fun _ _ _ => trivial) (fun t k ht => ?_)
    (fun t _ => app_putApp _ _ _) trivial
  by_cases hk : n = k
  · subst hk; exact app_putApp _ _ _
  · rw [app_putApp_ne _ _ hk, ht]

/-- Every Application that a bank enables is new to a scheduler that is off. -/
theorem mem_newlyEnabled {s : State} (h : schedOn s = false) {b : Bool} {n : Nat} (hn : n < 32) (he : appEn s b n = true) :
    n ∈ newlyEnabled s b := by
  simp [newlyEnabled, appOn, bankNow, h, hn, he]

theorem ctlEffect_enables {s : State} {v : Word} (hoff : rb s Reg.schedCtl 0 = false) (h0 : bit v 0 = true) (h3 : bit v 3 = false) :
    ctlEffect s v = schedEnable (ctlWritten s v) := by
  simp [ctlEffect_eq, schedOn_ctlWritten, hoff, h0, h3]

theorem ctlEffect_disables {s : State} {v : Word} (hon : rb s Reg.schedCtl 0 = true) (h0 : bit v 0 = false) (h3 : bit v 3 = false) :
    ctlEffect s v = schedDisable (ctlWritten s v) := by
  simp [ctlEffect_eq, schedOn_ctlWritten, hon, h0, h3]

theorem ctlEffect_swaps {s : State} {v : Word} (hon : rb s Reg.schedCtl 0 = true) (h0 : bit v 0 = true) (h3 : bit v 3 = true) :
    ctlEffect s v = swapRequest (ctlWritten s v) := by
  simp [ctlEffect_eq, schedOn_ctlWritten, hon, h0, h3]

/-- R49, R58: a bank that passes comes into force, and its Applications start afresh (R83). -/
theorem schedEnable_inForce {s : State} (hoff : schedOn s = false) (h : (validate s (wBank s) false).2 = true) :
    rb (schedEnable s) Reg.schedCtl 0 = true ∧ rb (schedEnable s) Reg.schedCtl 2 = wBank s ∧ (schedEnable s).cutSince = false ∧
      (schedEnable s).bnd.phase = .idle ∧ ∀ n, n < 32 → appEn s (wBank s) n = true → app (schedEnable s) n = State.appReset := by
  rw [schedEnable_passes h]
  have hrd (t : State) (ns : List Nat) (i : Nat) : rb (startApps t ns) Reg.schedCtl i = rb t Reg.schedCtl i :=
    congrArg (bit · i) (rd_startApps t ns _)
  refine ⟨?_, ?_, rfl, rfl, fun n hn he => app_startApps _ (mem_newlyEnabled hoff hn he)⟩
  · refine (hrd _ _ 0).trans ?_
    rw [rb_sb _ _ _ (by decide), if_neg (by decide), rb_sb _ _ _ (by decide), if_pos rfl]
  · refine (hrd _ _ 2).trans ?_
    rw [rb_sb _ _ _ (by decide), if_pos rfl]

/-- EN and SWAPPEND clear, and the boundary sequencer idles. -/
def schedOff (s : State) : State :=
  let s := sb (sb s Reg.schedCtl 0 false) Reg.schedCtl 4 false
  { s with bnd := { s.bnd with phase := .idle } }

theorem schedDisable_eq (s : State) : schedDisable s = schedOff (stopAll s) := by rw [schedDisable, schedOff]

theorem schedDisable_stops (s : State) :
    rb (schedDisable s) Reg.schedCtl 0 = false ∧ rb (schedDisable s) Reg.schedCtl 4 = false ∧ (schedDisable s).bnd.phase = .idle ∧
      (∀ n, n < 32 → (app (schedDisable s) n).active = false) ∧
      ∀ g, g < 16 → (grv s g).glade.isSome = true → (grv (schedDisable s) g).trip = some .force := by
  have happs (n : Nat) (hn : n < 32) := active_stopAll s hn
  have hgrvs (g : Nat) (hg : g < 16) := @trip_stopAll s g hg
  rw [schedDisable_eq]
  generalize stopAll s = u at happs hgrvs ⊢
  have hrd (i : Nat) (hi : i < 32) := rb_sb (sb u Reg.schedCtl 0 false) Reg.schedCtl (i := 4) (j := i) false hi
  refine ⟨(hrd 0 (by decide)).trans ?_, (hrd 4 (by decide)).trans (if_pos rfl), rfl, happs, hgrvs⟩
  rw [if_neg (by decide), rb_sb _ _ _ (by decide), if_pos rfl]

/-! ### SCHED_EDCTL (R243) -/

theorem fld_putFld_disjoint {w : Word} {hi lo hi' lo' v : Nat} (hl : lo ≤ hi) (hh : hi < 32) (hl' : lo' ≤ hi') (hd : hi < lo' ∨ hi' < lo) :
    fld (putFld w hi' lo' v) hi lo = fld w hi lo :=
  fld_congr (fun j h1 h2 => by rw [bit_putFld hl' (by omega), if_neg (by omega)]) hl

theorem complete_io (s : State) (c st r : Nat) (d : List Word) : (complete s c st r d).io = s.io := by
  unfold complete completeN respond
  rfl

theorem endWaits_io (s : State) (p : WaitCmd → Bool) (st r : Nat) : (endWaits s p st r).io = s.io :=
  foldl_keeps (f := fun t (w : WaitCmd) => complete t w.chan st r []) State.io (fun _ _ => complete_io _ _ _ _ _) _ s

/-- R244: an armed edit that is abandoned shows the reason. -/
theorem editAbandon_shows {s : State} (h : edArmed s = true) {k : Nat} (hk : k < 32) :
    rb (editAbandon s k) Reg.schedEdctl 5 = false ∧ rb (editAbandon s k) Reg.schedEdstat 1 = true ∧
      rf (editAbandon s k) Reg.schedEdstat 6 2 = k := by
  have hrd (a : Nat) : rd (editAbandon s k) a =
      rd (wf (wf (sb (sb s Reg.schedEdctl 5 false) Reg.schedEdstat 1 true) Reg.schedEdstat 6 2 k) Reg.schedEdstat 31 16
        (edEid (sb (sb s Reg.schedEdctl 5 false) Reg.schedEdstat 1 true))) a := by
    refine rd_congr ?_ a
    unfold editAbandon
    rw [if_pos h]
    exact endWaits_io _ _ _ _
  have hne : Reg.schedEdctl ≠ Reg.schedEdstat := by decide
  refine ⟨?_, ?_, ?_⟩
  · rw [rb, hrd, rd_wf_ne _ _ _ _ hne, rd_wf_ne _ _ _ _ hne, rd_sb_ne _ _ _ hne]
    exact (rb_sb _ _ _ (by decide)).trans (if_pos rfl)
  · rw [rb, hrd, wf, rd_wr, bit_putFld (by decide) (by decide), if_neg (by decide), wf, rd_wr, bit_putFld (by decide) (by decide),
      if_neg (by decide)]
    exact (rb_sb _ _ _ (by decide)).trans (if_pos rfl)
  · rw [rf, hrd, wf, rd_wr, fld_putFld_disjoint (by decide) (by decide) (by decide) (by decide), wf, rd_wr, fld_putFld (by decide) (by decide)]
    exact Nat.mod_eq_of_lt hk

theorem exec_editShadowLoaded {s : State} (h : blocksRun s = true) : exec .editShadowLoaded s = .next (shadowLoaded s) := by
  show Host.Outcome.next (if blocksRun s then shadowLoaded s else s) = _
  rw [if_pos h]

theorem edctlEffect_disarms {s : State} {v : Word} (hh : edHeld s = true) (h5 : bit v 5 = false) :
    rb (edctlEffect s v) Reg.schedEdctl 5 = false ∧ rb (edctlEffect s v) Reg.schedEdstat 1 = true ∧
      rf (edctlEffect s v) Reg.schedEdstat 6 2 = 0x0F := by
  have he : edctlEffect s v = editAbandon { sb (if edSame s v then s else sb s Reg.schedStat 1 true) Reg.schedEdctl 5 true with
      edit := { (if edSame s v then s else sb s Reg.schedStat 1 true).edit with arming := false } } 0x0F := by
    rw [edctlEffect, if_pos hh, if_neg (by rw [h5]; decide)]
  generalize (if edSame s v then s else sb s Reg.schedStat 1 true) = u at he
  have ha : edArmed { sb u Reg.schedEdctl 5 true with edit := { u.edit with arming := false } } = true :=
    (rb_sb u Reg.schedEdctl true (by decide : 5 < 32)).trans (if_pos rfl)
  rw [he]
  exact editAbandon_shows ha (by decide)

/-- R243: what the read of the pending header leaves. -/
theorem shadowLoaded_eq {s : State} (ha : s.edit.arming = true) :
    let w := { s with edit := { s.edit with arming := false } }
    let r := readOuterN w (slotBase w (edApp s) (!activeB w (edApp s))) 64
    shadowLoaded s = match r.2 with
      | some h => { sb r.1 Reg.schedEdctl 5 true with edit := { r.1.edit with pend := h, fail := 0, ego := false, commit := false } }
      | none => wf (wf (sb r.1 Reg.schedEdstat 1 true) Reg.schedEdstat 6 2 2) Reg.schedEdstat 31 16 (edEid r.1) := by
  intro w r
  rw [shadowLoaded, if_neg (by rw [ha]; decide)]
  show (match r with | (s, none) => _ | (s, some h) => _) = _
  obtain ⟨u, o⟩ := r
  cases o <;> rfl

/-- Settles O39: enabling, disabling and swapping, then arming, disarming and the read of the pending header. -/
theorem schedulerControl : Obligations.SchedulerControl := by
  unfold Obligations.SchedulerControl
  intro s v w
  have hw : w = ctlWritten s v := rfl
  clear_value w
  subst hw
  refine ⟨fun hoff h0 h3 => ?enable, fun hon h0 h3 => ?disable, fun hon h0 h3 => ?swap, fun hh h5 => ?arm,
    fun hh h5 => edctlEffect_disarms hh h5, fun hb ha => ?loaded⟩
  case enable =>
    have hoff' : schedOn (ctlWritten s v) = false := (schedOn_ctlWritten s v).trans hoff
    rw [ctlEffect_enables hoff h0 h3, ← wBank_ctlWritten s v]
    refine ⟨fun hr => schedEnable_inForce hoff' hr, fun hr => ⟨schedEnable_fails hr, ?_⟩⟩
    rw [schedEnable_fails hr, rb, rd_validate _ _ _ (by decide) (by decide)]
    exact hoff'
  case disable =>
    rw [ctlEffect_disables hon h0 h3]
    exact schedDisable_stops (ctlWritten s v)
  case swap =>
    rw [ctlEffect_swaps hon h0 h3, swapRequest_eq, aBank_ctlWritten]
  case arm =>
    have he : edctlEffect s v = { wr s Reg.schedEdctl (v &&& 0xFFFFDF#32) with edit := { s.edit with arming := true } } := by
      rw [edctlEffect, if_neg (by rw [hh]; decide)]
      exact if_pos h5
    rw [he]
    exact ⟨rfl, rfl⟩
  case loaded =>
    have hl := shadowLoaded_eq ha
    dsimp only at hl
    rw [exec_editShadowLoaded hb]
    refine ⟨fun h hr => ?_, fun hr => ?_⟩ <;> rw [hl, hr]

end Sys2Proof.Machine
end

section
/-! PROOFS. No effect of a register write starts another write: the write in progress stays as it was (R392). -/

namespace Sys2Proof.Machine

/-! ### Background work -/

@[simp] theorem record_jPend (s : State) (r : FaultInfo) : (record s r).jPend = s.jPend := background_jPend.record s r
@[simp] theorem discardApp_jPend (s : State) (a : Nat) : (discardApp s a).jPend = s.jPend := background_jPend.discardApp s a
@[simp] theorem dirtyLost_jPend (s : State) (l : CLine) (f : Option Nat) : (dirtyLost s l f).jPend = s.jPend := background_jPend.dirtyLost s l f
@[simp] theorem lakeDrop_jPend (s : State) (m t w : Nat) : (lakeDrop s m t w).jPend = s.jPend := background_jPend.lakeDrop s m t w
@[simp] theorem lakeWriteBack_jPend (s : State) (m : Nat) (l : CLine) : (lakeWriteBack s m l).jPend = s.jPend :=
  background_jPend.lakeWriteBack s m l
@[simp] theorem icuSettle_jPend (old s : State) : (icuSettle old s).jPend = s.jPend := background_jPend.icuSettle old s
@[simp] theorem validate_jPend (s : State) (b swap : Bool) : (validate s b swap).1.jPend = s.jPend :=
  background_jPend.validate (fun _ _ => rfl) (fun _ _ => rfl) s b swap
@[simp] theorem writeLine_jPend (s : State) (m n : Nat) (l : Line) (x : Option Nat) : (nchWrite (putLine s n l) m n x).jPend = s.jPend :=
  background_jPend.writeLine s m n l x
@[simp] theorem ringSource_jPend (s : State) (n : Nat) : (ringSource s n).jPend = s.jPend := icuSettle_jPend _ _

@[simp] theorem askPower_jPend (s : State) (g : Nat) : (askPower s g).jPend = s.jPend := view_ite (view := State.jPend) rfl rfl
@[simp] theorem plain_jPend (s : State) (a : Nat) (v : Word) : (plain s a v).jPend = s.jPend := by
  unfold plain plainWrite
  split <;> rfl
@[simp] theorem plainWrite_jPend (s : State) (a : Nat) (v m : Word) : (plainWrite s a v m).jPend = s.jPend := by
  unfold plainWrite
  split <;> rfl

/-! ### ICU and CVU -/

theorem icuEffect_jPend (s : State) (q : Req) (a : Nat) (v : Word) : (icuEffect s q a v).jPend = s.jPend := by
  simp [icuEffect, doorbell, apply_ite State.jPend]

@[simp] theorem cvuInit_jPend (s : State) (u : Nat) : (cvuInit s u).jPend = s.jPend := (rfl)
@[simp] theorem cvuFeed_jPend (s : State) (u : Nat) (bs : List Byte) : (cvuFeed s u bs).jPend = s.jPend := (rfl)
@[simp] theorem cvuFin_jPend (s : State) (u : Nat) : (cvuFin s u).jPend = s.jPend := by simp [cvuFin, apply_ite State.jPend]
@[simp] theorem cvuStop_jPend (s : State) (u : Nat) : (cvuStop s u).jPend = s.jPend := by
  simp [cvuStop, putCvu, apply_ite State.jPend]
@[simp] theorem cvuGo_jPend (s : State) (u : Nat) : (cvuGo s u).1.jPend = s.jPend := by
  unfold cvuGo
  dsimp only
  split
  · rfl
  · split <;> rfl

theorem cvuRun_jPend (u : Nat) (cs : List CvuCmd) : ∀ s, (cvuRun s u cs).jPend = s.jPend := by
  induction cs with
  | nil => exact fun _ => rfl
  | cons c r ih =>
    intro s
    unfold cvuRun
    split
    · rfl
    · cases c with
      | init => exact ih _
      | feed n v => exact ih _
      | fin => exact (ih _).trans (cvuFin_jPend s u)
      | go =>
        have hg := cvuGo_jPend s u
        dsimp only
        split
        · next he =>
          rw [he] at hg
          exact (ih _).trans hg
        · next he =>
          rw [he] at hg
          exact hg

theorem cvuPush_jPend {s t : State} {u : Nat} {cs : List CvuCmd} (h : cvuPush s u cs = some t) : t.jPend = s.jPend := by
  unfold cvuPush at h
  dsimp only at h
  split at h
  · split at h
    · cases h; rfl
    · cases h
  · cases h; exact cvuRun_jPend u cs s

@[simp] theorem vGo_jPend (s : State) (q : Req) (c : Nat) (b : Bool) : (vGo s q c b).jPend = s.jPend := by
  unfold vGo
  split <;> rfl

theorem cvuEffect_jPend {s t : State} {q : Req} {a : Nat} {v : Word} (h : cvuEffect s q a v = some t) : t.jPend = s.jPend := by
  unfold cvuEffect at h
  split at h
  · dsimp only at h
    split at h
    · cases h; exact plain_jPend _ _ _
    · exact (cvuPush_jPend h).trans (view_ite (view := State.jPend) (cvuStop_jPend _ _) rfl)
    · exact cvuPush_jPend h
    · exact cvuPush_jPend h
    · exact cvuPush_jPend h
    · cases h; exact plain_jPend _ _ _
  · split at h
    · split at h
      · cases h; exact view_ite (view := State.jPend) (vGo_jPend _ _ _ _) rfl
      · cases h; exact plain_jPend _ _ _
    · cases h; exact plain_jPend _ _ _

/-! ### Commands that end, frames that are sent -/

@[simp] theorem endWaits_jPend (s : State) (p : WaitCmd → Bool) (st r : Nat) : (endWaits s p st r).jPend = s.jPend := by
  have hc (t : State) (c : Nat) : (complete t c st r []).jPend = t.jPend := by
    unfold complete completeN respond
    rfl
  exact foldl_keeps (f := fun t (w : WaitCmd) => complete t w.chan st r []) State.jPend (fun _ _ => hc _ _) _ s

@[simp] theorem editAbandon_jPend (s : State) (k : Nat) : (editAbandon s k).jPend = s.jPend := by
  simp [editAbandon, apply_ite State.jPend]

theorem enq_jPend (s : State) (p : Port) (f : TxFrame) : (enq s p f).jPend = s.jPend := view_ite (view := State.jPend) rfl rfl
theorem sendVia_jPend (s : State) (p : Port) (f : TxFrame) : (sendVia s p f).jPend = s.jPend :=
  view_ite (view := State.jPend) (enq_jPend _ _ _) (view_ite (view := State.jPend) rfl (enq_jPend _ _ _))

theorem originate_jPend (s : State) (typ sub dA dB : Nat) (a b nw : Bool) (ts : Word) (pay : List Word) :
    (originate s typ sub dA dB a b nw ts pay).jPend = s.jPend := by
  unfold originate
  generalize hp : nextSeq s typ sub = p
  have hu : p.2.jPend = s.jPend := by rw [← hp]; rfl
  obtain ⟨q, u⟩ := p
  have ha (f : TxFrame) : (if a then sendVia u .a f else u).jPend = s.jPend := view_ite (view := State.jPend) ((sendVia_jPend _ _ _).trans hu) hu
  exact view_ite (view := State.jPend) rfl (view_ite (view := State.jPend) ((sendVia_jPend _ _ _).trans (ha _)) (ha _))

@[simp] theorem mgmtSend_jPend (s : State) (sub : Nat) (pay : List Word) : (mgmtSend s sub pay).jPend = s.jPend :=
  originate_jPend _ _ _ _ _ _ _ _ _ _

@[simp] theorem editFault_jPend (s : State) : (editFault s).jPend = s.jPend := by
  simp [editFault, apply_ite State.jPend]

/-! ### SCHED -/

@[simp] theorem idleEngine_jPend (s : State) (e : Nat) : (idleEngine s e).jPend = s.jPend := (rfl)
@[simp] theorem abandonSoft_jPend (s : State) (es : List Nat) : (abandonSoft s es).jPend = s.jPend := by
  refine foldl_keeps State.jPend (fun t p => ?_) _ s
  split
  · exact view_ite (view := State.jPend) rfl rfl
  · rfl
@[simp] theorem endGlade_jPend (s : State) (g : Nat) : (endGlade s g).jPend = s.jPend := by simp [endGlade]
@[simp] theorem forceStop_jPend (s : State) (g : Nat) : (forceStop s g).jPend = s.jPend := by
  unfold forceStop
  split
  · rfl
  · exact discardApp_jPend _ _
theorem stopAll_jPend (s : State) : (stopAll s).jPend = s.jPend := by
  unfold stopAll
  dsimp only
  rw [foldl_keeps State.jPend discardApp_jPend, foldl_keeps State.jPend forceStop_jPend]
@[simp] theorem schedDisable_jPend (s : State) : (schedDisable s).jPend = s.jPend := by
  have h := stopAll_jPend s
  rw [schedDisable_eq]
  generalize stopAll s = u at h ⊢
  exact h

@[simp] theorem startApps_jPend (s : State) (ns : List Nat) : (startApps s ns).jPend = s.jPend :=
  foldl_keeps (f := fun t n => putApp t n { State.appReset with discards := 0 }) State.jPend (fun _ _ => rfl) ns s

@[simp] theorem schedEnable_jPend (s : State) : (schedEnable s).jPend = s.jPend := by
  cases h : (validate s (wBank s) false).2 with
  | true => simp [schedEnable_passes h]
  | false => simp [schedEnable_fails h]

@[simp] theorem swapRequest_jPend (s : State) : (swapRequest s).jPend = s.jPend := by
  simp [swapRequest_eq, apply_ite State.jPend]

theorem ctlEffect_jPend (s : State) (v : Word) : (ctlEffect s v).jPend = s.jPend := by
  simp [ctlEffect, apply_ite State.jPend]

theorem edctlEffect_jPend (s : State) (v : Word) : (edctlEffect s v).jPend = s.jPend := by
  simp [edctlEffect, apply_ite State.jPend]

@[simp] theorem stageDone_jPend (s : State) (n k : Nat) : (stageDone s n k).jPend = s.jPend := view_ite (view := State.jPend) rfl rfl

theorem schedDoneBy_jPend (s : State) (e : Nat) : (schedDoneBy s e).jPend = s.jPend := by
  unfold schedDoneBy
  dsimp only
  split
  · rfl
  · split
    · rfl
    · simp [apply_ite State.jPend]

theorem schedEffect_jPend (s : State) (q : Req) (a : Nat) (v : Word) : (schedEffect s q a v).jPend = s.jPend := by
  simp [schedEffect, apply_ite State.jPend, ctlEffect_jPend, edctlEffect_jPend, schedDoneBy_jPend]

end Sys2Proof.Machine
end

section
/-! PROOFS. The write in progress, continued: CMX, Ponds, tables, fences, the other blocks; then every register (R392). -/

namespace Sys2Proof.Machine

/-! ### CMX and Ponds -/

@[simp] theorem lakeRead_jPend (s : State) (m n : Nat) : (lakeRead s m n).1.jPend = s.jPend := background_jPend.lakeRead s m n
@[simp] theorem lkCount_jPend (s : State) (b : Bool) : (lkCount s b).jPend = s.jPend := (rfl)
@[simp] theorem cmxLost_jPend (s : State) (l : CLine) : (cmxLost s l).jPend = s.jPend := dirtyLost_jPend s l none
@[simp] theorem cmxSkipped_jPend (s : State) : (cmxSkipped s).jPend = s.jPend := (rfl)
@[simp] theorem putLake_jPend (s : State) (t w : Nat) (l : Option CLine) : (putLake s t w l).jPend = s.jPend := (rfl)

@[simp] theorem putLine_jPend (s : State) (n : Nat) (l : Line) : (putLine s n l).jPend = s.jPend :=
  background_jPend.putBytes s (n * 64) (lineBytes l)
@[simp] theorem nchWrite_jPend (s : State) (m n : Nat) (x : Option Nat) : (nchWrite s m n x).jPend = s.jPend :=
  background_jPend.nchWriteAt s m (n * 64) 64 x

theorem cmxLakeLine_jPend (c : CmxOp) (s : State) (n : Nat) : (cmxLakeLine c s n).jPend = s.jPend := by
  unfold cmxLakeLine cmxLake
  split
  · split
    · rfl
    · simp [apply_ite State.jPend]
  · rfl

theorem cmxL1i_jPend (s : State) (op g n : Nat) : (cmxL1i s op g n).jPend = s.jPend := by
  unfold cmxL1i
  split
  · simp [apply_ite State.jPend]
  · rfl

theorem l1dOp_jPend (s : State) (op : Nat) (l : CLine) : (l1dOp s op l).1.jPend = s.jPend := by
  unfold l1dOp
  simp [apply_ite Prod.fst, apply_ite State.jPend]

theorem cmxL1d_jPend (s : State) (op g n : Nat) : (cmxL1d s op g n).jPend = s.jPend := by
  unfold cmxL1d
  split
  · exact l1dOp_jPend _ _ _
  · split
    · exact l1dOp_jPend _ _ _
    · rfl

theorem cmxL1Line_jPend (c : CmxOp) (s : State) (n : Nat) : (cmxL1Line c s n).jPend = s.jPend := by
  unfold cmxL1Line
  refine foldl_keeps State.jPend (fun t g => ?_) _ s
  simp [apply_ite State.jPend, cmxL1d_jPend, cmxL1i_jPend]

theorem cmxWalk_jPend (s : State) (c : CmxOp) : (cmxWalk s c).jPend = s.jPend := by
  unfold cmxWalk
  split
  · exact (foldl_keeps State.jPend (cmxLakeLine_jPend c) _ _).trans (foldl_keeps State.jPend (cmxL1Line_jPend c) _ _)
  · exact foldl_keeps (f := fun t n => cmxLakeLine c (cmxL1Line c t n) n) State.jPend
      (fun _ _ => (cmxLakeLine_jPend c _ _).trans (cmxL1Line_jPend c _ _)) _ _

theorem pondLoad_jPend (s : State) (c : CmxOp) : (pondLoad s c).jPend = s.jPend := by
  unfold pondLoad
  refine foldl_keeps State.jPend (fun t i => ?_) _ s
  have hr := lakeRead_jPend t 35 (c.first + i)
  split <;>
  · next he =>
    rw [he] at hr
    exact hr

theorem preloadLine_jPend (s : State) (n : Nat) : (preloadLine s n).jPend = s.jPend := by
  have locks {u : State} (hu : u.jPend = s.jPend) : (match lakeWay u n with
      | some (w, l) =>
        if l.locked then u
        else if lockedIn u (n % 4096) ≥ 12 then cmxSkipped (sb u Reg.cmxStat 4 true)
        else lkCount (putLake u (n % 4096) w (some { l with locked := true })) true
      | none =>
        if lockedIn u (n % 4096) ≥ 12 then cmxSkipped (sb u Reg.cmxStat 4 true)
        else
          match freeReadId u with
          | some i => { u with nchm := u.nchm ++ [(⟨i, n, 35, .preload, true, none⟩ : NchTxn)] }
          | none => u).jPend = s.jPend := by
    split
    · exact view_ite (view := State.jPend) hu (view_ite (view := State.jPend) hu hu)
    · refine view_ite (view := State.jPend) hu ?_
      split <;> exact hu
  unfold preloadLine
  refine locks ?_
  split
  · exact view_ite (view := State.jPend) (view_ite (view := State.jPend) (lakeDrop_jPend _ _ _ _) (lakeDrop_jPend _ _ _ _)) rfl
  · rfl

theorem preloadRun_jPend (n : Nat) : ∀ s, (preloadRun n s).jPend = s.jPend := by
  induction n with
  | zero => exact fun _ => rfl
  | succ n ih =>
    intro s
    rw [preloadRun]
    split
    · rfl
    · split
      · rfl
      · exact (ih _).trans (preloadLine_jPend _ _)

@[simp] theorem cmxStart_jPend (s : State) (q : Req) (v : Word) : (cmxStart s q v).jPend = s.jPend := by
  unfold cmxStart
  generalize cmxOpOf s q v = c
  dsimp only
  generalize hu : List.foldl _ (sb s Reg.cmxStat 0 true) (cmxGroves c) = u
  have hj : u.jPend = s.jPend := by
    rw [← hu]
    refine (foldl_keeps State.jPend (fun t g => ?_) _ _).trans rfl
    exact view_ite (view := State.jPend) (askPower_jPend _ _) rfl
  refine view_ite (view := State.jPend) ?_ ?_
  · exact (preloadRun_jPend _ _).trans hj
  · exact (view_ite (view := State.jPend) (pondLoad_jPend u c) (cmxWalk_jPend u c)).trans hj

theorem dWayClean_jPend (s : State) (g w : Nat) : (dWayClean s g w).jPend = s.jPend := by
  unfold dWayClean
  refine foldl_keeps State.jPend (fun t i => ?_) _ s
  split
  · rfl
  · simp [apply_ite State.jPend]

@[simp] theorem pondWrite_jPend (s : State) (g : Nat) (v : Word) : (pondWrite s g v).jPend = s.jPend := by
  unfold pondWrite
  dsimp only
  rw [askPower_jPend]
  show (List.foldl _ (List.foldl _ s _) _).jPend = _
  rw [foldl_keeps (f := fun t w => iWayDrop t g w) State.jPend (fun _ _ => rfl),
    foldl_keeps (f := fun t w => dWayClean t g w) State.jPend (fun _ _ => dWayClean_jPend _ _ _)]

/-! ### Item tables -/

theorem readTarn_jPend (s : State) (t w m : Nat) : (readTarn s t w m).1.jPend = s.jPend := by
  unfold readTarn
  split
  · rfl
  · rfl
  · simp [logUe]

theorem readWords_jPend (t m n : Nat) : ∀ (s : State) (w : Nat), (readWords s t w m n).1.jPend = s.jPend := by
  induction n with
  | zero => exact fun _ _ => rfl
  | succ n ih =>
    intro s w
    have hr := readTarn_jPend s t w m
    rw [readWords]
    split
    · next he =>
      rw [he] at hr
      exact hr
    · next he =>
      rw [he] at hr
      have hn := ih ‹State› (w + 1)
      split <;>
      · next hs =>
        rw [hs] at hn
        exact hn.trans hr

@[simp] theorem itemTable_jPend (s : State) (v : Word) : (itemTable s v).jPend = s.jPend := by
  have hd : (itemDecide s v).1.jPend = s.jPend := by
    unfold itemDecide
    dsimp only
    split
    · rfl
    · split
      · rfl
      · have hr := readWords_jPend (rf s Reg.shrItbl 5 0) 36 (2 * fld v 12 0) s (rf s Reg.shrItbl 20 6)
        split
        · next he =>
          rw [he] at hr
          exact hr
        · next he =>
          rw [he] at hr
          split <;> exact hr
  unfold itemTable
  split <;>
  · next he =>
    rw [he] at hd
    exact hd

/-! ### Fences -/

@[simp] theorem settle_jPend (s : State) : (settle s).jPend = s.jPend := by
  obtain ⟨_, _, _, _, h, -⟩ := settle_eq s
  rw [h]

@[simp] theorem holdSettle_jPend (s : State) : (holdSettle s).jPend = s.jPend := by
  obtain ⟨_, _, h⟩ := holdSettle_eq s
  rw [h]

theorem stopWriters_jPend (s : State) (es : List Nat) : (stopWriters s es).jPend = s.jPend := by
  unfold stopWriters
  refine foldl_keeps State.jPend (fun t u => ?_) _ s
  exact view_ite (view := State.jPend) (cvuStop_jPend _ _) rfl

theorem dropSubstitute_jPend (s : State) (g : Nat) : (dropSubstitute s g).jPend = s.jPend := by
  unfold dropSubstitute
  refine foldl_keeps State.jPend (fun t k => ?_) _ s
  exact view_ite (view := State.jPend) rfl rfl

@[simp] theorem stopEngine_jPend (s : State) (e : Nat) : (stopEngine s e).jPend = s.jPend := (rfl)

theorem fenceGrove_jPend (s : State) (g : Nat) (es : List Nat) : (fenceGrove s g es).jPend = s.jPend := by
  unfold fenceGrove
  extract_lets whole fenced mates discarded stopped ended engines grove halts writers subst
  have hfenced : fenced.jPend = s.jPend := foldl_keeps (f := fun t e => sb t Reg.grvFence e true) State.jPend (fun _ _ => rfl) es s
  clear_value fenced
  have hdiscarded : discarded.jPend = s.jPend := by
    unfold discarded
    split
    · exact (discardApp_jPend _ _).trans hfenced
    · exact hfenced
  clear_value discarded
  have hstopped : stopped.jPend = s.jPend := (foldl_keeps State.jPend forceStop_jPend _ _).trans hdiscarded
  clear_value stopped
  have hended : ended.jPend = s.jPend := view_ite (view := State.jPend) ((endGlade_jPend _ _).trans hstopped) hstopped
  clear_value ended
  have hengines : engines.jPend = s.jPend := (foldl_keeps State.jPend stopEngine_jPend _ _).trans hended
  clear_value engines
  have hhalts : halts.jPend = s.jPend := (holdSettle_jPend _).trans hengines
  clear_value halts
  have hwriters : writers.jPend = s.jPend := (stopWriters_jPend _ _).trans hhalts
  clear_value writers
  have hsubst : subst.jPend = s.jPend := (dropSubstitute_jPend _ _).trans hwriters
  clear_value subst
  exact view_ite (view := State.jPend) ((editFault_jPend _).trans hsubst) hsubst

theorem fenceByWsp_jPend (s : State) (v : Word) : (fenceByWsp s v).jPend = s.jPend := by
  unfold fenceByWsp
  refine foldl_keeps State.jPend (fun t g => ?_) _ s
  split
  · rfl
  · dsimp only
    rw [fenceGrove_jPend, record_jPend]

theorem unfence_jPend (s : State) (v : Word) : (unfence s v).jPend = s.jPend := by
  unfold unfence
  refine foldl_keeps State.jPend (fun t g => ?_) _ s
  split
  · simp only [putEng_jPend, sb_jPend]
  · rfl

/-! ### The blocks -/

theorem ownRequest_jPend (s : State) (t : Nat) (v : Word) : (ownRequest s t v).jPend = s.jPend := by
  refine view_ite (view := State.jPend) rfl ?_
  unfold askWake
  split <;> rfl

theorem imgEffect_jPend {s t : State} {a : Nat} {v : Word} (h : imgEffect s a v = some t) : t.jPend = s.jPend := by
  unfold imgEffect at h
  split at h <;> cases h
  rfl

theorem tarnEffect_jPend {s t : State} {a : Nat} {v : Word} (h : tarnEffect s a v = some t) : t.jPend = s.jPend := by
  unfold tarnEffect at h
  split at h <;> cases h
  exact ownRequest_jPend _ _ _

theorem cmxEffect_jPend {s t : State} {q : Req} {a : Nat} {v : Word} (h : cmxEffect s q a v = some t) : t.jPend = s.jPend := by
  unfold cmxEffect at h
  split at h
  · cases h; exact cmxStart_jPend _ _ _
  · split at h <;> cases h
    exact pondWrite_jPend _ _ _

theorem shrEffect_jPend {s t : State} {a : Nat} {v : Word} (h : shrEffect s a v = some t) : t.jPend = s.jPend := by
  unfold shrEffect at h
  dsimp only at h
  split at h
  · rw [← Option.some.inj h, settle_jPend, wr_jPend]
  · split at h
    · cases h; exact view_ite (view := State.jPend) rfl rfl
    · split at h <;> cases h
      exact itemTable_jPend _ _

theorem grvEffect_jPend {s t : State} {a : Nat} {v : Word} (h : grvEffect s a v = some t) : t.jPend = s.jPend := by
  unfold grvEffect at h
  dsimp only at h
  split at h
  · cases h; exact view_ite (view := State.jPend) rfl rfl
  · split at h
    · cases h; exact fenceByWsp_jPend _ _
    · split at h
      · cases h; exact unfence_jPend _ _
      · split at h
        · cases h
          rw [foldl_keeps (f := fun t e => putEng t e (ersPut (eng t e) (rf s Reg.grvErsel 7 0)
            (v &&& ersMask (rf s Reg.grvErsel 7 0)))) State.jPend (fun _ _ => rfl), askPower_jPend]
        · split at h
          · cases h; rfl
          · split at h <;> cases h
            rfl

theorem attEffect_jPend {s t : State} {a : Nat} {v : Word} (h : attEffect s a v = some t) : t.jPend = s.jPend := by
  unfold attEffect at h
  split at h
  · rw [← Option.some.inj h, settle_jPend, wr_jPend]
  · cases h

theorem putActEntry_jPend (s : State) (k m : Nat) (x : BitVec 16) : (putActEntry s k m x).jPend = s.jPend :=
  view_ite (view := State.jPend) rfl rfl

theorem actEffect_jPend (s : State) (a : Nat) (v : Word) : (actEffect s a v).jPend = s.jPend := by
  simp [actEffect, apply_ite State.jPend, putActEntry_jPend]

theorem wdiEffect_jPend (s : State) (q : Req) (a : Nat) (v : Word) : (wdiEffect s q a v).jPend = s.jPend := by
  simp [wdiEffect, checkIn, apply_ite State.jPend]

theorem tbEffect_jPend (s : State) (a : Nat) (v : Word) : (tbEffect s a v).jPend = s.jPend := by
  simp [tbEffect, tbCtlSet, apply_ite State.jPend]

theorem dbgvEffect_jPend (s : State) (q : Req) (a : Nat) (v : Word) : (dbgvEffect s q a v).jPend = s.jPend := by
  simp [dbgvEffect, putTerm, apply_ite State.jPend]

theorem idEffect_jPend (s : State) (a : Nat) (v : Word) : (idEffect s a v).jPend = s.jPend := by
  have hclear : (patchClear s).jPend = s.jPend :=
    (foldl_keeps (f := fun t n => sb t (Reg.idUmatch + n) 31 false) State.jPend (fun _ _ => rfl) _ _).trans rfl
  have hdata : (patchData s v).jPend = s.jPend := view_ite (view := State.jPend) rfl rfl
  simp [idEffect, hdata, apply_ite State.jPend, hclear]

/-- No effect of a register write moves the write in progress. -/
theorem ioEffect_jPend {s t : State} {q : Req} {a : Nat} {v : Word} (h : ioEffect s q a v = some t) : t.jPend = s.jPend := by
  have or_jPend {o : Option State} (ho : ∀ u, o = some u → u.jPend = s.jPend) (hs : some (o.getD (plain s a v)) = some t) :
      t.jPend = s.jPend := by
    cases hs
    cases o with
    | none => exact plain_jPend s a v
    | some u => exact ho u rfl
  unfold ioEffect at h
  dsimp only at h
  split at h
  · cases h; exact icuEffect_jPend _ _ _ _
  · exact cvuEffect_jPend h
  · cases h; exact schedEffect_jPend _ _ _ _
  · exact or_jPend (fun _ => imgEffect_jPend) h
  · exact or_jPend (fun _ => tarnEffect_jPend) h
  · exact or_jPend (fun _ => cmxEffect_jPend) h
  · cases h; exact actEffect_jPend _ _ _
  · cases h; exact view_ite (view := State.jPend) rfl (plain_jPend _ _ _)
  · exact or_jPend (fun _ => shrEffect_jPend) h
  · exact or_jPend (fun _ => grvEffect_jPend) h
  · cases h; exact view_ite (view := State.jPend) rfl (plain_jPend _ _ _)
  · cases h; exact tbEffect_jPend _ _ _
  · cases h; exact wdiEffect_jPend _ _ _ _
  · exact or_jPend (fun _ => attEffect_jPend) h
  · cases h; exact view_ite (view := State.jPend) rfl (plain_jPend _ _ _)
  · cases h; exact dbgvEffect_jPend _ _ _ _
  · cases h; exact idEffect_jPend _ _ _
  · cases h; rfl

/-- After a journaled write is completed, none is in progress. -/
@[simp] theorem finishWrite_jPend (s : State) : (finishWrite s).jPend = none := by
  unfold finishWrite
  split
  · assumption
  · next j hj =>
    dsimp only
    generalize hw : writeEntry { s with jPend := none } j.seq j.time _ = w
    have hn : w.jPend = none := by rw [← hw, background_jPend.writeEntry]
    cases he : ioEffect w ⟨j.origin, j.vital, j.sup⟩ j.addr j.value with
    | none => exact hn
    | some t => exact (ioEffect_jPend he).trans hn

theorem finishWrite_of_none {s : State} (h : s.jPend = none) : finishWrite s = s := by rw [finishWrite, h]

@[simp] theorem finishWrite_finishWrite (s : State) : finishWrite (finishWrite s) = finishWrite s :=
  finishWrite_of_none (finishWrite_jPend s)

end Sys2Proof.Machine
end

section
/-! PROOFS. Writes of journaled registers (O38): how a write by a master ends, and the checks and the effect of each register. -/

namespace Sys2Proof.Machine

/-! ### How a journaled write ends (R22, R392, R393, R396) -/

/-- `a` is a journaled register of block `b`, and no word of an access table (whose entries name another target). -/
def jrnReg (a b : Nat) : Bool := isJrn a && decide (blockOf a = b) && !inRange a Reg.actEnt 32

theorem jrnReg_isJrn {a b : Nat} (h : jrnReg a b = true) : isJrn a = true := by simp_all [jrnReg]
theorem jrnReg_blockOf {a b : Nat} (h : jrnReg a b = true) : blockOf a = b := by simp_all [jrnReg]
theorem jrnReg_writeKind {a b : Nat} (h : jrnReg a b = true) : writeKind a = 0 := by simp_all [jrnReg, writeKind, b2n]
theorem jrnReg_writeTcode {a b : Nat} (h : jrnReg a b = true) (s : State) : writeTcode s a = blockOf a := by
  simp_all [jrnReg, writeTcode]
theorem jrnReg_rowOf {a b : Nat} (h : jrnReg a b = true) : ∃ r, rowOf a = some r := by
  have hj := jrnReg_isJrn h
  unfold isJrn at hj
  split at hj
  · exact ⟨_, ‹_›⟩
  · cases hj

section
variable {s t u : State} {q : Req} {a b : Nat} {v : Word} (ht : finishWrite s = t)
include ht

theorem ioPost_denied {d : Denial} (hd : ioDenied t q a needW = some d) : (ioPost s q a v).state = logDenial t d := by
  unfold ioPost ioPut
  subst ht
  simp only [finishWrite_finishWrite, hd, IoOut.state, ite_self]

theorem ioPost_refused (hd : ioDenied t q a needW = none) (hok : ioAccept t q a v = some u) : (ioPost s q a v).state = u := by
  unfold ioPost ioPut
  subst ht
  simp only [finishWrite_finishWrite, hd, hok, IoOut.state, ite_self]

theorem ioPost_closed (hd : ioDenied t q a needW = none) (hok : ioAccept t q a v = none) (ho : jrnOpen t = false)
    (he : ioEffect t q a v = some u) : (ioPost s q a v).state = u := by
  subst ht
  unfold ioPost ioPut
  simp [hd, hok, ho, he, jrnFull, IoOut.state]

theorem ioPost_full (hd : ioDenied t q a needW = none) (hok : ioAccept t q a v = none) (hj : isJrn a = true)
    (ho : jrnOpen t = true) (hu : jrnUsedN t ≥ 4032) : (ioPost s q a v).state = jrnRefuse t := by
  unfold ioPost
  simp [ht, hd, hok, hj, ho, hu, jrnFull, IoOut.state]

theorem ioPost_entry (hd : ioDenied t q a needW = none) (hok : ioAccept t q a v = none) (hr : jrnReg a b = true)
    (ho : jrnOpen t = true) (hu : jrnUsedN t < 4032) (he : ioEffect t q a v = some u) :
    (ioPost s q a v).state = { jrnRise (wr t Reg.jrnHead (rd t Reg.jrnHead + 1)) with
      jPend := some { seq := rd t Reg.jrnHead, origin := q.master, vital := q.vital, sup := q.sup, kind := 0, exempt := false,
                      addr := a, tcode := blockOf a, old := ioValue t q a, new := newWord t u q a v, time := t.tb.now,
                      value := v } } := by
  unfold ioPost
  simp [ht, hd, hok, jrnReg_isJrn hr, ho, Nat.not_le.2 hu, jrnFull, he, takeSeq, jrnReg_writeKind hr, jrnReg_writeTcode hr, IoOut.state]

end

/-- A command that writes a journaled register does so as its block's checks and effect say. -/
theorem journaledWriteWhen {on : State → Bool} {c : Instr} {m a b : Nat} {v : Word} {ok : Req → State → Bool}
    {rej eff : Req → State → State} (hr : jrnReg a b = true) (hc : ∀ s, exec c s = .next (regWriteIf (on s) s m a v))
    (hok : ∀ q s, ioAccept s q a v = if ok q s then none else some (rej q s))
    (heff : ∀ q s, ioEffect s q a v = some (eff q s)) : JournaledWriteWhen on c m a v ok rej eff := by
  refine ⟨fun s => ?_, heff⟩
  intro q t acts
  have hacts : acts = (masterActs s m && on s) := rfl
  obtain ⟨w, hw⟩ : ∃ w, finishWrite s = w := ⟨_, rfl⟩
  have ht : t = w := hw
  have hwrite (h : acts = true) : exec c s = .next (ioPost s q a v).state := by
    obtain ⟨hm, ho⟩ : masterActs s m = true ∧ on s = true := by simpa [hacts] using h
    rw [hc, regWriteIf, if_pos ho, regWrite, if_pos hm]
  clear_value q t acts
  subst ht
  refine ⟨fun h => ?_, fun d h hd => ?_, fun h hd => ⟨fun hno => ?_, fun hyes ho => ?_, fun hyes ho hu => ?_, fun hyes ho hu => ?_⟩⟩
  · have hcases : masterActs s m = false ∨ on s = false := by
      rw [← Bool.and_eq_false_iff, ← hacts, h]
    rw [hc, regWriteIf, regWrite]
    obtain hm | hon := hcases
    · simp [hm]
    · simp [hon]
  · rw [hwrite h, ioPost_denied hw hd]
  · rw [hwrite h, ioPost_refused hw hd (by rw [hok, hno]; rfl)]
  · rw [hwrite h, ioPost_closed hw hd (by rw [hok, hyes]; rfl) ho (heff q t)]
  · rw [hwrite h, ioPost_full hw hd (by rw [hok, hyes]; rfl) (jrnReg_isJrn hr) ho hu]
  · rw [hwrite h, ioPost_entry hw hd (by rw [hok, hyes]; rfl) hr ho hu (heff q t)]

end Sys2Proof.Machine
end

section
/-! PROOFS. Settles O38, register by register. -/

namespace Sys2Proof.Machine

/-! ### The checks and the effect of a register's block -/

section
variable (s : State) (q : Req) {a : Nat} (v : Word)

theorem ioAccept_sched (h : jrnReg a 0x52 = true) : ioAccept s q a v = schedAccept s q a v := by
  obtain ⟨r, hr⟩ := jrnReg_rowOf h
  simp [ioAccept, hr, jrnReg_blockOf h]
theorem ioAccept_img (h : jrnReg a 0x53 = true) : ioAccept s q a v = imgAccept s a v := by
  obtain ⟨r, hr⟩ := jrnReg_rowOf h
  simp [ioAccept, hr, jrnReg_blockOf h]
theorem ioAccept_tarn (h : jrnReg a 0x54 = true) : ioAccept s q a v = tarnAccept s q a v := by
  obtain ⟨r, hr⟩ := jrnReg_rowOf h
  simp [ioAccept, hr, jrnReg_blockOf h]
theorem ioAccept_cmx (h : jrnReg a 0x55 = true) : ioAccept s q a v = cmxAccept s q a v := by
  obtain ⟨r, hr⟩ := jrnReg_rowOf h
  simp [ioAccept, hr, jrnReg_blockOf h]
theorem ioAccept_shr (h : jrnReg a 0x58 = true) : ioAccept s q a v = shrAccept s a v := by
  obtain ⟨r, hr⟩ := jrnReg_rowOf h
  simp [ioAccept, hr, jrnReg_blockOf h]
theorem ioAccept_grv (h : jrnReg a 0x59 = true) : ioAccept s q a v = grvAccept s q a v := by
  obtain ⟨r, hr⟩ := jrnReg_rowOf h
  simp [ioAccept, hr, jrnReg_blockOf h]
theorem ioAccept_tb (h : jrnReg a 0x5B = true) : ioAccept s q a v = tbAccept s a v := by
  obtain ⟨r, hr⟩ := jrnReg_rowOf h
  simp [ioAccept, hr, jrnReg_blockOf h]
theorem ioAccept_wdi (h : jrnReg a 0x5C = true) : ioAccept s q a v = wdiAccept s q a v := by
  obtain ⟨r, hr⟩ := jrnReg_rowOf h
  simp [ioAccept, hr, jrnReg_blockOf h]
theorem ioAccept_pwr (h : jrnReg a 0x5E = true) : ioAccept s q a v = pwrAccept s q a := by
  obtain ⟨r, hr⟩ := jrnReg_rowOf h
  simp [ioAccept, hr, jrnReg_blockOf h]

theorem ioEffect_sched (h : jrnReg a 0x52 = true) : ioEffect s q a v = some (schedEffect s q a v) := by
  simp [ioEffect, jrnReg_blockOf h]
theorem ioEffect_img (h : jrnReg a 0x53 = true) : ioEffect s q a v = some ((imgEffect s a v).getD (plain s a v)) := by
  simp [ioEffect, jrnReg_blockOf h]
theorem ioEffect_tarn (h : jrnReg a 0x54 = true) : ioEffect s q a v = some ((tarnEffect s a v).getD (plain s a v)) := by
  simp [ioEffect, jrnReg_blockOf h]
theorem ioEffect_cmx (h : jrnReg a 0x55 = true) : ioEffect s q a v = some ((cmxEffect s q a v).getD (plain s a v)) := by
  simp [ioEffect, jrnReg_blockOf h]
theorem ioEffect_shr (h : jrnReg a 0x58 = true) : ioEffect s q a v = some ((shrEffect s a v).getD (plain s a v)) := by
  simp [ioEffect, jrnReg_blockOf h]
theorem ioEffect_grv (h : jrnReg a 0x59 = true) : ioEffect s q a v = some ((grvEffect s a v).getD (plain s a v)) := by
  simp [ioEffect, jrnReg_blockOf h]
theorem ioEffect_tb (h : jrnReg a 0x5B = true) : ioEffect s q a v = some (tbEffect s a v) := by
  simp [ioEffect, jrnReg_blockOf h]
theorem ioEffect_wdi (h : jrnReg a 0x5C = true) : ioEffect s q a v = some (wdiEffect s q a v) := by
  simp [ioEffect, jrnReg_blockOf h]
theorem ioEffect_pwr (h : jrnReg a 0x5E = true) : ioEffect s q a v = some (pwrEffect s a v) := by
  simp [ioEffect, jrnReg_blockOf h]

end

/-! ### The registers -/

theorem jrnReg_tb : jrnReg Reg.tbSetl 0x5B = true ∧ jrnReg Reg.tbSeth 0x5B = true := by decide +kernel
theorem jrnReg_img : jrnReg Reg.imgRtbl 0x53 = true ∧ ∀ r : SegReg, ∀ n : Fin 32, jrnReg (segReg r + n.val) 0x53 = true := by
  refine ⟨by decide +kernel, fun r => ?_⟩
  cases r <;> decide +kernel
theorem jrnReg_shrItcnt : jrnReg Reg.shrItcnt 0x58 = true := by decide +kernel
theorem jrnReg_grv :
    jrnReg Reg.grvErdat 0x59 = true ∧ jrnReg Reg.grvFence 0x59 = true ∧ jrnReg Reg.grvUnfence 0x59 = true := by decide +kernel
theorem jrnReg_tarnOwn : ∀ t : Tarn, jrnReg (Reg.tarnOwn + t.val) 0x54 = true := by decide +kernel
theorem jrnReg_cmxPond : ∀ g : Grv, jrnReg (Reg.cmxPond + g.val) 0x55 = true := by decide +kernel
theorem jrnReg_wdiSet : jrnReg Reg.wdiSet 0x5C = true := by decide +kernel
theorem jrnReg_pwrLossmk : jrnReg Reg.pwrLossmk 0x5E = true := by decide +kernel
theorem jrnReg_sched : jrnReg Reg.schedCtl 0x52 = true ∧ jrnReg Reg.schedEdctl 0x52 = true := by decide +kernel

/-! ### What each block checks before it takes a write -/

section
variable (s : State) (q : Req) (v : Word)

theorem ite_eq_ite_of_eq_not {α : Type} {b c : Bool} {x y : α} (h : b = !c) : (if b then x else y) = if c then y else x := by
  subst h
  cases c <;> rfl

theorem tbAccept_set {a : Nat} (ha : a = Reg.tbSetl ∨ a = Reg.tbSeth) :
    tbAccept s a v = if mayStep s then none else some (sb s Reg.tbStat 2 true) := by
  obtain rfl | rfl := ha <;> rfl

theorem segApp_segReg : ∀ (r : SegReg) (n : Fin 32), segApp (segReg r + n.val) = some n.val := by
  intro r
  cases r <;> decide +kernel

theorem segReg_ne_imgRtbl : ∀ (r : SegReg) (n : Fin 32), segReg r + n.val ≠ Reg.imgRtbl := by
  intro r
  cases r <;> decide +kernel

theorem imgAccept_segReg (r : SegReg) (n : Fin 32) :
    imgAccept s (segReg r + n.val) v =
      if (segError (wr s (segReg r + n.val) (rwMerge s (segReg r + n.val) v)) n.val).isNone then none
      else some (wf (wf (sb s Reg.imgStat 0 true) Reg.imgStat 7 4
        ((segError (wr s (segReg r + n.val) (rwMerge s (segReg r + n.val) v)) n.val).getD 0)) Reg.imgStat 22 18 n.val) := by
  rw [imgAccept, segApp_segReg]
  dsimp only
  cases segError (wr s (segReg r + n.val) (rwMerge s (segReg r + n.val) v)) n.val <;> rfl

theorem grvAccept_erdat : grvAccept s q Reg.grvErdat v =
    if decide (q.master = 32) && decide (0x10 ≤ rf s Reg.grvErsel 7 0 ∧ rf s Reg.grvErsel 7 0 ≤ 0x1B) &&
      grvIdle s (rf s Reg.grvErsel 11 8) then none else some (sb s Reg.grvStat 0 true) := rfl

theorem grvAccept_fence : grvAccept s q Reg.grvFence v = if decide (q.master = 32) then none else some s := rfl

theorem grvAccept_unfence : grvAccept s q Reg.grvUnfence v =
    if decide (q.master = 32) && (List.range 16).all fun g => !(bit v g && groveInForce s g) then none
    else some (if decide (q.master = 32) then sb s Reg.grvStat 0 true else s) := by
  have hread : grvAccept s q Reg.grvUnfence v = if !decide (q.master = 32) then some s
      else if (List.range 16).any fun g => bit v g && groveInForce s g then some (sb s Reg.grvStat 0 true) else none := rfl
  have hall : ((List.range 16).all fun g => !(bit v g && groveInForce s g)) =
      !(List.range 16).any fun g => bit v g && groveInForce s g := by rw [List.not_any_eq_all_not]
  rw [hread, hall]
  cases decide (q.master = 32) <;> cases (List.range 16).any fun g => bit v g && groveInForce s g <;> rfl

theorem tarnAccept_own (t : Tarn) : tarnAccept s q (Reg.tarnOwn + t.val) v =
    if ownerValid (fld v 7 0) && decide (t.val < 60) && !sideTarn s t.val && (decide (q.master = 32) || decide (fld v 7 0 < 0x40))
    then none else some (sb s Reg.tarnStat 0 true) := by
  have hlt : Reg.tarnOwn + t.val < Reg.tarnOwn + 64 := Nat.add_lt_add_left t.isLt _
  rw [tarnAccept, if_pos hlt, Nat.add_sub_cancel_left]
  refine ite_eq_ite_of_eq_not ?_
  have hle (m n : Nat) : decide (n ≤ m) = !decide (m < n) := by
    rw [← decide_not, decide_eq_decide, Nat.not_lt]
  simp only [hle, ne_eq, decide_not, Bool.not_and, Bool.not_or, Bool.not_not, Bool.or_assoc]

theorem cmxPond_other : ∀ g : Grv, Reg.cmxPond + g.val ≠ Reg.cmxCmd ∧
    ¬(Reg.cmxRattr ≤ Reg.cmxPond + g.val ∧ Reg.cmxPond + g.val < Reg.cmxRattr + 16) := by decide

theorem cmxAccept_pond (g : Grv) : cmxAccept s q (Reg.cmxPond + g.val) v =
    if decide (q.master = 32) && grvIdle s g.val && !(grv s g.val).pondBusy && decide (fld v 1 0 ≠ 3) && decide (fld v 3 2 ≠ 3)
    then none else some (sb s Reg.cmxStat 3 true) := by
  obtain ⟨hcmd, hrattr⟩ := cmxPond_other g
  have hpond : Reg.cmxPond ≤ Reg.cmxPond + g.val ∧ Reg.cmxPond + g.val < Reg.cmxPond + 16 :=
    ⟨Nat.le_add_right _ _, Nat.add_lt_add_left g.isLt _⟩
  rw [cmxAccept, if_neg hcmd, if_neg hrattr, if_pos hpond, Nat.add_sub_cancel_left]

theorem wdiAccept_set : wdiAccept s q Reg.wdiSet v =
    if decide (q.master = 32) && rb s Reg.wdiStat 0 && decide (fld v 7 0 ≠ 0) then none
    else some (sb s Reg.wdiStat (if decide (q.master = 32) then 3 else 4) true) := by
  have hread : wdiAccept s q Reg.wdiSet v = if q.master ≠ 32 then some (sb s Reg.wdiStat 4 true)
      else if Reg.wdiSet = Reg.wdiSet ∧ (!rb s Reg.wdiStat 0 ∨ fld v 7 0 = 0) then some (sb s Reg.wdiStat 3 true) else none := rfl
  rw [hread]
  by_cases hm : q.master = 32
  · cases hen : rb s Reg.wdiStat 0 <;> by_cases hv : fld v 7 0 = 0 <;> simp [hm, hv]
  · simp [hm]

theorem pwrAccept_lossmk : pwrAccept s q Reg.pwrLossmk =
    if decide (q.master = 32) && rb s Reg.pwrVstat 4 then none else some s := by
  have hread : pwrAccept s q Reg.pwrLossmk =
      if Reg.pwrLossmk = Reg.pwrLossmk ∧ (q.master ≠ 32 ∨ !rb s Reg.pwrVstat 4) then some s else none := rfl
  rw [hread]
  by_cases hm : q.master = 32 <;> cases rb s Reg.pwrVstat 4 <;> simp [hm]

theorem schedAccept_ctl : schedAccept s q Reg.schedCtl v =
    if !(rb s Reg.schedCtl 0 && !bit v 0 &&
      !(decide (s.dev = .config) || decide (s.dev = .safeHold) || decide (s.dev = .maintenance))) then none
    else some (sb s Reg.schedStat 1 true) :=
  ite_eq_ite_of_eq_not (c := !_) (Bool.not_not _).symm

theorem schedAccept_edctl : schedAccept s q Reg.schedEdctl v =
    if decide (q.master = 32) && (if edHeld s then !bit v 5 || edSame s v else !bit v 5 || armOk s v) then none
    else some (if decide (q.master = 32) then sb s Reg.schedStat 1 true else s) := by
  have hread : schedAccept s q Reg.schedEdctl v = if q.master ≠ 32 then some s
      else if (if edHeld s then !bit v 5 || edSame s v else !bit v 5 || armOk s v) then none else some (sb s Reg.schedStat 1 true) := rfl
  rw [hread]
  by_cases hm : q.master = 32
  · simp only [hm, ne_eq, not_true_eq_false, if_false, decide_true, Bool.true_and, if_true]
  · simp only [hm, ne_eq, not_false_eq_true, if_true, decide_false, Bool.false_and, Bool.false_eq_true, if_false]

end

/-! ### The obligation -/

/-- Settles O38. Each command is a write of one register (`journaledWriteWhen`), and what its block checks and does is the stated
condition and effect. -/
theorem journaledCommandWrites : Obligations.JournaledCommandWrites := by
  intro m v
  obtain ⟨hsetl, hseth⟩ := jrnReg_tb
  obtain ⟨hrtbl, hseg⟩ := jrnReg_img
  obtain ⟨herdat, hfence, hunfence⟩ := jrnReg_grv
  obtain ⟨hctl, hedctl⟩ := jrnReg_sched
  refine ⟨?tbSetl, ?tbSeth, fun r n => ?segment, ?routes, ?items, ?erdat, ?fence, ?unfence, fun t => ?own, fun g c hc => ?pond,
    ?period, ?lossmk, fun c on hc => ?ctl, fun c hc => ?edctl⟩
  case tbSetl =>
    exact journaledWriteWhen hsetl (fun _ => rfl) (fun q s => (ioAccept_tb s q v hsetl).trans (tbAccept_set s v (.inl rfl)))
      fun q s => ioEffect_tb s q v hsetl
  case tbSeth =>
    exact journaledWriteWhen hseth (fun _ => rfl) (fun q s => (ioAccept_tb s q v hseth).trans (tbAccept_set s v (.inr rfl)))
      fun q s => ioEffect_tb s q v hseth
  case segment =>
    refine journaledWriteWhen (hseg r n) (fun _ => rfl)
      (fun q s => (ioAccept_img s q v (hseg r n)).trans (imgAccept_segReg s v r n)) fun q s => ?_
    rw [ioEffect_img s q v (hseg r n), imgEffect, if_neg (segReg_ne_imgRtbl r n), Option.getD_none]
  case routes =>
    exact journaledWriteWhen hrtbl (fun _ => rfl) (fun q s => ioAccept_img s q v hrtbl) fun q s => ioEffect_img s q v hrtbl
  case items =>
    exact journaledWriteWhen jrnReg_shrItcnt (fun _ => rfl) (fun q s => ioAccept_shr s q v jrnReg_shrItcnt)
      fun q s => ioEffect_shr s q v jrnReg_shrItcnt
  case erdat =>
    exact journaledWriteWhen herdat (fun _ => rfl) (fun q s => (ioAccept_grv s q v herdat).trans (grvAccept_erdat s q v))
      fun q s => ioEffect_grv s q v herdat
  case fence =>
    exact journaledWriteWhen hfence (fun _ => rfl) (fun q s => (ioAccept_grv s q v hfence).trans (grvAccept_fence s q v))
      fun q s => ioEffect_grv s q v hfence
  case unfence =>
    exact journaledWriteWhen hunfence (fun _ => rfl) (fun q s => (ioAccept_grv s q v hunfence).trans (grvAccept_unfence s q v))
      fun q s => ioEffect_grv s q v hunfence
  case own =>
    refine journaledWriteWhen (jrnReg_tarnOwn t) (fun _ => rfl)
      (fun q s => (ioAccept_tarn s q v (jrnReg_tarnOwn t)).trans (tarnAccept_own s q v t)) fun q s => ?_
    have hown : Reg.tarnOwn ≤ Reg.tarnOwn + t.val ∧ Reg.tarnOwn + t.val < Reg.tarnOwn + 64 :=
      ⟨Nat.le_add_right _ _, Nat.add_lt_add_left t.isLt _⟩
    rw [ioEffect_tarn s q v (jrnReg_tarnOwn t), tarnEffect, if_pos hown, Nat.add_sub_cancel_left]
    rfl
  case pond =>
    have hexec : ∀ s, exec c s = .next (regWriteIf true s m.val (Reg.cmxPond + g.val) v) := by
      obtain ⟨rfl, hzero⟩ | ⟨rfl, hzero⟩ := hc
      · exact fun s => (congrArg (fun b => Host.Outcome.next (regWriteIf (!b) s m.val (Reg.cmxPond + g.val) v)) hzero :)
      · exact fun s => (congrArg (fun b => Host.Outcome.next (regWriteIf b s m.val (Reg.cmxPond + g.val) v)) hzero :)
    refine journaledWriteWhen (jrnReg_cmxPond g) hexec
      (fun q s => (ioAccept_cmx s q v (jrnReg_cmxPond g)).trans (cmxAccept_pond s q v g)) fun q s => ?_
    obtain ⟨hcmd, -⟩ := cmxPond_other g
    have hpond : Reg.cmxPond ≤ Reg.cmxPond + g.val ∧ Reg.cmxPond + g.val < Reg.cmxPond + 16 :=
      ⟨Nat.le_add_right _ _, Nat.add_lt_add_left g.isLt _⟩
    rw [ioEffect_cmx s q v (jrnReg_cmxPond g), cmxEffect, if_neg hcmd, if_pos hpond, Nat.add_sub_cancel_left, Option.getD_some]
  case period =>
    exact journaledWriteWhen jrnReg_wdiSet (fun _ => rfl)
      (fun q s => (ioAccept_wdi s q v jrnReg_wdiSet).trans (wdiAccept_set s q v)) fun q s => ioEffect_wdi s q v jrnReg_wdiSet
  case lossmk =>
    exact journaledWriteWhen jrnReg_pwrLossmk (fun _ => rfl)
      (fun q s => (ioAccept_pwr s q v jrnReg_pwrLossmk).trans (pwrAccept_lossmk s q)) fun q s => ioEffect_pwr s q v jrnReg_pwrLossmk
  case ctl =>
    have hexec : ∀ s, exec c s = .next (regWriteIf (on s) s m.val Reg.schedCtl v) := by
      obtain ⟨rfl, rfl⟩ | ⟨rfl, rfl⟩ | ⟨rfl, rfl⟩ := hc <;> exact fun _ => rfl
    exact journaledWriteWhen hctl hexec (fun q s => (ioAccept_sched s q v hctl).trans (schedAccept_ctl s q v))
      fun q s => ioEffect_sched s q v hctl
  case edctl =>
    have hexec : ∀ s, exec c s = .next (regWriteIf true s m.val Reg.schedEdctl v) := by
      obtain ⟨rfl, harm⟩ | ⟨rfl, harm⟩ := hc
      · exact fun s => (congrArg (fun b => Host.Outcome.next (regWriteIf b s m.val Reg.schedEdctl v)) harm :)
      · exact fun s => (congrArg (fun b => Host.Outcome.next (regWriteIf (!b) s m.val Reg.schedEdctl v)) harm :)
    exact journaledWriteWhen hedctl hexec (fun q s => (ioAccept_sched s q v hedctl).trans (schedAccept_edctl s q v))
      fun q s => ioEffect_sched s q v hedctl

end Sys2Proof.Machine
end

section
/-! PROOFS. The overrun of a tripped Grove is not counted in every state (O42). The stop of a Grove abandons the software jobs that
its engines started on vital channels (R380), in the register of whatever channel the list names. -/

namespace Sys2Proof.Machine

/-- Grove 0 runs a Glade of Application 0 whose window has ended, and a software job of its engine 0 is listed on vital channel 51.
There are only 16 channels, and no command lists a job on another one; CVU_VSTAT of a channel 51 would be SCHED_OVRCNT0. -/
def strayJobS : State :=
  let s := putApp State.reset 0 { State.appReset with active := true }
  { putGrv s 0 { State.grvReset with
      glade := some { entry := 0, app := 0, stage := 0, winEnd := 0, cycBud := 100, beatBud := 10 }, counting := true,
      trip := some .window } with
    vjob := [(51, some (.soft 0))] }

/-- The stop of Grove 0 counts one overrun and then sets bit 4 and clears bit 0 of the counter: it reads 16 and not 1. -/
theorem overruns_strayJobS :
    rf strayJobS Reg.schedOvrcnt 15 0 = 0 ∧ rf (groveStop strayJobS 0) Reg.schedOvrcnt 15 0 = 16 := by decide +kernel

/-- Refutes O42: the statement ranges over every state, and in one whose list of software jobs names a vital channel that does not
exist the stop of a Grove changes SCHED_OVRCNT0 a second time. What is missing is the hypothesis that every listed channel is below 16. -/
theorem not_gladeRuns : ¬ Obligations.GladeRuns := by
  intro h
  obtain ⟨-, -, hstop, -⟩ := h strayJobS
  have hcounts : weirCyc strayJobS 0 ≤ 100 ∧ weirBeats strayJobS 0 ≤ 10 := by decide +kernel
  have hactive : (app strayJobS 0).active = true := by decide +kernel
  have hgrove : (grv strayJobS 0).glade = some { entry := 0, app := 0, stage := 0, winEnd := 0, cycBud := 100, beatBud := 10 } ∧
      (grv strayJobS 0).trip = some .window ∧ (grv strayJobS 0).halted = false := by decide +kernel
  obtain ⟨hglade, htrip, hhalted⟩ := hgrove
  obtain ⟨hcyc, hbeat⟩ := hcounts
  obtain ⟨t, ht, -, -, -, hover⟩ := hstop 0 _ _ hglade htrip hhalted (by decide) hcyc hbeat
  obtain ⟨-, -, -, hcnt, -, -⟩ := hover (by decide) hactive
  have hnext : exec (.groveStop 0) strayJobS = .next (groveStop strayJobS 0) := rfl
  have hmodel : rf t Reg.schedOvrcnt 15 0 = 16 := by
    rw [← Host.Outcome.next.inj (hnext.symm.trans ht)]; exact overruns_strayJobS.2
  have hclaim : rf t Reg.schedOvrcnt 15 0 = min 0xFFFF (rf strayJobS Reg.schedOvrcnt 15 0 + 1) := hcnt
  rw [hmodel, overruns_strayJobS.1] at hclaim
  exact absurd hclaim (by decide)

end Sys2Proof.Machine
end

section
/-! PROOFS. Words stored one after another in a tarn, and what a message buffer holds after a frame (R111, R112, R133). -/

namespace Sys2Proof.Machine

/-! ### Consecutive words of a tarn (R133) -/

/-- `u` holds the words `ws` from word `w` of tarn `t` on, and every other byte as `s` does. -/
def WordsStored (s u : State) (t w : Nat) (ws : List Word) : Prop :=
  (∀ k, k < ws.length → tarnRaw u t (w + k) = nth ws k) ∧
  ∀ b, b < tarnAddr t w ∨ tarnAddr t (w + ws.length) ≤ b → byteAt u b = byteAt s b

theorem wordAt_congr {s u : State} {a : Nat} (h : ∀ i, i < 4 → byteAt u (a + i) = byteAt s (a + i)) : wordAt u a = wordAt s a := by
  rw [wordAt, wordAt, h 1 (by decide), h 2 (by decide), h 3 (by decide), show byteAt u a = byteAt s a from h 0 (by decide)]

theorem wordsStored_nil (s : State) (t w : Nat) : WordsStored s s t w [] :=
  ⟨fun _ hk => absurd hk (Nat.not_lt_zero _), fun _ _ => rfl⟩

/-- Only memory matters. -/
theorem wordsStored_congr {s u x : State} {t w : Nat} {ws : List Word} (hm : x.mem = u.mem) (h : WordsStored s u t w ws) :
    WordsStored s x t w ws := by
  obtain ⟨hwords, hbytes⟩ := h
  exact ⟨fun k hk => (wordAt_congr fun i _ => byteAt_congr hm _).trans (hwords k hk), fun b hb => (byteAt_congr hm b).trans (hbytes b hb)⟩

/-- A word stored, and then the others above it. -/
theorem wordsStored_cons {s u x : State} {t w : Nat} {v : Word} {r : List Word} (hm : u.mem = (storeTarn s t w v).mem)
    (h : WordsStored u x t (w + 1) r) : WordsStored s x t w (v :: r) := by
  obtain ⟨hwords, hbytes⟩ := h
  obtain ⟨hv, -, hout⟩ := storedTarn (s := s) (t := t) (w := w) (v := v) rfl rfl
  have hu (b : Nat) : byteAt u b = byteAt (storeTarn s t w v) b := byteAt_congr hm b
  refine ⟨fun k hk => ?_, fun b hb => ?_⟩
  · cases k with
    | zero =>
      have hword : wordAt x (tarnAddr t w) = wordAt (storeTarn s t w v) (tarnAddr t w) :=
        wordAt_congr fun i hi => (hbytes _ (.inl (by unfold tarnAddr; omega))).trans (hu _)
      exact hword.trans hv
    | succ j =>
      have hj := hwords j (Nat.lt_of_succ_lt_succ hk)
      rwa [Nat.add_right_comm, Nat.add_assoc] at hj
  · rw [List.length_cons] at hb
    unfold tarnAddr at hb hbytes hout
    rw [hbytes b (by omega), hu, hout b (by omega)]

/-! ### What stores leave of the registers -/

theorem storeTarn_io (s : State) (t w : Nat) (v : Word) : (storeTarn s t w v).io = s.io := by
  obtain ⟨q, hq⟩ := storeTarn_eq s t w v
  rw [hq]

theorem bufIndex_congr {s u : State} (h : u.io = s.io) (t w : Nat) : bufIndex u t w = bufIndex s t w := by
  have hrd : rd u = rd s := funext (rd_congr h)
  unfold bufIndex rb
  rw [hrd]

/-- A whole word written outside the message buffers: memory and registers afterwards (R340). -/
theorem writeTarnW_plain {s : State} {t w : Nat} (h : bufIndex s t w = none) (m : Nat) (v : Word) :
    (writeTarnW s t w m v).mem = (storeTarn s t w v).mem ∧ (writeTarnW s t w m v).io = s.io := by
  rw [writeTarnW, writeTarn_word h]
  exact ⟨clearRsv_mem _ _ _, (clearRsv_keeps State.io (fun _ _ _ => rfl) _ _ _).trans (storeTarn_io s t w v)⟩

/-- A whole word written to word 0 of a message buffer (R113). -/
theorem writeTarnW_buffer {s : State} {t w : Nat} (h : bufIndex s t w = some 0) (m : Nat) (v : Word) :
    (writeTarnW s t w m v).mem = (storeTarn s t w (bufClear (tarnRaw s t w) v)).mem := by
  have hw : writeTarnW s t w m v = clearRsv (storeTarn s t w (bufClear (tarnRaw s t w) v)) m (tarnAddr t w) := by
    rw [writeTarnW, writeTarn, h]
    exact congrArg Prod.fst (if_pos rfl)
  rw [hw, clearRsv_mem]

/-- The fabric's words reach their place and no other, where no message buffer lies (R98). -/
theorem fabricWrite_stores (ws : List Word) : ∀ (s : State) (t w : Nat), (∀ k, k < ws.length → bufIndex s t (w + k) = none) →
    WordsStored s (fabricWrite s t w ws) t w ws := by
  induction ws with
  | nil => exact fun s t w _ => wordsStored_nil s t w
  | cons v r ih =>
    intro s t w h
    obtain ⟨hmem, hio⟩ := writeTarnW_plain (h 0 (Nat.succ_pos _)) 34 v
    refine wordsStored_cons hmem (ih _ t (w + 1) fun k hk => ?_)
    rw [bufIndex_congr hio, Nat.add_right_comm, Nat.add_assoc]
    exact h (k + 1) (Nat.succ_lt_succ hk)

/-! ### The header word of a message buffer (R111, R112) -/

/-- Word 0 of a buffer whose word 0 was `old`, after the frame `r` is stored: NEWD, OVW, SEQ and LEN. -/
def bufHeader (old : Word) (r : List Word) : Word :=
  BitVec.ofNat 32 (1 + 2 * b2n (bit old 0 || bit old 1) + (fld old 15 8 + 1) % 256 * 256 + recLen (nth r 0) (nth r 1) * 65536)

/-- The words of a message buffer after the frame `r` is stored over a buffer whose word 0 was `old`. -/
def bufWords (s : State) (old : Word) (r : List Word) : List Word := [bufHeader old r, nth r 0, nth r 1, lo32 s.tb.now] ++ r.drop 2

theorem lenOfDlc_le (fdf : Bool) (dlc : Nat) : lenOfDlc fdf dlc ≤ 64 := by
  have hlong (i : Nat) : [12, 16, 20, 24, 32, 48, 64].getD i 64 ≤ 64 := by
    by_cases hi : i < 7
    · exact (by decide : ∀ j, j < 7 → [12, 16, 20, 24, 32, 48, 64].getD j 64 ≤ 64) i hi
    · rw [List.getD_eq_getElem?_getD, List.getElem?_eq_none (Nat.le_of_not_lt hi)]
      exact Nat.le_refl 64
  unfold lenOfDlc
  split
  · omega
  · split
    · decide
    · exact hlong _

theorem recLen_le (w0 w1 : Word) : recLen w0 w1 ≤ 64 := by
  unfold recLen
  split
  · exact Nat.zero_le _
  · exact lenOfDlc_le _ _

theorem b2n_le (b : Bool) : b2n b ≤ 1 := by cases b <;> decide

theorem bufHeader_toNat (old : Word) (r : List Word) : (bufHeader old r).toNat =
    1 + 2 * b2n (bit old 0 || bit old 1) + (fld old 15 8 + 1) % 256 * 256 + recLen (nth r 0) (nth r 1) * 65536 := by
  have hlen := recLen_le (nth r 0) (nth r 1)
  have hovw := b2n_le (bit old 0 || bit old 1)
  rw [bufHeader, BitVec.toNat_ofNat]
  exact Nat.mod_eq_of_lt (by omega)

theorem bit_eq_decide (w : Word) (i : Nat) : bit w i = decide (w.toNat / 2 ^ i % 2 = 1) := Nat.testBit_eq_decide_div_mod_eq
theorem fld_eq_div (w : Word) (hi lo : Nat) : fld w hi lo = w.toNat / 2 ^ lo % 2 ^ (hi - lo + 1) := by
  rw [fld, Nat.shiftRight_eq_div_pow]

theorem bufHeader_newd (old : Word) (r : List Word) : bit (bufHeader old r) 0 = true := by
  rw [bit_eq_decide, bufHeader_toNat, decide_eq_true_eq]
  omega

theorem bufHeader_ovw (old : Word) (r : List Word) : bit (bufHeader old r) 1 = (bit old 0 || bit old 1) := by
  have hovw : (bufHeader old r).toNat / 2 ^ 1 % 2 = b2n (bit old 0 || bit old 1) := by
    have := b2n_le (bit old 0 || bit old 1)
    rw [bufHeader_toNat]
    omega
  rw [bit_eq_decide, hovw]
  cases bit old 0 || bit old 1 <;> rfl

theorem bufHeader_seq (old : Word) (r : List Word) : fld (bufHeader old r) 15 8 = (fld old 15 8 + 1) % 256 := by
  have hovw := b2n_le (bit old 0 || bit old 1)
  rw [fld_eq_div, bufHeader_toNat]
  omega

theorem bufHeader_len (old : Word) (r : List Word) : fld (bufHeader old r) 31 16 = recLen (nth r 0) (nth r 1) := by
  have hovw := b2n_le (bit old 0 || bit old 1)
  have hlen := recLen_le (nth r 0) (nth r 1)
  rw [fld_eq_div, bufHeader_toNat]
  omega

/-! ### A frame stored in a message buffer (R111, R112) -/

/-- One word stored by the attach engine for port `p`, with the reservations that its write clears (R138). -/
def attStore (p t w : Nat) (st : State) (x : Nat × Word) : State :=
  clearRsv (storeTarn st t (w + x.1) x.2) (48 + p) (tarnAddr t (w + x.1))

theorem attStore_stores (p t w : Nat) (ws : List Word) : ∀ (i : Nat) (s : State),
    WordsStored s ((indexed i ws).foldl (attStore p t w) s) t (w + i) ws := by
  induction ws with
  | nil => exact fun i s => wordsStored_nil s t (w + i)
  | cons v r ih => exact fun i s => wordsStored_cons (clearRsv_mem _ _ _) (ih (i + 1) _)

theorem sourceUpdated_mem (s : State) (f : Route → Bool) : (sourceUpdated s f).mem = s.mem := (rfl)

theorem bufStore_granted {s : State} {p b : Nat} (r : List Word)
    (h : checkMem s (reqOf s (48 + p)) (tarnAddr (bufTarn s p) (bufWord s p b)) needW spData = none) :
    bufStore s p b r = sourceUpdated
      ((indexed 0 (bufWords s (tarnRaw s (bufTarn s p) (bufWord s p b)) r)).foldl (attStore p (bufTarn s p) (bufWord s p b)) s)
      (fun x => decide (x.kind = 1 ∧ x.port = p ∧ x.buf = b)) := by
  rw [bufStore, h]
  rfl

theorem bufStore_stores {s : State} {p b : Nat} (r : List Word)
    (h : checkMem s (reqOf s (48 + p)) (tarnAddr (bufTarn s p) (bufWord s p b)) needW spData = none) :
    WordsStored s (bufStore s p b r) (bufTarn s p) (bufWord s p b)
      (bufWords s (tarnRaw s (bufTarn s p) (bufWord s p b)) r) := by
  rw [bufStore_granted r h]
  exact wordsStored_congr (sourceUpdated_mem _ _) (attStore_stores p (bufTarn s p) (bufWord s p b) _ 0 s)

theorem nth_drop (ws : List Word) (n k : Nat) : nth (ws.drop n) k = nth ws (n + k) := by
  rw [nth, nth, List.getD_eq_getElem?_getD, List.getD_eq_getElem?_getD, List.getElem?_drop]

theorem bufStore_frame {s : State} (p b : Nat) (r : List Word) (hr : r.length = 18)
    (h : checkMem s (reqOf s (48 + p)) (tarnAddr (bufTarn s p) (bufWord s p b)) needW spData = none) :
    let t := bufTarn s p
    let w := bufWord s p b
    let u := bufStore s p b r
    let old := tarnRaw s t w
    tarnRaw u t w = bufHeader old r ∧ tarnRaw u t (w + 1) = nth r 0 ∧ tarnRaw u t (w + 2) = nth r 1 ∧
    tarnRaw u t (w + 3) = lo32 s.tb.now ∧ (∀ k, k < 16 → tarnRaw u t (w + 4 + k) = nth r (2 + k)) ∧
    ∀ a, a < tarnAddr t w ∨ tarnAddr t (w + 20) ≤ a → byteAt u a = byteAt s a := by
  intro t w u old
  obtain ⟨hwords, hbytes⟩ := bufStore_stores r h
  have hlen : (bufWords s old r).length = 20 := by simp [bufWords, hr]
  rw [hlen] at hwords hbytes
  refine ⟨hwords 0 (by decide), hwords 1 (by decide), hwords 2 (by decide), hwords 3 (by decide), fun k hk => ?_, hbytes⟩
  have hpay : nth (bufWords s old r) (4 + k) = nth (r.drop 2) k := by
    rw [Nat.add_comm]
    rfl
  rw [← nth_drop, ← hpay, Nat.add_assoc]
  exact hwords (4 + k) (by omega)

end Sys2Proof.Machine
end

section
/-! PROOFS. Route tables, routes and the field-attach ports, settled (R94 to R116, R342, R518, R519). -/

namespace Sys2Proof.Machine

theorem exec_routeTableDecision (s : State) : exec .routeTableDecision s = .next (routeDecision s) := by rfl
theorem exec_inletRoute (i : Fin 1024) (s : State) : exec (.inletRoute i) s = .next (inletRoute s i.val) := by rfl
theorem exec_outletRoute (i : Fin 1024) (s : State) : exec (.outletRoute i) s = .next (outletRoute s i.val) := by rfl
theorem exec_attachDeposit (p : Grv) (off : Nat) (ws : List Word) (s : State) :
    exec (.attachDeposit p off ws) s = .next (deposit s p.val off ws) := by rfl
theorem exec_attachRecord (p : Grv) (s : State) : exec (.attachRecord p) s = .next (attachRecord s p.val) := by rfl
theorem exec_transmitRecordRead (p : Grv) (beats : Nat) (s : State) :
    exec (.transmitRecordRead p beats) s = .next (txRead s p.val beats) := by rfl

/-! ### The decision on a route table (R96, R97) -/

section
variable {s : State} {w : Word} (hval : s.valRoutes = some w)
include hval

theorem routeDecision_tooLong (h : fld w 25 15 > 1024 ∨ fld w 14 0 + 4 * fld w 25 15 > 0x8000) :
    routeDecision s = wf (sb { s with valRoutes := none } Reg.imgStat 1 true) Reg.imgStat 7 4 8 := by
  rw [routeDecision, routeDecide, hval]
  dsimp only
  rw [if_pos h]

/-- The table that is read is checked; it waits if it passes and is refused if not. -/
theorem routeDecision_read {t : State} {ws : List Word} (hc : fld w 25 15 ≤ 1024) (ho : fld w 14 0 + 4 * fld w 25 15 ≤ 0x8000)
    (hr : readWords { s with valRoutes := none } 61 (fld w 14 0) 34 (4 * fld w 25 15) = (t, some ws)) :
    (routesError t (toRoutes ws) = none →
      routeDecision s = { wr t Reg.imgRtbl w with waitRoutes := some (w, toRoutes ws) }) ∧
    (∀ c, routesError t (toRoutes ws) = some c → routeDecision s = rtRefuse t (some c)) := by
  rw [routeDecision, routeDecide, hval]
  dsimp only
  rw [if_neg (by omega), hr]
  dsimp only
  exact ⟨fun h => by rw [h], fun c h => by rw [h]⟩

end

/-! ### Routes (R98, R101) -/

theorem inletRoute_sweep {s : State} {i : Nat} {r : Route} (hr : s.routes[i]? = some r) (hin : r.out = false)
    (hrun : blocksRun s = true) (hup : inletAsleep s r = none) (hfill : (app s r.app).filling = true)
    (hnext : (app s r.app).unswept.head? = some i) :
    inletRoute s i = inletMove { putApp s r.app { app s r.app with unswept := (app s r.app).unswept.drop 1 } with
      inQ := s.inQ.filter (· ≠ i) } r := by
  rw [inletRoute, routeAt, hr]
  dsimp only
  rw [if_neg (by simp [hin, hfill, hnext, hrun]), hup]
  simp only [hnext, decide_true, if_true]
  rfl

theorem inletMove_granted {s u : State} {r : Route} {t w : Nat} {ws : List Word} (hsrc : inletSource s r = some (t, w))
    (hread : routeCheck s t w needR = none) (hwrite : routeCheck s (inletDest s r).1 (inletDest s r).2 needW = none)
    (hws : readWords s t w 34 (r.len / 4) = (u, some ws)) :
    inletMove s r = fabricWrite u (inletDest s r).1 (inletDest s r).2 ws := by
  rw [inletMove, hsrc]
  dsimp only
  rw [hread, hwrite, hws]

/-- The first route of the queue is the first of its Application. -/
theorem outletRoute_head {s : State} {i : Nat} {r : Route} {safe : Bool} {t : State} {ws : List Word}
    (hq : s.outQ.head? = some (i, r, safe)) (hrun : blocksRun s = true) (hup : tarnUp s (outletSource s r safe).1 = true)
    (hread : routeCheck { s with outQ := s.outQ.filter fun p => decide (p.1 ≠ i ∨ p.2.1.app ≠ r.app) }
      (outletSource s r safe).1 (outletSource s r safe).2 needR = none)
    (hws : readWords { s with outQ := s.outQ.filter fun p => decide (p.1 ≠ i ∨ p.2.1.app ≠ r.app) }
      (outletSource s r safe).1 (outletSource s r safe).2 34 (r.len / 4) = (t, some ws)) :
    outletRoute s i = outletSend t r ws := by
  obtain ⟨rest, hcons⟩ := List.head?_eq_some_iff.mp hq
  have hfind : s.outQ.find? (fun p => decide (p.1 = i ∧
      (s.outQ.find? fun q => decide (q.2.1.app = p.2.1.app)).map (·.1) = some i)) = some (i, r, safe) := by
    rw [hcons]
    simp
  rw [outletRoute]
  dsimp only
  rw [hfind]
  dsimp only
  rw [if_neg (by simp [hrun]), if_neg (by simp [hup]), hread, hws]

theorem outletSend_attach {s : State} {r : Route} (ws : List Word) (hk : r.kind = 1) (hl : attListen s r.port = false)
    (hq : (attp s r.port).tx.length < 16) : outletSend s r ws = putAttp s r.port
      { attp s r.port with tx := (attp s r.port).tx ++ [putNth ws 1 (putBit (nth ws 1) 31 true)] } := by
  rw [outletSend, if_pos hk, attPost, if_neg (by simp [hl]), if_neg (Nat.not_le.mpr hq)]

/-! ### Deposits (R102, R105) -/

theorem deposit_checked {s : State} {p off : Nat} {ws : List Word} (ho : s.dev ≠ .off) (hr : s.dev ≠ .reset) (hb : s.dev ≠ .boot)
    (hh : s.dev ≠ .halted) (hal : off % 16 = 0) (hin : off + 16 * beatsOf ws ≤ 0x1000) :
    (depositFails s p off ws = none → deposit s p off ws =
      answerOk (putAttp s p { attp s p with fifo := (attp s p).fifo ++ [depositRecord ws] }) []) ∧
    (depositFails s p off ws = some none → deposit s p off ws = answerErr (attDropped s p) 0) ∧
    (∀ k, depositFails s p off ws = some (some k) → deposit s p off ws = answerErr (attFlag (attDropped s p) p k) 0) := by
  rw [deposit, if_neg (by simp [ho, hr]), if_neg (by omega), if_neg (by simp [hb, hh])]
  exact ⟨fun h => by rw [h], fun h => by rw [h], fun k h => by rw [h]⟩

/-- A well-formed record to an enabled port fails only for want of room. -/
theorem depositFails_wellFormed {s : State} {p : Nat} {ws : List Word} (hen : rb s (Reg.attPcfg + p) 0 = true) (h5 : beatsOf ws ≤ 5)
    (hbeats : beatsOf ws = (8 + recLen (nth ws 0) (nth ws 1) + 15) / 16)
    (hid : bit (nth ws 0) 29 = false → fld (nth ws 0) 28 11 = 0) (hrtr : bit (nth ws 0) 30 = true → bit (nth ws 1) 5 = false) :
    depositFails s p 0 ws = if (attp s p).fifo.length ≥ 8 then some (some 0) else none := by
  have hform : ¬ ((0 : Nat) ≠ 0 ∨ beatsOf ws ≠ (8 + recLen (nth ws 0) (nth ws 1) + 15) / 16 ∨
      (!recIde (nth ws 0) ∧ fld (nth ws 0) 28 11 ≠ 0) ∨ (bit (nth ws 0) 30 ∧ bit (nth ws 1) 5)) := by
    rintro (h | h | ⟨hide, h⟩ | ⟨hfdf, h⟩)
    · exact h rfl
    · exact h hbeats
    · exact h (hid (by simpa [recIde] using hide))
    · simp [hrtr hfdf] at h
  rw [depositFails, if_neg (by simp [attEn, hen]), if_neg (Nat.not_lt.mpr h5), if_neg hform]

/-! ### The attach engine (R106, R108, R113) -/

/-- What the attach engine does with the record `r` of port `p` once the filter list has decided. -/
def afterFilter (u : State) (p : Nat) (r : List Word) : Filtered → State
  | .noMatch => attFlag u p 3
  | .reject => u
  | .accept b => if b > rf u (Reg.attBuf + p) 26 21 then attFlag u p 4 else bufStore u p b r

theorem attachRecord_filtered {s u : State} {p : Nat} {r : List Word} {rest : List (List Word)} {f : Filtered}
    (hnext : attNext s = some p) (hrun : blocksRun s = true) (hfifo : (attp s p).fifo = r :: rest)
    (hflt : tarnUp s (rf s (Reg.attFlt + p) 5 0) = true) (hbuf : tarnUp s (bufTarn s p) = true)
    (hwalk : filterWalk { putAttp s p { attp s p with fifo := rest } with attLast := p } p (rf s (Reg.attFlt + p) 5 0)
      (rf s (Reg.attFlt + p) 20 6) (nth r 0) (rf s (Reg.attFlt + p) 30 21) = (u, f)) :
    attachRecord s p = afterFilter u p r f := by
  have hact : ¬ (attNext s ≠ some p ∨ (!blocksRun s) = true) := by simp [hnext, hrun]
  have hregs (a hi lo : Nat) : rf { putAttp s p { attp s p with fifo := rest } with attLast := p } a hi lo = rf s a hi lo := rfl
  rw [attachRecord, if_neg hact, hfifo]
  dsimp only
  rw [if_neg (by simp [hflt]), if_neg (by simp [hbuf])]
  rw [hregs, hregs, hwalk]
  cases f <;> rfl

theorem exec_bufferClear_granted {s : State} {m : Mst} {p : Grv} {b : Fin 64} {v : Word} (ho : s.dev ≠ .off) (hr : s.dev ≠ .reset)
    (hen : rb s (Reg.attPcfg + p.val) 0 = true) (hb : b.val ≤ rf s (Reg.attBuf + p.val) 26 21)
    (hc : checkMem s (reqOf s m.val) (tarnAddr (bufTarn s p.val) (bufWord s p.val b.val)) needW spData = none)
    (hup : tarnUp s (bufTarn s p.val) = true) :
    exec (.bufferClear m p b v) s = .next (writeTarnW s (bufTarn s p.val) (bufWord s p.val b.val) m.val v) := by
  show execBufferClear m p b v s = _
  rw [execBufferClear, if_neg (by simp [attEn, hen, ho, hr, Nat.not_lt.mpr hb]), hc]
  dsimp only
  rw [if_pos hup]

theorem bufferClear_word {s : State} (m : Mst) (p : Grv) (b : Fin 64) (v : Word) (ho : s.dev ≠ .off) (hr : s.dev ≠ .reset)
    (hen : rb s (Reg.attPcfg + p.val) 0 = true) (hb : b.val ≤ rf s (Reg.attBuf + p.val) 26 21) :
    let t := bufTarn s p.val
    let w := bufWord s p.val b.val
    bufIndex s t w = some 0 → checkMem s (reqOf s m.val) (tarnAddr t w) needW spData = none → tarnUp s t = true →
    ∃ u, exec (.bufferClear m p b v) s = .next u ∧ tarnRaw u t w = bufClear (tarnRaw s t w) v ∧
      ∀ a, a < tarnAddr t w ∨ tarnAddr t w + 4 ≤ a → byteAt u a = byteAt s a := by
  intro t w hi hc hup
  obtain ⟨hword, hbytes⟩ := wordsStored_cons (writeTarnW_buffer hi m.val v) (wordsStored_nil _ _ _)
  exact ⟨_, exec_bufferClear_granted ho hr hen hb hc hup, hword 0 Nat.one_pos, hbytes⟩

/-! ### Transmit records read (R115) -/

/-- The `n` words of a read burst that takes the record `r`. -/
def txBurst (r : List Word) (n : Nat) : List Word :=
  ((r ++ List.replicate n 0#32).take 20 ++ List.replicate n 0#32).take n

theorem txRead_empty {s : State} {p : Nat} (beats : Nat) (ho : s.dev ≠ .off) (hr : s.dev ≠ .reset) (h : (attp s p).tx = []) :
    txRead s p beats = answerOk s (List.replicate (4 * beats) 0#32) := by
  rw [txRead, if_neg (by simp [ho, hr]), h]

theorem txRead_record {s : State} {p : Nat} {r : List Word} {rest : List (List Word)} (beats : Nat) (ho : s.dev ≠ .off)
    (hr : s.dev ≠ .reset) (h : (attp s p).tx = r :: rest) :
    txRead s p beats = answerOk (putAttp s p { attp s p with tx := rest }) (txBurst r (4 * beats)) := by
  rw [txRead, if_neg (by simp [ho, hr]), h]
  rfl

theorem txBurst_length (r : List Word) (n : Nat) : (txBurst r n).length = n := by
  simp [txBurst]

theorem nth_append_zeros (ws : List Word) (n k : Nat) : nth (ws ++ List.replicate n 0#32) k = nth ws k := by
  simp only [nth, List.getD_eq_getElem?_getD, List.getElem?_append, List.getElem?_replicate]
  split
  · rfl
  · next h =>
    rw [List.getElem?_eq_none (Nat.le_of_not_lt h)]
    split <;> rfl

theorem nth_take (ws : List Word) (n k : Nat) : nth (ws.take n) k = if k < n then nth ws k else 0 := by
  simp only [nth, List.getD_eq_getElem?_getD, List.getElem?_take]
  split <;> rfl

theorem nth_txBurst (r : List Word) {n k : Nat} (h : k < n) : nth (txBurst r n) k = if k < 20 then nth r k else 0 := by
  rw [txBurst, nth_take, if_pos h, nth_append_zeros, nth_take, nth_append_zeros]

/-! ### The obligation -/

/-- Settles O45: each row of the obligation from the lemma on its own operation. -/
theorem routesAndPorts : Obligations.RoutesAndPorts := by
  unfold Obligations.RoutesAndPorts
  intro s
  refine ⟨fun w hval => ⟨fun h => (exec_routeTableDecision s).trans (congrArg _ (routeDecision_tooLong hval h)),
      fun t ws hc ho hread => ?read⟩,
    fun i r hr hin hrun hup hfill hnext => (exec_inletRoute i s).trans (congrArg _ (inletRoute_sweep hr hin hrun hup hfill hnext)),
    fun r t w u ws hsrc hread hwrite hws => inletMove_granted hsrc hread hwrite hws,
    fun t w ws h => fabricWrite_stores ws s t w h,
    fun i r safe t ws hq hrun hup hread hws => (exec_outletRoute i s).trans (congrArg _ (outletRoute_head hq hrun hup hread hws)),
    fun r ws hk hl hq => outletSend_attach ws hk hl hq,
    fun p off ws ho hr hb hh hal hin => ?deposit,
    fun p r rest hnext hrun hfifo hflt hbuf u f hwalk => ?record,
    fun p b r hlen hc => ?store,
    fun m p b v ho hr hen hb hi hc hup => ?clear,
    fun p beats ho hr => ?transmit⟩
  case read =>
    obtain ⟨hpass, hrefuse⟩ := routeDecision_read hval hc ho hread
    rw [exec_routeTableDecision]
    exact ⟨fun h => congrArg _ (hpass h), fun c i h => congrArg _ (hrefuse (c, i) h)⟩
  case deposit =>
    obtain ⟨htaken, hdropped, hflagged⟩ := deposit_checked (p := p.val) (ws := ws) ho hr hb hh hal hin
    rw [exec_attachDeposit]
    exact ⟨fun h => congrArg _ (htaken h), fun h => congrArg _ (hdropped h), fun k h => congrArg _ (hflagged k h),
      fun hen h5 h0 => h0 ▸ depositFails_wellFormed hen h5⟩
  case record =>
    rw [exec_attachRecord, attachRecord_filtered hnext hrun hfifo hflt hbuf hwalk]
    refine ⟨fun h => by rw [h]; rfl, fun h => by rw [h]; rfl, fun b h hb => ?_, fun b h hb => ?_⟩
    · rw [h]
      exact congrArg _ (if_pos hb)
    · rw [h]
      exact congrArg _ (if_neg (Nat.not_lt.mpr hb))
  case store =>
    obtain ⟨h0, h1, h2, h3, hpay, hbytes⟩ := bufStore_frame p b r hlen hc
    dsimp only
    rw [h0]
    exact ⟨bufHeader_newd _ r, bufHeader_ovw _ r, bufHeader_seq _ r, bufHeader_len _ r, h1, h2, h3, hpay, hbytes⟩
  case clear =>
    obtain ⟨u, hexec, hword, hbytes⟩ := bufferClear_word m p b v ho hr hen hb hi hc hup
    exact ⟨u, hexec, fun h => hword.trans (if_neg h), fun h => hword.trans (if_pos h), hbytes⟩
  case transmit =>
    rw [exec_transmitRecordRead]
    refine ⟨fun h => congrArg _ (txRead_empty beats ho hr h), fun r rest h => ⟨txBurst r (4 * beats), ?_, ?_, ?_⟩⟩
    · exact congrArg _ (txRead_record beats ho hr h)
    · exact txBurst_length r _
    · exact fun k hk => nth_txBurst r hk

end Sys2Proof.Machine
end

section
/-! PROOFS. How an engine's work ends and what that makes of the instruction; operands taken; room on the logic stack. -/

namespace Sys2Proof.Machine

/-! ### Parts of an engine's work -/

/-- Work in two parts that succeeds as a whole, then the rest. -/
theorem run_bind_assoc_of {α β γ : Type} {m : EM α} {f : α → EM β} {g : β → EM γ} {s t : State} {b : β} {r : Except Stop (γ × State)}
    (h : (m >>= f).run s = .ok (b, t)) (h2 : (g b).run t = r) : (m >>= fun a => f a >>= g).run s = r := by
  rw [← bind_assoc]
  exact run_bind_of h h2

/-- Work that succeeded, taken apart. -/
theorem run_bind_inv {α β : Type} {m : EM α} {f : α → EM β} {s t : State} {b : β} (h : (m >>= f).run s = .ok (b, t)) :
    ∃ a u, m.run s = .ok (a, u) ∧ (f a).run u = .ok (b, t) := by
  cases hm : m.run s with
  | error x =>
    rw [run_bind_error hm] at h
    cases h
  | ok p => exact ⟨p.1, p.2, rfl, (run_bind_ok m f s p.2 p.1 hm).symm.trans h⟩

/-! ### From work to the instruction -/

section
variable {e : Nat} {c : Instr} {i : Insn} {body : EM Unit} {s t u : State}

/-- An instruction that has started and whose work ends retires. -/
theorem exec_retires (hc : exec c s = .next (runInsn e i body s)) (h : Started e i s t) (hb : Runs body t () u)
    (hk : i.keepRpa = false) : exec c s = .next (retire u e) :=
  hc.trans (congrArg _ (runInsn_retires h hb hk))

/-- An instruction that has started and whose work faults takes the fault. -/
theorem exec_faults {v : Nat} {d : Option Denial} {g : Sparse Word} (hc : exec c s = .next (runInsn e i body s))
    (h : Started e i s t) (hb : body.run t = .error (.fault v d g)) : exec c s = .next (takeFault s e v d g) :=
  hc.trans (congrArg _ (runInsn_faults h hb))

end

/-- The end of an instruction writes the engine's registers, so a change that changes nothing is none. -/
theorem retire_onEng_id (w : State) (e : Nat) : retire (onEng w e fun y => y) e = retire w e := by
  unfold retire
  rw [onEng_onEng]
  rfl

/-! ### Operands (R126) -/

theorem run_pop1 {e p : Nat} {t u : State} {a : Word} (h : Takes e 1 p t [a] u) : (pop1 e p).run t = .ok (a, u) :=
  run_bind_of h rfl
theorem run_pop2 {e p : Nat} {t u : State} {a b : Word} (h : Takes e 2 p t [b, a] u) : (pop2 e p).run t = .ok ((a, b), u) :=
  run_bind_of h rfl

/-! ### Room and entries on the logic stack (R136) -/

section
variable {e n p : Nat} {s : State}

theorem run_lskNeed (hn : n ≤ (eng s e).lskd.toNat) (hp : (eng s e).lskd.toNat - n + p ≤ 32) :
    (lskNeed e n p).run s = .ok ((), s) := by
  refine run_bind_of (run_getE e s) ?_
  rw [if_neg (Nat.not_lt.mpr hn), if_neg (Nat.not_lt.mpr hp)]
  rfl

theorem run_lskNeed_empty (hn : (eng s e).lskd.toNat < n) : (lskNeed e n p).run s = .error (.fault vStack none s.dbg) := by
  refine run_bind_of (run_getE e s) ?_
  rw [if_pos hn]
  exact run_bind_error (run_raise _ _ _)

theorem run_lskNeed_full (hn : n ≤ (eng s e).lskd.toNat) (hp : 32 < (eng s e).lskd.toNat - n + p) :
    (lskNeed e n p).run s = .error (.fault vStack none s.dbg) := by
  refine run_bind_of (run_getE e s) ?_
  rw [if_neg (Nat.not_lt.mpr hn), if_pos hp]
  rfl

end

end Sys2Proof.Machine
end

section
/-! PROOFS. Bit instructions on B-space and the logic stack (R136, R170, R174). -/

namespace Sys2Proof.Machine

/-! ### The work of each family (R174) -/

section
variable {e : Nat} {a : Word} {t w : State} {b : Bool}

theorem runs_bitLoad (n : Bool) (hp : (eng t e).lskd.toNat - 0 + 1 ≤ 32) (h : Runs (bRead e a) t b w) :
    Runs (bitLoad e a n) t () (onEng w e (lskPush (b ^^ n))) :=
  run_bind_of (run_lskNeed (Nat.zero_le _) hp) (run_bind_of h rfl)

theorem runs_bitOp (f : Bool → Bool → Bool) (hn : 1 ≤ (eng t e).lskd.toNat) (hp : (eng t e).lskd.toNat - 1 + 1 ≤ 32)
    (h : Runs (bRead e a) t b w) : Runs (bitOp e a f) t () (onEng w e fun y => lskTop (f (lskBit y 0) b) y) :=
  run_bind_of (run_lskNeed hn hp) (run_bind_of h rfl)

theorem runs_bitStore (n : Bool) (hn : 1 ≤ (eng t e).lskd.toNat) (hp : (eng t e).lskd.toNat - 1 + 1 ≤ 32)
    (h : Runs (bWrite e a (lskBit (eng t e) 0 ^^ n)) t () w) : Runs (bitStore e a n) t () w :=
  run_bind_of (run_lskNeed hn hp) (run_bind_of (run_getE e t) h)

/-- BSET and BRST check the address of the bit whatever x is. -/
theorem runs_bitIf (v : Bool) (hn : 1 ≤ (eng t e).lskd.toNat) (hp : (eng t e).lskd.toNat - 1 + 1 ≤ 32)
    (h : Runs (if lskBit (eng t e) 0 then bWrite e a v else (do let _ ← bitNeed e (bitAddr a) needB)) t () w) :
    Runs (bitIf e a v) t () w := by
  refine run_bind_of (run_lskNeed hn hp) (run_bind_of (run_getE e t) ?_)
  split at h
  · next hx =>
    simp only [hx, reduceIte]
    exact h
  · next hx =>
    simp only [hx]
    exact h

end

/-! ### From the work to the shape of an instruction -/

/-- An instruction on the logic stack, from its work. -/
theorem bits0_of_runs {β : Type} {e : Eng} {i : Insn} {n p : Nat} {c : Instr} {m : Engine → EM β} {f : Engine → β → Engine → Engine}
    {body : EM Unit} (hc : ∀ s, exec c s = .next (runInsn e i body s)) (hk : i.keepRpa = false)
    (hb : ∀ t w v, n ≤ (eng t e).lskd.toNat → (eng t e).lskd.toNat - n + p ≤ 32 → Runs (m (eng t e)) t v w →
      Runs body t () (onEng w e (f (eng t e) v))) : Bits0 e i n p c m f :=
  fun s _ _ _ hs hn hp hm => exec_retires (hc s) hs (hb _ _ _ hn hp hm) hk

/-- As `bits0_of_runs`, where the logic stack keeps its entries. -/
theorem bits0_of_runs_kept {β : Type} {e : Eng} {i : Insn} {n p : Nat} {c : Instr} {m : Engine → EM β}
    {body : EM Unit} (hc : ∀ s, exec c s = .next (runInsn e i body s)) (hk : i.keepRpa = false)
    (hb : ∀ t w v, n ≤ (eng t e).lskd.toNat → (eng t e).lskd.toNat - n + p ≤ 32 → Runs (m (eng t e)) t v w → Runs body t () w) :
    Bits0 e i n p c m fun _ _ y => y :=
  fun s _ w _ hs hn hp hm => (exec_retires (hc s) hs (hb _ _ _ hn hp hm) hk).trans (by rw [retire_onEng_id])

/-- As `bits0_of_runs`, at a popped address. -/
theorem bits1_of_runs {β : Type} {e : Eng} {i : Insn} {n p : Nat} {c : Instr} {m : Word → Engine → EM β}
    {f : Engine → β → Engine → Engine} {body : Word → EM Unit}
    (hc : ∀ s, exec c s = .next (runInsn e i (pop1 e 0 >>= body) s)) (hk : i.keepRpa = false)
    (hb : ∀ a t w v, n ≤ (eng t e).lskd.toNat → (eng t e).lskd.toNat - n + p ≤ 32 → Runs (m a (eng t e)) t v w →
      Runs (body a) t () (onEng w e (f (eng t e) v))) : Bits1 e i n p c m f :=
  fun s _ _ _ _ _ hs ht hn hp hm => exec_retires (hc s) hs (run_bind_of (run_pop1 ht) (hb _ _ _ _ hn hp hm)) hk

/-- As `bits1_of_runs`, where the logic stack keeps its entries. -/
theorem bits1_of_runs_kept {β : Type} {e : Eng} {i : Insn} {n p : Nat} {c : Instr} {m : Word → Engine → EM β} {body : Word → EM Unit}
    (hc : ∀ s, exec c s = .next (runInsn e i (pop1 e 0 >>= body) s)) (hk : i.keepRpa = false)
    (hb : ∀ a t w v, n ≤ (eng t e).lskd.toNat → (eng t e).lskd.toNat - n + p ≤ 32 → Runs (m a (eng t e)) t v w →
      Runs (body a) t () w) : Bits1 e i n p c m fun _ _ y => y :=
  fun s _ _ w _ _ hs ht hn hp hm =>
    (exec_retires (hc s) hs (run_bind_of (run_pop1 ht) (hb _ _ _ _ hn hp hm)) hk).trans (by rw [retire_onEng_id])

/-- An instruction on one operand, from its work. -/
theorem work1_of_runs {β : Type} {e : Eng} {i : Insn} {p : Nat} {c : Instr} {m : Word → EM β} {f : β → State → State}
    {body : Word → EM Unit} (hc : ∀ s, exec c s = .next (runInsn e i (pop1 e p >>= body) s)) (hk : i.keepRpa = false)
    (hb : ∀ a u w v, Runs (m a) u v w → Runs (body a) u () (f v w)) : Work1 e i p c (fun a _ => m a) f :=
  fun s _ _ _ _ _ hs ht hm => exec_retires (hc s) hs (run_bind_of (run_pop1 ht) (hb _ _ _ _ hm)) hk

/-- An instruction on two operands, from its work. -/
theorem work2_of_runs {β : Type} {e : Eng} {i : Insn} {p : Nat} {c : Instr} {m : Word → Word → EM β} {f : β → State → State}
    {body : Word × Word → EM Unit} (hc : ∀ s, exec c s = .next (runInsn e i (pop2 e p >>= body) s)) (hk : i.keepRpa = false)
    (hb : ∀ a b u w v, Runs (m a b) u v w → Runs (body (a, b)) u () (f v w)) : Work2 e i p c m f :=
  fun s _ _ _ _ _ _ hs ht hm => exec_retires (hc s) hs (run_bind_of (run_pop2 ht) (hb _ _ _ _ _ hm)) hk

/-! ### The obligation -/

theorem bodyBxorn_eq (e : Nat) (i : Word) : bodyBxorn e i = bitOp e i fun x b => x == b :=
  congrArg (bitOp e i) (funext fun x => funext fun b => by cases x <;> cases b <;> rfl)

/-- Settles O16: each instruction from the work that its family shares. -/
theorem bitInstructions : Obligations.BitInstructions := by
  unfold Obligations.BitInstructions
  intro e
  refine ⟨fun i => ⟨?bld, ?bldn, ?band, ?bandn, ?bor, ?born, ?bxor, ?bxorn, ?bst, ?bstn, ?bset, ?brst, ?tasb, ?direct⟩,
    ?blds, ?bsts, ?bands, ?bors, ?brdc, ?bwrc, ?brdw, ?bwrw⟩
  case bld =>
    refine bits0_of_runs (body := bodyBld e i) (fun _ => rfl) rfl fun t w b _ hp h => ?_
    rw [← Bool.xor_false b]
    exact runs_bitLoad false hp h
  case bldn =>
    refine bits0_of_runs (body := bodyBldn e i) (fun _ => rfl) rfl fun t w b _ hp h => ?_
    rw [← Bool.xor_true b]
    exact runs_bitLoad true hp h
  case band => exact bits0_of_runs (body := bodyBand e i) (fun _ => rfl) rfl fun _ _ _ hn hp h => runs_bitOp _ hn hp h
  case bandn => exact bits0_of_runs (body := bodyBandn e i) (fun _ => rfl) rfl fun _ _ _ hn hp h => runs_bitOp _ hn hp h
  case bor => exact bits0_of_runs (body := bodyBor e i) (fun _ => rfl) rfl fun _ _ _ hn hp h => runs_bitOp _ hn hp h
  case born => exact bits0_of_runs (body := bodyBorn e i) (fun _ => rfl) rfl fun _ _ _ hn hp h => runs_bitOp _ hn hp h
  case bxor => exact bits0_of_runs (body := bodyBxor e i) (fun _ => rfl) rfl fun _ _ _ hn hp h => runs_bitOp _ hn hp h
  case bxorn =>
    refine bits0_of_runs (body := bodyBxorn e i) (fun _ => rfl) rfl fun _ _ _ hn hp h => ?_
    rw [bodyBxorn_eq]
    exact runs_bitOp _ hn hp h
  case bst =>
    refine bits0_of_runs_kept (body := bodyBst e i) (fun _ => rfl) rfl fun _ _ _ hn hp h => runs_bitStore false hn hp ?_
    rwa [Bool.xor_false]
  case bstn =>
    refine bits0_of_runs_kept (body := bodyBstn e i) (fun _ => rfl) rfl fun _ _ _ hn hp h => runs_bitStore true hn hp ?_
    rwa [Bool.xor_true]
  case bset => exact bits0_of_runs_kept (body := bodyBset e i) (fun _ => rfl) rfl fun _ _ _ hn hp h => runs_bitIf true hn hp h
  case brst => exact bits0_of_runs_kept (body := bodyBrst e i) (fun _ => rfl) rfl fun _ _ _ hn hp h => runs_bitIf false hn hp h
  case tasb =>
    exact bits0_of_runs (body := bodyTasb e i) (fun _ => rfl) rfl fun _ _ _ hn hp h =>
      run_bind_of (run_lskNeed hn hp) (run_bind_of h rfl)
  case direct =>
    exact fun s t w hs => ⟨fun h => exec_retires (body := bodySetb e i) rfl hs h rfl,
      fun h => exec_retires (body := bodyClrb e i) rfl hs h rfl,
      fun b h => exec_retires (body := bodyInvb e i) rfl hs (run_bind_of h rfl) rfl⟩
  case blds =>
    refine bits1_of_runs (body := fun a => bitLoad e a false) (fun _ => rfl) rfl fun a t w b _ hp h => ?_
    simpa using runs_bitLoad false hp h
  case bsts =>
    refine bits1_of_runs_kept (body := fun a => bitStore e a false) (fun _ => rfl) rfl fun _ _ _ _ hn hp h =>
      runs_bitStore false hn hp ?_
    rwa [Bool.xor_false]
  case bands =>
    exact bits1_of_runs (body := fun a => bitOp e a fun x b => x && b) (fun _ => rfl) rfl fun _ _ _ _ hn hp h => runs_bitOp _ hn hp h
  case bors =>
    exact bits1_of_runs (body := fun a => bitOp e a fun x b => x || b) (fun _ => rfl) rfl fun _ _ _ _ hn hp h => runs_bitOp _ hn hp h
  case brdc => exact work1_of_runs (m := bRead e) (fun _ => rfl) rfl fun _ _ _ _ h => run_bind_of h rfl
  case bwrc => exact work2_of_runs (fun _ => rfl) rfl fun _ _ _ _ _ h => h
  case brdw =>
    exact work1_of_runs (m := fun a => bitSpan e a needR >>= bitSpanRead e) (fun _ => rfl) rfl fun _ _ _ _ h => run_bind_assoc_of h rfl
  case bwrw => exact work2_of_runs (fun _ => rfl) rfl fun _ _ _ _ _ h => h

end Sys2Proof.Machine
end

section
/-! PROOFS. The logic stack as a list of bits (R136, R174). -/

namespace Sys2Proof.Machine

/-! ### Entries of the logic stack (R136) -/

/-- An entry is a bit of LSK below LSKD. -/
theorem lskBit_eq (x : Engine) (i : Nat) : lskBit x i = (decide (i < x.lskd.toNat) && bit x.lsk i) := by
  unfold lskBit lskVal
  by_cases hi : i < 32
  · split
    · next h => simp [show i < x.lskd.toNat by omega]
    · rw [bit_and, bit_ofNat _ hi, Nat.testBit_two_pow_sub_one, Bool.and_comm]
  · have hz (w : Word) : bit w i = false := BitVec.getLsbD_of_ge w i (Nat.not_lt.mp hi)
    rw [hz, hz, Bool.and_false]

theorem bit_shiftLeft_one_succ (w : Word) {i : Nat} (hi : i < 31) : bit (w <<< 1) (i + 1) = bit w i := by
  simp only [bit, BitVec.getLsbD_shiftLeft]
  simp [show i + 1 < 32 by omega]
theorem bit_shiftRight_one (w : Word) (i : Nat) : bit (w >>> 1) i = bit w (i + 1) := by
  simp [bit, Nat.add_comm]

section
variable {x : Engine}

theorem lskd_lskPop_one (h : 1 ≤ x.lskd.toNat) : (lskPop 1 x).lskd.toNat = x.lskd.toNat - 1 := by
  simp only [lskPop]
  bv_omega
theorem lskd_lskPush (b : Bool) (h : x.lskd.toNat < 32) : (lskPush b x).lskd.toNat = x.lskd.toNat + 1 := by
  simp only [lskPush]
  bv_omega

theorem lskBit_lskPop_one (h : 1 ≤ x.lskd.toNat) (i : Nat) : lskBit (lskPop 1 x) i = lskBit x (i + 1) := by
  rw [lskBit_eq, lskBit_eq, lskd_lskPop_one h, show (lskPop 1 x).lsk = x.lsk >>> 1 from rfl, bit_shiftRight_one]
  simp only [Nat.lt_sub_iff_add_lt]

theorem lskBit_lskTop_zero (b : Bool) (h : 1 ≤ x.lskd.toNat) : lskBit (lskTop b x) 0 = b := by
  rw [lskBit_eq, show (lskTop b x).lskd = x.lskd from rfl, show (lskTop b x).lsk = putBit x.lsk 0 b from rfl, bit_putBit (by decide)]
  simp [Nat.lt_of_succ_le h]
theorem lskBit_lskTop_succ (b : Bool) (i : Nat) : lskBit (lskTop b x) (i + 1) = lskBit x (i + 1) := by
  rw [lskBit_eq, lskBit_eq, show (lskTop b x).lskd = x.lskd from rfl, show (lskTop b x).lsk = putBit x.lsk 0 b from rfl]
  by_cases hi : i + 1 < 32
  · rw [bit_putBit hi, if_neg (Nat.succ_ne_zero i)]
  · have hz (w : Word) : bit w (i + 1) = false := BitVec.getLsbD_of_ge w _ (Nat.not_lt.mp hi)
    rw [hz, hz]

theorem lskBit_lskPush_zero (b : Bool) (h : x.lskd.toNat < 32) : lskBit (lskPush b x) 0 = b := by
  rw [lskBit_eq, lskd_lskPush b h, show (lskPush b x).lsk = putBit (x.lsk <<< 1) 0 b from rfl, bit_putBit (by decide)]
  simp
theorem lskBit_lskPush_succ (b : Bool) (h : x.lskd.toNat < 32) (i : Nat) : lskBit (lskPush b x) (i + 1) = lskBit x i := by
  rw [lskBit_eq, lskBit_eq, lskd_lskPush b h, show (lskPush b x).lsk = putBit (x.lsk <<< 1) 0 b from rfl]
  by_cases hi : i < x.lskd.toNat
  · rw [bit_putBit (by omega), if_neg (Nat.succ_ne_zero i), bit_shiftLeft_one_succ _ (by omega)]
    simp [hi]
  · simp [hi]

end

/-! ### Work on the logic stack alone (R174) -/

/-- LSWAP as it is carried out: both entries come off and go back the other way round. -/
def lskSwap (x : Engine) : Engine := lskPush (lskBit x 1) (lskTop (lskBit x 0) (lskPop 1 x))

theorem lskSwap_eq (x : Engine) : lskSwap x = { x with lsk := (lskSwap x).lsk } := by
  have hd : (lskSwap x).lskd = x.lskd := BitVec.sub_add_cancel x.lskd 1
  calc lskSwap x = { x with lsk := (lskSwap x).lsk, lskd := (lskSwap x).lskd } := rfl
    _ = { x with lsk := (lskSwap x).lsk } := by rw [hd]

theorem lskBit_lskSwap {x : Engine} (h2 : 2 ≤ x.lskd.toNat) (h32 : x.lskd.toNat ≤ 32) :
    lskBit (lskSwap x) 0 = lskBit x 1 ∧ lskBit (lskSwap x) 1 = lskBit x 0 ∧ ∀ i, 2 ≤ i → lskBit (lskSwap x) i = lskBit x i := by
  have hpop := lskd_lskPop_one (x := x) (by omega)
  have hroom : (lskTop (lskBit x 0) (lskPop 1 x)).lskd.toNat < 32 := by
    show (lskPop 1 x).lskd.toNat < 32
    omega
  refine ⟨lskBit_lskPush_zero _ hroom, ?_, fun i hi => ?_⟩
  · rw [lskSwap, lskBit_lskPush_succ _ hroom 0, lskBit_lskTop_zero _ (by omega)]
  · obtain ⟨j, rfl⟩ := Nat.exists_eq_add_of_le' hi
    rw [lskSwap, lskBit_lskPush_succ _ hroom (j + 1), lskBit_lskTop_succ, lskBit_lskPop_one (by omega)]

/-- A change of the logic stack that needs `n` entries in place of which it leaves `p`. -/
theorem runs_lskChange {e n p : Nat} {t : State} (f : Engine → Engine) (hn : n ≤ (eng t e).lskd.toNat)
    (hp : (eng t e).lskd.toNat - n + p ≤ 32) : Runs (do lskNeed e n p; modE e f) t () (onEng t e f) :=
  run_bind_of (run_lskNeed hn hp) (run_modE e f t)

/-! ### Transfers (R163) -/

/-- The Weir's counts are the Grove's. -/
theorem charge_eq (s : State) (e c b : Nat) : ∃ gs, charge s e c b = { s with grvs := gs } := by
  unfold charge
  split
  · dsimp only
    split
    · exact ⟨_, rfl⟩
    · exact ⟨s.grvs, rfl⟩
  · exact ⟨s.grvs, rfl⟩
@[simp] theorem charge_engs (s : State) (e c b : Nat) : (charge s e c b).engs = s.engs := by
  obtain ⟨gs, h⟩ := charge_eq s e c b
  rw [h]
@[simp] theorem eng_charge (s : State) (e c b f : Nat) : eng (charge s e c b) f = eng s f := by simp [eng]

/-- A transfer that is taken: its cycles, then the jump from the address past the instruction. -/
theorem runs_transfer (e len cyc : Nat) (d : Word) (w : State) :
    Runs (do
      extra e cyc
      let x ← getE e
      jump e len (x.pc + d)) w () (transfer w e len cyc ((eng w e).pc + d)) := by
  refine run_bind_of (run_modS _ w) (run_bind_of (run_getE e _) ?_)
  unfold jump transfer
  refine run_bind_of (run_getE e _) (run_bind_of (run_modS _ _) ?_)
  rw [run_modE, eng_charge]

/-- LBZ and LBNZ: the bit comes off, and its value decides. -/
theorem runs_logicBranch {e : Nat} {t : State} (i : BitVec 8) (v : Bool) (h1 : 1 ≤ (eng t e).lskd.toNat) (h33 : (eng t e).lskd.toNat ≤ 33) :
    let w := onEng t e (lskPop 1)
    Runs (logicBranch e i v) t ()
      (if lskBit (eng t e) 0 = v then transfer w e 2 3 ((eng w e).pc + BitVec.ofInt 32 i.toInt) else w) := by
  refine run_bind_of (run_lskNeed h1 (by omega)) (run_bind_of (run_getE e t) (run_bind_of (run_modE _ _ t) ?_))
  by_cases h : lskBit (eng t e) 0 = v
  · rw [if_pos h, if_pos (by simpa using h)]
    exact runs_transfer e 2 3 _ _
  · rw [if_neg h, if_neg (by simpa using h)]
    rfl

/-- Settles O17: each instruction is a change of the logic stack that its depth admits; LSWAP by the rules of single entries. -/
theorem logicStack : Obligations.LogicStack := by
  unfold Obligations.LogicStack
  intro e s t
  refine ⟨fun hs => ?_, fun i hs h1 h33 => ?_⟩
  · refine ⟨fun h2 h33 => ?two, fun h2 h32 => ?swap, fun h1 h32 => ?lnot, fun h1 h31 => ?dup, fun h1 h33 => ?drop,
      fun h0 c hc => ?empty, ?clr, fun u ht h1 h33 v hv => ?lpop, fun u a ht => ⟨fun hroom => ?lpush, fun hfull => ?full⟩⟩
    case two =>
      have hp : (eng t e).lskd.toNat - 2 + 1 ≤ 32 := by omega
      exact ⟨exec_retires (body := bodyLand e) rfl hs (runs_lskChange _ h2 hp) rfl,
        exec_retires (body := bodyLor e) rfl hs (runs_lskChange _ h2 hp) rfl,
        exec_retires (body := bodyLxor e) rfl hs (runs_lskChange _ h2 hp) rfl⟩
    case swap =>
      exact ⟨lskSwap (eng t e), exec_retires (body := bodyLswap e) rfl hs (runs_lskChange lskSwap h2 (by omega)) rfl,
        lskSwap_eq _, lskBit_lskSwap h2 h32⟩
    case lnot => exact exec_retires (body := bodyLnot e) rfl hs (runs_lskChange _ h1 (by omega)) rfl
    case dup => exact exec_retires (body := bodyLdup e) rfl hs (runs_lskChange _ h1 (by omega)) rfl
    case drop => exact exec_retires (body := bodyLdrop e) rfl hs (runs_lskChange _ h1 (by omega)) rfl
    case empty =>
      have hnone {n p : Nat} (hn : 0 < n) {f : Unit → EM Unit} : (lskNeed e n p >>= f).run t = .error (.fault vStack none t.dbg) :=
        run_bind_error (run_lskNeed_empty (Nat.lt_of_le_of_lt (Nat.le_of_eq h0) hn))
      rcases hc with rfl | rfl | rfl | rfl | rfl | rfl | rfl | rfl
      · exact exec_faults (body := bodyLdrop e) rfl hs (hnone (by decide))
      · exact exec_faults (body := bodyLnot e) rfl hs (hnone (by decide))
      · exact exec_faults (body := bodyLdup e) rfl hs (hnone (by decide))
      · exact exec_faults (body := bodyLpop e) rfl hs (hnone (by decide))
      · exact exec_faults (body := bodyLand e) rfl hs (hnone (by decide))
      · exact exec_faults (body := bodyLor e) rfl hs (hnone (by decide))
      · exact exec_faults (body := bodyLxor e) rfl hs (hnone (by decide))
      · exact exec_faults (body := bodyLswap e) rfl hs (hnone (by decide))
    case clr => exact exec_retires (body := bodyLclr e) rfl hs (run_modE _ _ t) rfl
    case lpop =>
      subst hv
      exact exec_retires (body := bodyLpop e) rfl hs (run_bind_of (run_lskNeed h1 (by omega)) (run_bind_of ht
        (run_bind_of (run_getE e u) (run_bind_of (run_modE _ _ u) (run_pushN _ _ _))))) rfl
    case lpush =>
      exact exec_retires (body := bodyLpush e) rfl hs (run_bind_of (run_pop1 ht) (runs_lskChange _ (Nat.zero_le _) (by omega))) rfl
    case full =>
      exact exec_faults (body := bodyLpush e) rfl hs
        (run_bind_of (run_pop1 ht) (run_bind_error (run_lskNeed_full (Nat.zero_le _) (by omega))))
  · have hz := exec_retires (c := .lbz e i) (body := bodyLbz e i) rfl hs (runs_logicBranch i false h1 h33) rfl
    have hnz := exec_retires (c := .lbnz e i) (body := bodyLbnz e i) rfl hs (runs_logicBranch i true h1 h33) rfl
    dsimp only at hz hnz ⊢
    cases hx : lskBit (eng t e) 0
    · rw [hx] at hz hnz
      exact ⟨hz, hnz⟩
    · rw [hx] at hz hnz
      exact ⟨hz, hnz⟩

end Sys2Proof.Machine
end

section
/-! PROOFS. The return stack, operands in the cache, and the control registers (R119 to R121, R126, R127, R129, R131). -/

namespace Sys2Proof.Machine

/-! ### The return stack (R131) -/

section
variable {e : Nat} {s : State} {r : Word}

theorem run_pushRet_full (h : (rspOf (eng s e) - 4#32).toNat < (rslOf (eng s e)).toNat) :
    (pushRet e r).run s = .error (.fault vStack none s.dbg) := by
  refine run_bind_of (run_getE e s) ?_
  dsimp only
  rw [if_pos h]
  exact run_bind_error (run_raise _ _ _)

theorem runs_pushRet {t u : State} (hl : (rslOf (eng s e)).toNat ≤ (rspOf (eng s e) - 4#32).toNat)
    (hc : Runs (checkAccess e (rspOf (eng s e) - 4#32).toNat 4 needW [2, 3]) s () t)
    (hw : Runs (writeRaw e (rspOf (eng s e) - 4#32).toNat 4 r) t () u) :
    Runs (pushRet e r) s () (onEng u e fun x => ersPut x (rspReg (xVital x) (xSup x)) (rspOf (eng s e) - 4#32)) := by
  refine run_bind_of (run_getE e s) ?_
  dsimp only
  rw [if_neg (Nat.not_lt.mpr hl)]
  exact run_bind_of hc (run_bind_of hw (run_modE _ _ u))

theorem runs_popRet {t u : State} {v : Word} (hc : Runs (checkAccess e (rspOf (eng s e)).toNat 4 needR [1, 3]) s () t)
    (hr : Runs (readRaw e (rspOf (eng s e)).toNat 4) t v u) :
    Runs (popRet e) s v (onEng u e fun x => ersPut x (rspReg (xVital x) (xSup x)) (rspOf (eng s e) + 4)) :=
  run_bind_of (run_getE e s) (run_bind_of hc (run_bind_of hr (run_bind_of (run_modE _ _ u) (run_pure v _))))

end

/-- Settles O15: the limit comes first; then the check, the move, and RSP. -/
theorem returnStack : Obligations.ReturnStack := by
  unfold Obligations.ReturnStack
  exact fun _ _ _ => ⟨run_pushRet_full, fun _ _ => runs_pushRet, fun _ _ _ => runs_popRet⟩

/-! ### Spills that DSL does not admit (R126) -/

theorem run_checkSpill_full {e k : Nat} {s : State} (h : ((eng s e).dsp - BitVec.ofNat 32 (4 * k)).toNat < (eng s e).dsl.toNat) :
    (checkSpill e k).run s = .error (.fault vStack none s.dbg) := by
  refine run_bind_of (run_getE e s) ?_
  rw [if_pos h]
  exact run_bind_error (run_raise _ _ _)

/-- Operands that are in the cache, but pushes that need a spill. -/
theorem run_popN_spill_full {e n p : Nat} {s : State} (hdepth : n ≤ (eng s e).ddepth.toNat) (hcells : n ≤ (eng s e).cells.length)
    (hroom : 32 < (eng s e).cells.length - n + p) (hfull : ((eng s e).dsp - 32).toNat < (eng s e).dsl.toNat) :
    (popN e n p).run s = .error (.fault vStack none s.dbg) := by
  have hfill : (fillTo e n).run s = .ok ((), s) := by
    refine run_bind_of (run_getE e s) ?_
    rw [if_neg (Nat.not_lt.mpr hcells), run_pure]
  have hmake : (makeRoom e n p).run s = .error (.fault vStack none s.dbg) := by
    refine run_bind_of (run_getE e s) ?_
    rw [if_pos (show _ > cacheDepth from hroom)]
    exact run_bind_error (run_checkSpill_full hfull)
  refine run_bind_of (run_getE e s) ?_
  rw [if_neg (Nat.not_lt.mpr hdepth)]
  exact run_bind_of hfill (run_bind_error hmake)

/-- Settles O32: enough cells and room, too few cells, or a spill below DSL. -/
theorem operandsFromCache : Obligations.OperandsFromCache := by
  unfold Obligations.OperandsFromCache
  exact fun _ _ _ _ => ⟨run_popN_cached, run_popN_short, run_popN_spill_full⟩

/-! ### RDC and WRC (R119 to R121) -/

section
variable {e : Nat} {i : BitVec 8} {t u : State}

theorem runs_bodyRdc (hl : crListed i.toNat = true) (hr : crReadable (eng t e) i.toNat = true) (ht : Takes e 0 1 t [] u) :
    Runs (bodyRdc e i) t () (push u e [crRead t e i.toNat]) := by
  refine run_bind_of (run_getE e t) ?_
  rw [hl, if_neg (by decide), hr, if_neg (by decide)]
  exact run_bind_of (run_get t) (run_bind_of ht (run_pushN _ _ u))

theorem run_bodyRdc_unlisted (hl : crListed i.toNat = false) : (bodyRdc e i).run t = .error (.fault vIllegal none t.dbg) := by
  refine run_bind_of (run_getE e t) ?_
  rw [hl, if_pos (by decide)]
  exact run_bind_error (run_raise _ _ _)

theorem run_bodyRdc_privileged (hl : crListed i.toNat = true) (hr : crReadable (eng t e) i.toNat = false) :
    (bodyRdc e i).run t = .error (.fault vPriv none t.dbg) := by
  refine run_bind_of (run_getE e t) ?_
  rw [hl, if_neg (by decide), hr, if_pos (by decide)]
  exact run_bind_error (run_raise _ _ _)

/-- A granted WRC is its operand, the full spill of DSP, DSL and DDEPTH (R129), and the write. -/
theorem run_bodyWrc_granted {v : Word} (hl : crListed i.toNat = true) (h0 : i ≠ 0) (hw : crWritable (eng t e) i.toNat = true)
    (ht : Takes e 1 0 t [v] u) : (bodyWrc e i).run t =
      (do
        if i.toNat = 3 ∨ i.toNat = 4 ∨ i.toNat = 5 then do
          checkFullSpill e
          fullSpill e
        modE e fun x => crWrite x i.toNat v : EM Unit).run u := by
  have hz : i.toNat ≠ 0 := fun h => h0 (BitVec.eq_of_toNat_eq h)
  refine run_bind_of (run_getE e t) ?_
  rw [if_neg (by simp [hl, hz]), hw, if_neg (by decide)]
  exact run_bind_of (run_pop1 ht) rfl

theorem run_bodyWrc_illegal (h : crListed i.toNat = false ∨ i = 0) : (bodyWrc e i).run t = .error (.fault vIllegal none t.dbg) := by
  refine run_bind_of (run_getE e t) ?_
  rw [if_pos (by rcases h with h | rfl <;> simp [*])]
  exact run_bind_error (run_raise _ _ _)

theorem run_bodyWrc_privileged (hl : crListed i.toNat = true) (h0 : i ≠ 0) (hw : crWritable (eng t e) i.toNat = false) :
    (bodyWrc e i).run t = .error (.fault vPriv none t.dbg) := by
  have hz : i.toNat ≠ 0 := fun h => h0 (BitVec.eq_of_toNat_eq h)
  refine run_bind_of (run_getE e t) ?_
  rw [if_neg (by simp [hl, hz]), hw, if_pos (by decide)]
  exact run_bind_error (run_raise _ _ _)

end

/-- Settles O25: listed and granted, not listed, or not granted. -/
theorem controlRegisters : Obligations.ControlRegisters := by
  unfold Obligations.ControlRegisters
  intro e i s t u hs
  have rdcFault {k : Nat} (h : (bodyRdc e i).run t = .error (.fault k none t.dbg)) :
      exec (.rdc e i) s = .next (takeFault s e k none t.dbg) := exec_faults (body := bodyRdc e i) rfl hs h
  have wrcFault {k : Nat} (h : (bodyWrc e i).run t = .error (.fault k none t.dbg)) :
      exec (.wrc e i) s = .next (takeFault s e k none t.dbg) := exec_faults (body := bodyWrc e i) rfl hs h
  refine ⟨fun hl hr ht => exec_retires (body := bodyRdc e i) rfl hs (runs_bodyRdc hl hr ht) rfl,
    fun hl => rdcFault (run_bodyRdc_unlisted hl), fun hl hr => rdcFault (run_bodyRdc_privileged hl hr),
    fun v hl h0 hw ht => ⟨fun hi => ?plain, fun w h3 h5 hspill => ?spill⟩,
    fun h => wrcFault (run_bodyWrc_illegal h), fun hl h0 hw => wrcFault (run_bodyWrc_privileged hl h0 hw)⟩
  case plain =>
    refine exec_retires (body := bodyWrc e i) rfl hs ((run_bodyWrc_granted hl h0 hw ht).trans ?_) rfl
    rw [if_neg (by omega)]
    exact run_modE _ _ u
  case spill =>
    refine exec_retires (body := bodyWrc e i) rfl hs ((run_bodyWrc_granted hl h0 hw ht).trans ?_) rfl
    rw [if_pos (by omega)]
    exact run_bind_assoc_of hspill (run_modE _ _ w)

end Sys2Proof.Machine
end

section
/-! PROOFS. An engine's accesses to a tarn word (R134, R160, R343, R384). -/

namespace Sys2Proof.Machine

/-! ### The check of an aligned word -/

/-- An aligned word that no comparator matches and that is granted passes its check, which changes nothing. -/
theorem runs_checkAccess_word {s : State} {e a need : Nat} {kinds : List Nat} (h4 : a % 4 = 0) (hcmp : cmpHits s e kinds a = [])
    (hg : engCheck s e a need = none) : Runs (checkAccess e a 4 need kinds) s () s := by
  have hhits : (applyHits e (cmpHits s e kinds a)).run s = .ok ((), s) := by rw [hcmp]; rfl
  have hpieces : checkPieces s e need (piecesOf a 4) = none := by
    rw [piecesOf_word h4, checkPieces, hg]
    rfl
  refine run_bind_of (run_get s) (run_bind_of hhits (run_bind_of (run_getE e s) ?_))
  rw [if_neg (by simp [h4])]
  refine run_bind_of (run_get s) ?_
  rw [hpieces, run_pure]

/-! ### What an access costs (R69, R160) -/

theorem chargeWait_charge_eq (s : State) (e c b : Nat) : ∃ gs n, chargeWait (charge s e c b) e = { s with grvs := gs, free := n } := by
  obtain ⟨gs, hc⟩ := charge_eq s e c b
  obtain ⟨gs', hw⟩ := charge_eq (freeWait (charge s e c b)).2 e (freeWait (charge s e c b)).1 0
  refine ⟨gs', s.free + 1, hw.trans ?_⟩
  rw [hc]
  rfl

theorem runs_needTarn {s : State} {k : Nat} (h : tarnUp s k = true) : (needTarn k).run s = .ok ((), s) := if_pos h

/-! ### The piece itself -/

section
variable {e a k w : Nat} {s : State} (hp : placeOf a = .tarn k w) (h4 : a % 4 = 0) (hup : tarnUp s k = true)
include hp h4 hup

theorem runs_readRaw_tarn (hgood : tarnCls s k w = .good) :
    Runs (readRaw e a 4) s (wordAt s a) (chargeWait (charge s e 3 1) e) := by
  obtain ⟨gs, n, hpaid⟩ := chargeWait_charge_eq s e 3 1
  have hread (m : Nat) : readTarn (chargeWait (charge s e 3 1) e) k w m = (chargeWait (charge s e 3 1) e, some (wordAt s a)) := by
    have hcls : tarnCls (chargeWait (charge s e 3 1) e) k w = .good := by rw [hpaid]; exact hgood
    have hraw : tarnRaw (chargeWait (charge s e 3 1) e) k w = wordAt s a := by
      rw [hpaid, ← placeOf_tarn hp h4]
      rfl
    rw [readTarn, hcls]
    exact congrArg (fun v => (_, some v)) hraw
  have hpiece : (readPiece e a 4).run s = .ok (wordBytes (wordAt s a), chargeWait (charge s e 3 1) e) := by
    refine run_bind_of (run_get s) ?_
    rw [hp]
    refine run_bind_of (runs_needTarn hup) (run_bind_of (run_modS _ s) (run_bind_of (run_get _) ?_))
    rw [hread, h4]
    rfl
  unfold readRaw
  rw [piecesOf_word h4]
  refine run_bind_of hpiece ?_
  rw [bytesVal_wordBytes, run_pure]

theorem runs_writeRaw_tarn (hbuf : bufIndex s k w = none) (v : Word) : ∃ t, Runs (writeRaw e a 4 v) s () t ∧ wordAt t a = v ∧
    ∀ b, b < a ∨ a + 4 ≤ b → byteAt t b = byteAt s b := by
  obtain ⟨gs, n, hpaid⟩ := chargeWait_charge_eq s e 1 1
  generalize hu : chargeWait (charge s e 1 1) e = u at hpaid
  have hplain : bufIndex u k w = none := (bufIndex_congr (by rw [hpaid]) k w).trans hbuf
  have hadr := placeOf_tarn hp h4
  obtain ⟨hword, -, hrest⟩ := storedTarn (s := u) (u := clearRsv (storeTarn u k w v) (engReq u e).master (tarnAddr k w)) (t := k)
    (w := w) (v := v) (clearRsv_mem _ _ _) (clearRsv_keeps State.tarnErr (fun _ _ _ => rfl) _ _ _)
  rw [tarnRaw, hadr] at hword
  rw [hadr] at hrest
  refine ⟨_, ?_, hword, fun b hb => (hrest b hb).trans (byteAt_congr (by rw [hpaid]) b)⟩
  unfold writeRaw
  rw [piecesOf_word h4]
  refine run_bind_of (run_get s) ?_
  rw [hp]
  refine run_bind_of (runs_needTarn hup) (run_bind_of (run_modS _ s) ?_)
  rw [hu]
  refine run_bind_of (run_get u) ?_
  rw [h4, show (wordBytes v).take 4 = wordBytes v from rfl, byteMask_wordBytes]
  dsimp only
  rw [writeTarn_word hplain, hadr]
  rfl

end

/-- Settles O12: the check passes, and the word is one piece in its tarn. -/
theorem tarnAccess : Obligations.TarnAccess := by
  unfold Obligations.TarnAccess
  intro e s a k w hp h4 hup hgood
  refine ⟨fun hcmp hg => run_bind_of (runs_checkAccess_word h4 hcmp hg) (runs_readRaw_tarn hp h4 hup hgood),
    fun v hcmp hg hbuf => ?_⟩
  obtain ⟨t, hw, hstored⟩ := runs_writeRaw_tarn (e := e) hp h4 hup hbuf v
  exact ⟨t, run_bind_of (runs_checkAccess_word h4 hcmp hg) hw, hstored⟩

end Sys2Proof.Machine
end

section
/-! PROOFS. What the fetch of an instruction leaves of the engines (R160, R322, R329 to R334): the Lake, the caches, the lines lost and the
cycles discarded on the way change no engine. -/

namespace Sys2Proof.Machine

/-! ### Events, fault records and discards -/

@[simp] theorem pushEvent_engs (s : State) (k x d : Nat) : (pushEvent s k x d).engs = s.engs := by
  obtain ⟨_, _, h⟩ := pushEvent_eq s k x d
  rw [h]

@[simp] theorem record_engs (s : State) (r : FaultInfo) : (record s r).engs = s.engs := by
  unfold record
  split
  · rfl
  · exact pushEvent_engs _ _ _ _

@[simp] theorem discardApp_engs (s : State) (a : Nat) : (discardApp s a).engs = s.engs := by
  have hstop (t : State) : (stopGlades t a).engs = t.engs := by
    refine foldl_keeps State.engs (fun u g => ?_) _ t
    split
    · split <;> rfl
    · rfl
  unfold discardApp
  dsimp only
  split
  · exact hstop _
  · rfl

@[simp] theorem dirtyLost_engs (s : State) (l : CLine) (f : Option Nat) : (dirtyLost s l f).engs = s.engs := by
  have hdiscard (t : State) : (discardOpt t l.app).engs = t.engs := by
    cases l.app with
    | none => rfl
    | some a =>
      rw [discardOpt, discardNowOrNext]
      split
      · exact discardApp_engs t a
      · rfl
  unfold dirtyLost
  dsimp only
  rw [hdiscard, record_engs]

/-! ### Outer memory, the Lake and the I-cache -/

@[simp] theorem chargeWait_engs (s : State) (e : Nat) : (chargeWait s e).engs = s.engs := charge_engs _ _ _ _

theorem putBytes_engs (s : State) (a : Nat) (bs : List Byte) : (putBytes s a bs).engs = s.engs := by rw [putBytes_eq]

theorem nchWriteAt_engs (s : State) (m a n : Nat) (x : Option Nat) : (nchWriteAt s m a n x).engs = s.engs := by
  unfold nchWriteAt
  split <;> rfl

theorem writeLine_engs (s : State) (m n : Nat) (l : Line) (a : Option Nat) : (nchWrite (putLine s n l) m n a).engs = s.engs := by
  rw [nchWrite, nchWriteAt_engs, putLine, putBytes_engs]

@[simp] theorem lakeDrop_engs (s : State) (m t w : Nat) : (lakeDrop s m t w).engs = s.engs := by
  unfold lakeDrop
  split
  · rfl
  · next l _ =>
    have hput : (if l.locked = true then wf (putLake s t w none) Reg.cmxLkcnt 15 0 (rf (putLake s t w none) Reg.cmxLkcnt 15 0 - 1)
        else putLake s t w none).engs = s.engs := by split <;> rfl
    dsimp only
    split
    · split
      · exact (dirtyLost_engs _ _ _).trans hput
      · exact hput
    · split
      · exact (writeLine_engs _ _ _ _ _).trans hput
      · exact hput

@[simp] theorem lakeInstall_engs (s : State) (m : Nat) (l : CLine) : (lakeInstall s m l).engs = s.engs := by
  have hlfsr (v : BitVec 16) : (putLakeLfsr s m v).engs = s.engs := by
    unfold putLakeLfsr
    split <;> rfl
  exact (lakeDrop_engs _ _ _ _).trans (hlfsr _)

/-- The fill of a line from outer memory, of `lakeRead`. -/
def lakeMissFill (s : State) (m n : Nat) : State × Except LineErr Line :=
  match nchLine (chargeWait s m) n with
  | none => (chargeWait s m, .error .nchErr)
  | some d =>
    (if mayAlloc (chargeWait s m) 4 0 n then lakeInstall (chargeWait s m) m ⟨n, d, false, none, false, false⟩ else chargeWait s m, .ok d)

theorem lakeRead_eq (s : State) (m n : Nat) : lakeRead s m n =
    match lakeWay s n with
    | none => lakeMissFill s m n
    | some (w, l) =>
      if l.bad then
        if l.dirty then (lakeDrop s m (n % 4096) w, .error .lost) else lakeMissFill (lakeDrop s m (n % 4096) w) m n
      else (s, .ok l.data) := by rfl

theorem lakeMissFill_engs (s : State) (m n : Nat) : (lakeMissFill s m n).1.engs = s.engs := by
  unfold lakeMissFill
  split
  · exact chargeWait_engs s m
  · dsimp only
    split
    · exact (lakeInstall_engs _ _ _).trans (chargeWait_engs s m)
    · exact chargeWait_engs s m

theorem lakeRead_engs (s : State) (m n : Nat) : (lakeRead s m n).1.engs = s.engs := by
  rw [lakeRead_eq]
  split
  · exact lakeMissFill_engs s m n
  · split
    · split
      · exact lakeDrop_engs _ _ _ _
      · exact (lakeMissFill_engs _ _ _).trans (lakeDrop_engs _ _ _ _)
    · rfl

/-- The I-cache takes a line by replacement. -/
def l1iInstall (s : State) (g n : Nat) (d : Line) : State :=
  let x := grv s g
  let p := pickWay (List.range (4 - iWays s g)) (fun w => (l1Slot x.l1i (n % 128) w).isSome) x.lfsrI
  let t := match l1Slot x.l1i (n % 128) p.1 with
    | some o => if o.bad then bump s Reg.cmxPerr 15 0 1 else s
    | none => s
  putGrv t g { grv t g with l1i := putL1 x.l1i (n % 128) p.1 (some ⟨n, d, false, none, false, false⟩), lfsrI := p.2 }

/-- The fill of a line from the Lake, of `l1iFetch`. -/
def l1iFill (s : State) (e n : Nat) : State × Except LineErr Line :=
  match lakeRead (charge s e 14 4) e n with
  | (s, .error err) => (s, .error err)
  | (s, .ok d) => if mayAlloc s 6 (e / 2) n then (l1iInstall s (e / 2) n d, .ok d) else (s, .ok d)

theorem l1iFetch_eq (s : State) (e n : Nat) : l1iFetch s e n =
    match l1Way (grv s (e / 2)).l1i (4 - iWays s (e / 2)) n with
    | some (w, l) =>
      if l.bad then
        l1iFill (bump (putGrv s (e / 2) { grv s (e / 2) with l1i := putL1 (grv s (e / 2)).l1i (n % 128) w none }) Reg.cmxPerr 15 0 1) e n
      else (s, .ok l.data)
    | none => l1iFill s e n := by rfl

theorem l1iInstall_engs (s : State) (g n : Nat) (d : Line) : (l1iInstall s g n d).engs = s.engs := by
  unfold l1iInstall
  dsimp only
  rw [putGrv_engs]
  split
  · split <;> rfl
  · rfl

theorem l1iFill_engs (s : State) (e n : Nat) : (l1iFill s e n).1.engs = s.engs := by
  have hread : (lakeRead (charge s e 14 4) e n).1.engs = s.engs := (lakeRead_engs _ _ _).trans (charge_engs _ _ _ _)
  unfold l1iFill
  split
  · next h =>
    rw [h] at hread
    exact hread
  · next h =>
    rw [h] at hread
    split
    · exact (l1iInstall_engs _ _ _ _).trans hread
    · exact hread

theorem l1iFetch_engs (s : State) (e n : Nat) : (l1iFetch s e n).1.engs = s.engs := by
  rw [l1iFetch_eq]
  split
  · split
    · exact l1iFill_engs _ _ _
    · rfl
  · exact l1iFill_engs _ _ _

end Sys2Proof.Machine
end

section
/-! PROOFS. The start of an instruction (R119, R132, R207, R421). -/

namespace Sys2Proof.Machine

/-! ### Outer memory that answers -/

theorem outerFail_ne_ok {α : Type} (e a : Nat) (x : LineErr) (s : State) (r : α × State) : (outerFail e a x : EM α).run s ≠ .ok r := by
  intro h
  simp only [outerFail, StateT.run] at h
  split at h
  · cases h
  · split at h <;> cases h

theorem liftOuter_ok {α : Type} {e a : Nat} {f : State → State × Except LineErr α} {s t : State} {v : α}
    (h : (liftOuter e a f).run s = .ok (v, t)) : (f s).1 = t := by
  simp only [liftOuter, StateT.run] at h
  split at h
  · next hf =>
    cases h
    rw [hf]
  · exact absurd h (outerFail_ne_ok _ _ _ _ _)

/-! ### What a fetch leaves of the engines -/

/-- Engine `e` apart from its fetched block, and every other engine, are as before. -/
def FetchKeeps (e : Nat) (s t : State) : Prop :=
  (∀ f, f ≠ e → eng t f = eng s f) ∧ eng t e = { eng s e with fetchBlk := (eng t e).fetchBlk }

theorem fetchKeeps_of_engs {e : Nat} {s t : State} (h : t.engs = s.engs) : FetchKeeps e s t := by
  have heng (f : Nat) : eng t f = eng s f := by simp only [eng, h]
  exact ⟨fun f _ => heng f, by rw [heng]⟩

theorem FetchKeeps.trans {e : Nat} {s t u : State} (h : FetchKeeps e s t) (h' : FetchKeeps e t u) : FetchKeeps e s u := by
  obtain ⟨hother, hown⟩ := h
  obtain ⟨hother', hown'⟩ := h'
  exact ⟨fun f hf => (hother' f hf).trans (hother f hf), by rw [hown', hown]⟩

theorem fetchKeeps_block (s : State) (e : Nat) (b : Option Nat) : FetchKeeps e s (onEng s e fun x => { x with fetchBlk := b }) :=
  ⟨fun _ hf => eng_putEng_ne _ _ hf, by rw [eng_onEng]⟩

theorem fetchKeeps_fetchOne {e a : Nat} {prev : Option Nat} {s t : State} (h : Runs (fetchOne e prev a) s () t) : FetchKeeps e s t := by
  have same {u : State} (hu : (pure () : EM Unit).run s = .ok ((), u)) : FetchKeeps e s u := by
    cases hu
    exact fetchKeeps_of_engs rfl
  unfold Runs fetchOne at h
  rw [run_bind_ok _ _ _ _ _ (run_get s)] at h
  split at h
  · exact same h
  · split at h
    · split at h
      · split at h
        · split at h
          · exact same h
          · obtain ⟨d, u, hline, h⟩ := run_bind_inv h
            rw [run_modE] at h
            cases h
            exact (fetchKeeps_of_engs ((congrArg _ (liftOuter_ok hline)).symm.trans (l1iFetch_engs _ _ _))).trans (fetchKeeps_block _ _ _)
        · split at h
          · exact same h
          · rw [run_bind_ok _ _ _ _ _ (run_modS _ s), run_bind_ok _ _ _ _ _ (run_modE _ _ _), run_bind_ok _ _ _ _ _ (run_get _)] at h
            split at h
            · exact absurd h (outerFail_ne_ok _ _ _ _ _)
            · cases h
              exact (fetchKeeps_of_engs (by simp)).trans (fetchKeeps_block _ _ _)
      · cases h
    · split at h
      · split at h
        · cases h
        · exact same h
      · cases h
    · cases h

theorem fetchKeeps_fetchInsn {e len : Nat} {pc : Word} {s t : State} (h : Runs (fetchInsn e pc len) s () t) : FetchKeeps e s t := by
  have hbytes (l : List Nat) : ∀ (p : Option Nat) {s t : State} {r : Option Nat},
      (l.foldlM (fun prev a => do fetchOne e prev a; pure (some a)) p : EM (Option Nat)).run s = .ok (r, t) → FetchKeeps e s t := by
    induction l with
    | nil =>
      intro p s t r h
      cases h
      exact fetchKeeps_of_engs rfl
    | cons a l ih =>
      intro p s t r h
      rw [List.foldlM_cons] at h
      obtain ⟨q, u, hone, h⟩ := run_bind_inv h
      obtain ⟨_, v, hone, hq⟩ := run_bind_inv hone
      cases hq
      exact (fetchKeeps_fetchOne hone).trans (ih _ h)
  unfold Runs fetchInsn at h
  rw [run_bind_ok _ _ _ _ _ (run_get s)] at h
  split at h
  · cases h
  · obtain ⟨r, u, hl, h⟩ := run_bind_inv h
    cases h
    exact hbytes _ _ hl

/-! ### What the rest of a start leaves -/

theorem applyHits_engs {e : Nat} {hits : List Bool} {s t : State} (h : Runs (applyHits e hits) s () t) : t.engs = s.engs := by
  simp only [Runs, applyHits, StateT.run] at h
  split at h
  · cases h
  · split at h
    · split at h
      · cases h
      · cases h
        rfl
    · cases h
      rfl

theorem ucEnter_engs {e : Nat} {entry : Option Nat} {s t : State} (h : Runs (ucEnter e entry) s () t) : t.engs = s.engs := by
  unfold Runs ucEnter at h
  split at h
  · cases h
    rfl
  · rw [run_bind_ok _ _ _ _ _ (run_get s)] at h
    dsimp only at h
    split at h
    · cases h
      rfl
    · cases h
      rfl
    · cases h

/-- The start of an instruction changes nothing of the engines but PC, the fold mark and the fetched block of its own. -/
theorem started_frame {e : Nat} {i : Insn} {s t : State} (h : Started e i s t) : (∀ f, f ≠ e → eng t f = eng s f) ∧
    eng t e = { eng s e with
      pc := (eng s e).pc + BitVec.ofNat 32 i.len, foldAt := (eng t e).foldAt, fetchBlk := (eng t e).fetchBlk } := by
  obtain ⟨-, -, h⟩ := h
  unfold Runs startInsn at h
  rw [run_bind_ok _ _ _ _ _ (run_get s), run_bind_ok _ _ _ _ _ (run_getE e s)] at h
  obtain ⟨_, u1, hhits, h⟩ := run_bind_inv h
  obtain ⟨_, u2, hfetch, h⟩ := run_bind_inv h
  obtain ⟨_, u3, huc, h⟩ := run_bind_inv h
  rw [run_bind_ok _ _ _ _ _ (run_modS _ u3), run_modE] at h
  cases h
  obtain ⟨hother, hown⟩ := ((fetchKeeps_of_engs (applyHits_engs hhits)).trans (fetchKeeps_fetchInsn hfetch)).trans
    (fetchKeeps_of_engs (ucEnter_engs huc))
  refine ⟨fun f hf => ?_, ?_⟩
  · rw [onEng, eng_putEng_ne _ _ hf, eng_charge, hother f hf]
  · rw [eng_onEng, eng_charge, hown]

/-! ### The start on the Wellspring's engine -/

theorem cmpHits_wellspring (s : State) (kinds : List Nat) (a : Nat) : cmpHits s 32 kinds a = [] := if_pos (by decide)
theorem charge_wellspring (s : State) (c b : Nat) : charge s 32 c b = s := if_neg (by decide)

theorem fetchDenied_rom (s : State) {a : Nat} (h : 0xA0000000 ≤ a ∧ a < 0xA0020000) : fetchDenied s 32 a = none := by
  unfold fetchDenied
  dsimp only
  rw [if_pos (by decide), if_pos h]

theorem runs_fetchInsn_rom {s : State} {pc : Word} {len : Nat} (hlo : 0xA0000000 ≤ pc.toNat) (hhi : pc.toNat + len ≤ 0xA0020000) :
    Runs (fetchInsn 32 pc len) s () s := by
  have hgrant : (insnAddrs pc len).findSome? (fetchDenied s 32) = none := by
    refine List.findSome?_eq_none_iff.mpr fun a ha => fetchDenied_rom s ?_
    obtain ⟨k, hk, rfl⟩ := List.mem_map.mp ha
    have hk : k < len := List.mem_range.mp hk
    rw [BitVec.toNat_add, BitVec.toNat_ofNat]
    omega
  have hbytes (l : List Nat) : ∀ p : Option Nat, ∃ r,
      (l.foldlM (fun prev a => do fetchOne 32 prev a; pure (some a)) p : EM (Option Nat)).run s = .ok (r, s) := by
    induction l with
    | nil => exact fun p => ⟨p, rfl⟩
    | cons a l ih =>
      intro p
      obtain ⟨r, hr⟩ := ih (some a)
      have hone : (fetchOne 32 p a).run s = .ok ((), s) := rfl
      exact ⟨r, by rw [List.foldlM_cons]; exact run_bind_of (run_bind_of hone rfl) hr⟩
  obtain ⟨r, hr⟩ := hbytes (insnAddrs pc len) none
  refine run_bind_of (run_get s) ?_
  rw [hgrant]
  exact run_bind_of hr rfl

theorem runs_ucEnter_good {e : Nat} {entry : Option Nat} {s : State}
    (h : ∀ op, entry = some op → ucError s e (ucAddr s (4 * op)) = none) : Runs (ucEnter e entry) s () s := by
  cases entry with
  | none => rfl
  | some op =>
    refine run_bind_of (run_get s) ?_
    dsimp only
    rw [h op rfl]
    rfl

/-- The mark that the start of an instruction leaves (R140): the next address, where the two may fold. -/
def foldMark (s : State) (e : Nat) (i : Insn) : Option Word :=
  let pc := (eng s e).pc
  let next := pc + BitVec.ofNat 32 i.len
  if i.first && (cmpHits s e [0] pc.toNat).isEmpty && !(decide (e < 32) && (grv s (e / 2)).stepping) &&
      decide (pc.toNat / 16 = next.toNat / 16) then some next else none

theorem runs_startInsn_rom {s : State} {i : Insn} (hlo : 0xA0000000 ≤ (eng s 32).pc.toNat)
    (hhi : (eng s 32).pc.toNat + i.len ≤ 0xA0020000) (huc : ∀ op, i.entry = some op → ucError s 32 (ucAddr s (4 * op)) = none) :
    Runs (startInsn 32 i) s () (onEng s 32 fun x => { x with pc := x.pc + BitVec.ofNat 32 i.len, foldAt := foldMark s 32 i }) := by
  have hhits : (applyHits 32 (cmpHits s 32 [0] (eng s 32).pc.toNat)).run s = .ok ((), s) := by
    rw [cmpHits_wellspring]
    rfl
  refine run_bind_of (run_get s) (run_bind_of (run_getE 32 s) (run_bind_of hhits
    (run_bind_of (runs_fetchInsn_rom hlo hhi) (run_bind_of (runs_ucEnter_good huc) (run_bind_of (run_modS _ s) ?_)))))
  rw [charge_wellspring]
  rfl

/-- Settles O33: on the Wellspring's engine each part of the start succeeds and changes nothing but PC and the mark; on any engine each
part keeps the others' registers and its own. -/
theorem instructionStart : Obligations.InstructionStart := by
  unfold Obligations.InstructionStart
  exact ⟨fun s i hrun hdue _ hlo hhi huc => ⟨foldMark s 32 i, hrun, hdue, runs_startInsn_rom hlo hhi huc⟩, fun _ _ _ _ => started_frame⟩

end Sys2Proof.Machine
end

section
/-! PROOFS. Edge instructions (R175). -/

namespace Sys2Proof.Machine

/-- The edge memory takes the input, and the top becomes the edge that `rising` names. -/
theorem runs_edge {e : Nat} {a : Word} {t w : State} {m : Bool} (rising : Bool) (hn : 1 ≤ (eng t e).lskd.toNat)
    (hp : (eng t e).lskd.toNat - 1 + 1 ≤ 32) (h : Runs (bModify e a fun _ => lskBit (eng t e) 0) t m w) :
    Runs (edge e a rising) t ()
      (onEng w e (lskTop (if rising then lskBit (eng t e) 0 && !m else m && !lskBit (eng t e) 0))) :=
  run_bind_of (run_lskNeed hn hp) (run_bind_of (run_getE e t) (run_bind_of h rfl))

/-- Settles O18: each of the four is one edge, at its operand or at the popped address. -/
theorem edges : Obligations.Edges := by
  unfold Obligations.Edges
  refine fun e => ⟨fun i => ?edgr, fun i => ?edgf, ?edgrs, ?edgfs⟩
  case edgr => exact bits0_of_runs (body := bodyEdgr e i) (fun _ => rfl) rfl fun _ _ _ hn hp h => runs_edge true hn hp h
  case edgf => exact bits0_of_runs (body := bodyEdgf e i) (fun _ => rfl) rfl fun _ _ _ hn hp h => runs_edge false hn hp h
  case edgrs =>
    exact bits1_of_runs (body := fun a => edge e a true) (fun _ => rfl) rfl fun _ _ _ _ hn hp h => runs_edge true hn hp h
  case edgfs =>
    exact bits1_of_runs (body := fun a => edge e a false) (fun _ => rfl) rfl fun _ _ _ _ hn hp h => runs_edge false hn hp h

end Sys2Proof.Machine
end

section
/-! PROOFS. Timers: the move of a block, and what the timers measure (R177 to R179). -/

namespace Sys2Proof.Machine

/-! ### The move of a block (R177, R178) -/

theorem timer_eq (e : Nat) (f : Word → Bool → TimerBlk → TimerBlk) : timer e f = (do
    let a ← pop1 e 0
    lskNeed e 1 1
    let b ← readBlock e a
    let x ← getE e
    let s ← get
    let r := f (cstOf s e) (lskBit x 0) (timerOf b.1 b.2.1 b.2.2.1 b.2.2.2)
    blkWrite e a r.et r.ts r.w3
    modE e (lskTop r.q)) := by
  simp only [timer, readBlock, bind_assoc, pure_bind]

/-- A timer over the block that it has read: `r` is the block it leaves. -/
theorem runs_timer {e : Nat} {f : Word → Bool → TimerBlk → TimerBlk} {a pt et ts w3 : Word} {t u w v : State} {r : TimerBlk}
    (ht : Takes e 1 0 t [a] u) (h1 : 1 ≤ (eng u e).lskd.toNat) (h32 : (eng u e).lskd.toNat ≤ 32)
    (hr : Runs (readBlock e a) u (pt, et, ts, w3) w)
    (hf : f (cstOf w e) (lskBit (eng w e) 0) (timerOf pt et ts w3) = r)
    (hw : Runs (blkWrite e a r.et r.ts r.w3) w () v) : Runs (timer e f) t () (onEng v e (lskTop r.q)) := by
  subst hf
  rw [timer_eq]
  exact run_bind_of (run_pop1 ht) (run_bind_of (run_lskNeed h1 (by omega)) (run_bind_of hr (run_bind_of (run_getE e w)
    (run_bind_of (run_get w) (run_bind_of hw (run_modE _ _ v))))))

/-- Settles O19: TON, TOF and TP are one timer with their three laws; TRST writes 0 without a read. -/
theorem timerInstructions : Obligations.TimerInstructions := by
  unfold Obligations.TimerInstructions
  intro e s t u a ht
  refine ⟨fun c n f hcase hs h1 h32 pt et ts w3 w v hr => ?timed, fun hs w v hc hw => ?trst⟩
  case timed =>
    intro r hw
    have hc : exec c s = .next (runInsn e (insnTimer n 10) (timer e f) s) := by
      rcases hcase with ⟨rfl, rfl, rfl⟩ | ⟨rfl, rfl, rfl⟩ | ⟨rfl, rfl, rfl⟩
      · rfl
      · rfl
      · rfl
    exact exec_retires hc hs (runs_timer ht h1 h32 hr rfl hw) rfl
  case trst => exact exec_retires (body := bodyTrst e) rfl hs (run_bind_of (run_pop1 ht) (run_bind_of hc hw)) rfl

/-! ### Elapsed time (R179) -/

theorem timerRun_stopped {t : TimerBlk} (now : Word) (atEnd : Bool) (h : t.run = false) : timerRun now atEnd t = t := by
  simp [timerRun, h]

/-- While RUN is 1 the time since TS is measured up to PT, and the timing ends there. -/
theorem timerRun_running {t : TimerBlk} (now : Word) (atEnd : Bool) (h : t.run = true) :
    let reached := decide (t.pt.toNat ≤ (now - t.ts).toNat)
    timerRun now atEnd t = { t with
      et := if reached then t.pt else now - t.ts, q := if reached then atEnd else t.q, run := !reached } := by
  generalize hd : now - t.ts = d
  by_cases hr : t.pt.toNat ≤ d.toNat
  · have het : (if d.toNat ≤ t.pt.toNat then d else t.pt) = t.pt := by
      split
      · exact BitVec.eq_of_toNat_eq (by omega)
      · rfl
    simp only [timerRun, h, hd, het]
    simp [hr]
  · have hne : d ≠ t.pt := fun heq => hr (Nat.le_of_eq (congrArg BitVec.toNat heq.symm))
    simp [timerRun, h, hd, hr, hne, Nat.le_of_lt (Nat.lt_of_not_le hr)]

/-- A timing that starts now has measured nothing, and has ended only where PT is 0. -/
theorem timerRun_started {t : TimerBlk} (atEnd : Bool) (h : t.run = true) :
    timerRun t.ts atEnd t = { t with et := 0, q := if t.pt = 0 then atEnd else t.q, run := decide (t.pt ≠ 0) } := by
  rw [timerRun_running _ _ h]
  have hzero : t.pt.toNat ≤ 0 ↔ t.pt = 0#32 := by
    rw [Nat.le_zero]
    exact BitVec.toNat_inj (y := 0#32)
  by_cases hp : t.pt = 0#32
  · simp [hp]
  · simp [hp, hzero]

/-- Settles O20: each law is what the input's edge starts or ends, then what a timing that starts, runs or stands has measured. -/
theorem timerLaws : Obligations.TimerLaws := by
  unfold Obligations.TimerLaws
  rintro now ⟨pt, et, ts, q, inp, run⟩ el reached
  have hstart (q inp atEnd : Bool) := timerRun_started (t := ⟨pt, et, now, q, inp, true⟩) atEnd rfl
  have hrun (inp atEnd : Bool) : timerRun now atEnd ⟨pt, et, ts, q, inp, true⟩ =
      ⟨pt, if reached then pt else el, ts, if reached then atEnd else q, inp, !reached⟩ := timerRun_running now atEnd rfl
  have hstand (inp atEnd : Bool) := timerRun_stopped (t := ⟨pt, et, ts, q, inp, false⟩) now atEnd rfl
  dsimp only at hstart ⊢
  refine ⟨rfl, ?tonRise, ?tonRun, ?tonDone, rfl, ?tofFall, ?tofRun, ?tofDone, ?tpRise, fun i hr hel => ?tpRun, fun i hr hel => ?tpEnd,
    ?tpIdle, ?tpHeld⟩
  case tonRise =>
    rintro rfl
    simp [tonStep, hstart, Bool.or_comm]
  case tonRun =>
    rintro rfl rfl
    simp [tonStep, hrun, Bool.or_comm]
  case tonDone =>
    rintro rfl rfl
    simp [tonStep, hstand]
  case tofFall =>
    rintro rfl
    simp [tofStep, hstart, Bool.and_comm]
  case tofRun =>
    rintro rfl rfl
    simp [tofStep, hrun, Bool.and_comm]
  case tofDone =>
    rintro rfl rfl
    simp [tofStep, hstand]
  case tpRise =>
    rintro rfl rfl
    simp [tpStep, hstart]
  case tpRun => simp [tpStep, hr, hrun, hel]
  case tpEnd => cases i <;> simp [tpStep, hr, hrun, hel]
  case tpIdle =>
    rintro rfl
    simp [tpStep, hstand]
  case tpHeld =>
    rintro rfl rfl
    simp [tpStep, hstand]

end Sys2Proof.Machine
end

section
/-! PROOFS. Counters (R177, R178, R180). -/

namespace Sys2Proof.Machine

/-! ### The count over the integers (R180) -/

theorem countUp_eq (c : CountBlk) : countUp c = { c with cv := (countUp c).cv } := by
  unfold countUp
  split
  · rfl
  · rfl
theorem countDown_eq (c : CountBlk) : countDown c = { c with cv := (countDown c).cv } := by
  unfold countDown
  split
  · rfl
  · rfl

/-- A count up stays at the greatest value. -/
theorem toInt_countUp (c : CountBlk) :
    (countUp c).cv.toInt = if c.cv.toInt < 2 ^ 31 - 1 then c.cv.toInt + 1 else c.cv.toInt := by
  unfold countUp
  by_cases h : c.cv = 0x7FFFFFFF#32
  · rw [if_pos h, h]
    rfl
  · have hne : c.cv.toInt ≠ 2 ^ 31 - 1 := fun heq => h (BitVec.eq_of_toInt_eq heq)
    have hge := BitVec.le_toInt c.cv
    have hle := BitVec.toInt_le (x := c.cv)
    rw [if_neg h, if_pos (by omega)]
    exact (BitVec.toInt_add c.cv 1#32).trans (Int.bmod_eq_of_le (by simp; omega) (by simp; omega))

/-- A count down stays at the least value. -/
theorem toInt_countDown (c : CountBlk) :
    (countDown c).cv.toInt = if c.cv.toInt > -2 ^ 31 then c.cv.toInt - 1 else c.cv.toInt := by
  unfold countDown
  by_cases h : c.cv = 0x80000000#32
  · rw [if_pos h, h]
    rfl
  · have hne : c.cv.toInt ≠ -2 ^ 31 := fun heq => h (BitVec.eq_of_toInt_eq heq)
    have hge := BitVec.le_toInt c.cv
    have hle := BitVec.toInt_le (x := c.cv)
    rw [if_neg h, if_pos (by omega)]
    exact BitVec.toInt_sub.trans (Int.bmod_eq_of_le (by simp; omega) (by simp; omega))

/-! ### The move of a block (R177, R178) -/

theorem counter_eq (e n p : Nat) (f : Engine → CountBlk → CountBlk) (out : CountBlk → List Bool) : counter e n p f out = (do
    let a ← pop1 e 0
    lskNeed e n p
    let b ← readBlock e a
    let x ← getE e
    let c := f x (countOf b.1 b.2.1 b.2.2.2)
    blkWrite e a c.cv 0 c.w3
    modE e fun x => (out c).foldl (fun x b => lskPush b x) (lskPop n x)) := by
  simp only [counter, readBlock, bind_assoc, pure_bind]

/-- A counter instruction over the block that it has read, which it leaves as `⟨pv, z, cup, cdp⟩`; `m` is the integer that `z` spells. -/
theorem exec_counter {e op cyc n p : Nat} {c : Instr} {f : Engine → CountBlk → CountBlk} {out : CountBlk → List Bool}
    {s t u w v : State} {a pv cv x2 w3 z : Word} {cup cdp : Bool} {m : Int}
    (hc : exec c s = .next (runInsn e (insnTimer op cyc) (counter e n p f out) s)) (hs : Started e (insnTimer op cyc) s t)
    (ht : Takes e 1 0 t [a] u) (hn : n ≤ (eng u e).lskd.toNat) (hp : (eng u e).lskd.toNat - n + p ≤ 32)
    (hr : Runs (readBlock e a) u (pv, cv, x2, w3) w) (hf : f (eng w e) (countOf pv cv w3) = ⟨pv, z, cup, cdp⟩) (hm : z.toInt = m)
    (hw : Runs (blkWrite e a (BitVec.ofInt 32 m) 0 (BitVec.ofNat 32
      (b2n (decide (m ≥ pv.toInt)) + 2 * b2n (decide (m ≤ 0)) + 4 * b2n cup + 8 * b2n cdp))) w () v) :
    exec c s = .next (retire (onEng v e fun x => (out ⟨pv, z, cup, cdp⟩).foldl (fun x b => lskPush b x) (lskPop n x)) e) := by
  subst hm
  rw [BitVec.ofInt_toInt] at hw
  refine exec_retires hc hs ?_ rfl
  rw [counter_eq]
  refine run_bind_of (run_pop1 ht) (run_bind_of (run_lskNeed hn hp) (run_bind_of hr (run_bind_of (run_getE e w) ?_)))
  rw [hf]
  exact run_bind_of hw (run_modE _ _ v)

/-! ### The three counters (R180) -/

section
variable (cu cd r ld : Bool) (c : CountBlk)

theorem ctuStep_eq : ctuStep cu r c = { c with cv := (ctuStep cu r c).cv, cup := cu } := by
  unfold ctuStep
  split
  · rfl
  · split
    · rw [countUp_eq]
    · rfl

theorem toInt_ctuStep : (ctuStep cu r c).cv.toInt =
    if r then 0 else if cu && !c.cup && decide (c.cv.toInt < 2 ^ 31 - 1) then c.cv.toInt + 1 else c.cv.toInt := by
  unfold ctuStep
  cases r
  · cases cu && !c.cup
    · rfl
    · simp [toInt_countUp]
  · rfl

theorem ctdStep_eq : ctdStep cd ld c = { c with cv := (ctdStep cd ld c).cv, cdp := cd } := by
  unfold ctdStep
  split
  · rfl
  · split
    · rw [countDown_eq]
    · rfl

theorem toInt_ctdStep : (ctdStep cd ld c).cv.toInt =
    if ld then c.pv.toInt else if cd && !c.cdp && decide (c.cv.toInt > -2 ^ 31) then c.cv.toInt - 1 else c.cv.toInt := by
  unfold ctdStep
  cases ld
  · cases cd && !c.cdp
    · rfl
    · simp [toInt_countDown]
  · rfl

theorem ctudStep_eq : ctudStep cu cd r ld c = { c with cv := (ctudStep cu cd r ld c).cv, cup := cu, cdp := cd } := by
  unfold ctudStep
  dsimp only
  split
  · rfl
  · split
    · rfl
    · split
      · rw [countUp_eq]
      · split
        · rw [countDown_eq]
        · rfl

theorem toInt_ctudStep : (ctudStep cu cd r ld c).cv.toInt =
    let up := cu && !c.cup
    let dn := cd && !c.cdp
    if r then 0 else if ld then c.pv.toInt
    else if up && !dn then (if true && decide (c.cv.toInt < 2 ^ 31 - 1) then c.cv.toInt + 1 else c.cv.toInt)
    else if dn && !up then (if true && decide (c.cv.toInt > -2 ^ 31) then c.cv.toInt - 1 else c.cv.toInt)
    else c.cv.toInt := by
  unfold ctudStep
  cases r
  · cases ld
    · cases cu && !c.cup
      · cases cd && !c.cdp
        · rfl
        · simp [toInt_countDown]
      · cases cd && !c.cdp
        · simp [toInt_countUp]
        · rfl
    · rfl
  · rfl

end

/-- Settles O21: each counter is the work that they share; the count as an integer is that of the block which it leaves. -/
theorem counterInstructions : Obligations.CounterInstructions := by
  unfold Obligations.CounterInstructions
  intro e s t u a ht pv cv x2 w3 w hr x up dn word
  refine ⟨fun hs h2 h32 => ?ctu, fun hs h2 h32 => ?ctd, fun hs h4 h32 => ?ctud⟩
  case ctu =>
    intro cu n v hw
    have hn : (ctuStep cu (lskBit x 1) (countOf pv cv w3)).cv.toInt = n := toInt_ctuStep ..
    rw [← hn]
    exact (exec_counter (c := .ctu e) rfl hs ht h2 (by omega) hr (ctuStep_eq ..) hn hw :)
  case ctd =>
    intro cd n v hw
    have hn : (ctdStep cd (lskBit x 1) (countOf pv cv w3)).cv.toInt = n := toInt_ctdStep ..
    rw [← hn]
    exact (exec_counter (c := .ctd e) rfl hs ht h2 (by omega) hr (ctdStep_eq ..) hn hw :)
  case ctud =>
    intro cu cd eu ed n v hw
    have hn : (ctudStep cu cd (lskBit x 2) (lskBit x 3) (countOf pv cv w3)).cv.toInt = n := toInt_ctudStep ..
    rw [← hn]
    exact (exec_counter (c := .ctud e) rfl hs ht h4 (by omega) hr (ctudStep_eq ..) hn hw :)

end Sys2Proof.Machine
end

section
/-! PROOFS. Block instructions: single elements, exchanges, and LOCK (R181 to R183, R186). -/

namespace Sys2Proof.Machine

/-! ### The flags of a comparison (R148, R182) -/

/-- A difference overflows where the operands' signs differ and its own is not that of the first. -/
theorem overflow_iff_signs (a b : Word) :
    (decide (sgn a ≠ sgn b) && decide (sgn (a - b) ≠ sgn a)) = outside 32 (a.toInt - b.toInt) := by
  have hsigns : ∀ p q r : Bool, (decide (p ≠ q) && decide (r ≠ p)) = (!p && q && r || p && !q && !r) := by decide
  calc _ = (!a.msb && b.msb && (a - b).msb || a.msb && !b.msb && !(a - b).msb) := hsigns ..
    _ = BitVec.ssubOverflow a b := (BitVec.ssubOverflow_eq a b).symm
    _ = outside 32 (a.toInt - b.toInt) := Bool.or_comm ..

/-- A subtraction without borrow in writes the flags of the difference over the integers. -/
theorem subF_flags (a b : Word) :
    (subF a b false).2 = arith (decide (a.toNat < b.toNat)) (outside 32 (a.toInt - b.toInt)) (a - b) := by
  have hr : a - b - BitVec.ofNat 32 (b2n false) = a - b := BitVec.sub_zero _
  have hn : sgn (a - b) = decide ((a - b).toInt < 0) := BitVec.msb_eq_toInt
  unfold subF arith
  dsimp only
  rw [hr, overflow_iff_signs, hn]
  rfl

/-! ### The work of each family (R181) -/

/-- SRCP and DSTP moved. -/
theorem run_advance (e : Nat) (d d' : Word) (s : State) :
    (advance e d d').run s = .ok ((), onEng s e fun x => { x with srcp := x.srcp + d, dstp := x.dstp + d' }) := run_modE _ _ s

/-- DSTP alone moved. -/
theorem run_advance_dst (e : Nat) (d : Word) (s : State) :
    (advance e 0 d).run s = .ok ((), onEng s e fun x => { x with dstp := x.dstp + d }) := by
  rw [run_advance]
  simp only [BitVec.ofNat_eq_ofNat, BitVec.add_zero]

theorem elCompare_eq (e n : Nat) : elCompare e n = (do
    let x ← getE e
    let p ← (do
      extra e 1
      let a ← load e x.srcp n
      let b ← load e x.dstp n
      pure (a, b))
    writeF e (subF p.1 p.2 false).2
    advance e (BitVec.ofNat 32 n) (BitVec.ofNat 32 n)) := by
  simp only [elCompare, bind_assoc, pure_bind]

section
variable {e n : Nat} {t w x : State}

theorem runs_elMove {v : Word} (d : Word) (hl : Runs (do extra e 1; load e (eng t e).srcp n) t v w)
    (hst : Runs (store e (eng t e).dstp n v) w () x) :
    Runs (elMove e n d) t () (onEng x e fun y => { y with srcp := y.srcp + d, dstp := y.dstp + d }) :=
  run_bind_of (run_getE e t) (run_bind_assoc_of hl (run_bind_of hst (run_advance e d d x)))

theorem runs_elStore {v : Word} (h : Runs (do extra e 1; store e (eng t e).dstp n v) t () w) :
    Runs (elStore e n v) t () (onEng w e fun y => { y with dstp := y.dstp + BitVec.ofNat 32 n }) :=
  run_bind_of (run_getE e t) (run_bind_assoc_of h (run_advance_dst e _ w))

theorem runs_elCompare {a b : Word}
    (h : Runs (do extra e 1; let a ← load e (eng t e).srcp n; let b ← load e (eng t e).dstp n; pure (a, b)) t (a, b) w) :
    Runs (elCompare e n) t () (onEng
      (flagsOnly w e (arith (decide (a.toNat < b.toNat)) (outside 32 (a.toInt - b.toInt)) (a - b))) e
      fun y => { y with srcp := y.srcp + BitVec.ofNat 32 n, dstp := y.dstp + BitVec.ofNat 32 n }) := by
  rw [elCompare_eq, ← subF_flags]
  exact run_bind_of (run_getE e t) (run_bind_of h (run_bind_of (run_modE _ _ w) (run_advance e _ _ _)))

/-- A scan compares with the low byte of the operand where its elements are bytes, else with all of it (R182). -/
theorem runs_elScan {a v m : Word} (hm : (if n = 1 then v &&& 0xFF#32 else v) = v &&& m)
    (h : Runs (do extra e 1; load e (eng t e).dstp n) t a w) :
    let b := v &&& m
    Runs (elScan e n v) t () (onEng
      (flagsOnly w e (arith (decide (a.toNat < b.toNat)) (outside 32 (a.toInt - b.toInt)) (a - b))) e
      fun y => { y with dstp := y.dstp + BitVec.ofNat 32 n }) := by
  dsimp only
  rw [← hm, ← subF_flags]
  exact run_bind_of (run_getE e t) (run_bind_assoc_of h (run_bind_of (run_modE _ _ w) (run_advance_dst e _ _)))

theorem runs_elBitMove {b : Bool} (hr : Runs (do extra e 2; bRead e (eng t e).srcp) t b w)
    (hw : Runs (bWrite e (eng t e).dstp b) w () x) :
    Runs (elBitMove e) t () (onEng x e fun y => { y with srcp := y.srcp + 1, dstp := y.dstp + 1 }) :=
  run_bind_of (run_getE e t) (run_bind_assoc_of hr (run_bind_of hw (run_advance e 1 1 x)))

theorem runs_elBitStore {v : Word} (h : Runs (do extra e 1; bWrite e (eng t e).dstp (bit v 0)) t () w) :
    Runs (elBitStore e v) t () (onEng w e fun y => { y with dstp := y.dstp + 1 }) :=
  run_bind_of (run_getE e t) (run_bind_assoc_of h (run_advance_dst e 1 w))

end

/-! ### From an element to its instruction (R181, R182) -/

section
variable {e op : Nat} {c : Instr} {s t u w : State} (hc : exec c s = .next (runInsn e (insnBlock op) (blockOnce e op) s))
  (hs : Started e (insnBlock op) s t)
include hc hs

/-- An unprefixed block instruction that holds no operand is one element. -/
theorem exec_blockOnce (hh : blockHolds op = false) (hb : Runs (blockElem e op 0) t () w) : exec c s = .next (retire w e) := by
  refine exec_retires hc hs ?_ rfl
  unfold blockOnce
  rw [hh]
  exact hb

/-- One that holds an operand pops it first. -/
theorem exec_blockOnce_held {a : Word} (hh : blockHolds op = true) (ht : Takes e 1 0 t [a] u)
    (hb : Runs (blockElem e op a) u () w) : exec c s = .next (retire w e) := by
  refine exec_retires hc hs ?_ rfl
  unfold blockOnce
  rw [hh]
  exact run_bind_of (run_pop1 ht) hb

end

/-- Settles O22: each instruction is one element of its family. -/
theorem blockElements : Obligations.BlockElements := by
  unfold Obligations.BlockElements
  intro e ins move fill cmp compare scan
  refine ⟨?movb, ?movw, ?movwd, ?stob, ?stow, ?cmpb, ?cmpw, ?scab, ?scaw, ?bmov, ?bsto⟩
  case movb => exact fun s t w v x hs hl hst => exec_blockOnce rfl hs rfl (runs_elMove 1 hl hst)
  case movw => exact fun s t w v x hs hl hst => exec_blockOnce rfl hs rfl (runs_elMove 4 hl hst)
  case movwd => exact fun s t w v x hs hl hst => exec_blockOnce rfl hs rfl (runs_elMove (-4) hl hst)
  case stob => exact fun s t u w a hs ht h => exec_blockOnce_held rfl hs rfl ht (runs_elStore h)
  case stow => exact fun s t u w a hs ht h => exec_blockOnce_held rfl hs rfl ht (runs_elStore h)
  case cmpb => exact fun s t w a b hs h => exec_blockOnce rfl hs rfl (runs_elCompare h)
  case cmpw => exact fun s t w a b hs h => exec_blockOnce rfl hs rfl (runs_elCompare h)
  case scab => exact fun s t u w x a hs ht h => exec_blockOnce_held rfl hs rfl ht (runs_elScan rfl h)
  case scaw =>
    exact fun s t u w x a hs ht h => exec_blockOnce_held rfl hs rfl ht (runs_elScan (BitVec.and_allOnes (x := x)).symm h)
  case bmov => exact fun s t w x b hs hr hw => exec_blockOnce rfl hs rfl (runs_elBitMove hr hw)
  case bsto => exact fun s t u w a hs ht h => exec_blockOnce_held rfl hs rfl ht (runs_elBitStore h)

/-! ### Exchanges (R181, R186) -/

section
variable {e : Nat} {f : Word → Word → Word} {x a y : Word} {t u w : State}

/-- A checked word read, written and pushed as it was. -/
theorem runs_swapWord {check : EM Unit} {g : Word → Word}
    (h : Runs (do check; let y ← readRaw e a.toNat 4; writeRaw e a.toNat 4 (g y); pure y) u y w) :
    Runs (do check; swapWord e a g) u () (push w e [y]) := by
  have hsplit : (do check; swapWord e a g : EM Unit) =
      (do check; let y ← readRaw e a.toNat 4; writeRaw e a.toNat 4 (g y); pure y) >>= fun y => pushN e [y] := by
    simp only [swapWord, bind_assoc, pure_bind]
  rw [hsplit]
  exact run_bind_of h (run_pushN e [y] w)

theorem runs_rmwWord (ht : Takes e 2 1 t [a, x] u)
    (h : Runs (do
      checkAccess e a.toNat 4 (needR + needW) [1, 2, 3]
      let y ← readRaw e a.toNat 4
      writeRaw e a.toNat 4 (f x y)
      pure y) u y w) : Runs (rmwWord e f) t () (push w e [y]) :=
  run_bind_of (run_pop2 ht) (runs_swapWord h)

/-- LOCK on a word that is not in outer memory. -/
theorem runs_lockWord (ht : Takes e 2 1 t [a, x] u) (hp : placeOf a.toNat ≠ .outer)
    (h : Runs (do
      checkStrict e a.toNat (needR + needW) [1, 2, 3]
      let y ← readRaw e a.toNat 4
      writeRaw e a.toNat 4 (f x y)
      pure y) u y w) : Runs (lockWord e f) t () (push w e [y]) := by
  obtain ⟨_, v, hcheck, hrest⟩ := run_bind_inv h
  refine run_bind_of (run_pop2 ht) (run_bind_of hcheck (run_bind_of (run_get v) ?_))
  split
  · next houter => exact absurd houter hp
  · exact runs_swapWord (check := pure ()) hrest

/-- LOCK on a word of outer memory, which its check has passed. -/
theorem run_lockWord_outer (ht : Takes e 2 1 t [a, x] u) (hp : placeOf a.toNat = .outer)
    (h : Runs (checkStrict e a.toNat (needR + needW) [1, 2, 3]) u () w) : (lockWord e f).run t = .error (.fault vData
      (some (mkDenial (engReq w e) (tcodeOf w a.toNat) (needR + needW) spData false a.toNat)) w.dbg) := by
  refine run_bind_of (run_pop2 ht) (run_bind_of h (run_bind_of (run_get w) ?_))
  rw [hp]
  rfl

end

/-- LOCK before a byte that is neither XCHW's nor ADDW's has no microcode and no work but the fault (R184). -/
theorem exec_lock_unlisted {e : Eng} {op : Byte} {imm : Word} {s : State} (hx : op ≠ 0xCB) (ha : op ≠ 0xCC) :
    exec (.lock e op imm) s = .next (runInsn e { len := 1 + insnLen op.toNat, cyc := 2 } (raise vIllegal) s) := by
  have hxchw : op.toNat ≠ 0xCB := fun h => hx (BitVec.eq_of_toNat_eq h)
  have haddw : op.toNat ≠ 0xCC := fun h => ha (BitVec.eq_of_toNat_eq h)
  have hlisted : lockAccepts op.toNat = false := by simp [lockAccepts, hxchw, haddw]
  show execLock e op imm s = _
  rw [execLock, bodyLock, if_neg hxchw, if_neg haddw, hlisted]
  rfl

/-- Settles O23: XCHW and ADDW are one exchange, with the check of each form; ADDW's sum commutes. -/
theorem exchangeAndLock : Obligations.ExchangeAndLock := by
  unfold Obligations.ExchangeAndLock
  intro e imm rmw ins
  have hadd : (fun x y : Word => y + x) = fun x y => x + y := funext fun x => funext fun y => BitVec.add_comm y x
  refine ⟨fun s t u w x a y hs ht h => ?xchw, fun s t u w x a y hs ht h => ?addw,
    fun s t u w x a y hp => ⟨fun hs ht h => ?lockXchw, fun hs ht h => ?lockAddw⟩,
    fun s t u w x a hp op hop hs ht h => ?outer, fun op s t hx ha hs => ?illegal⟩
  case xchw => exact exec_retires (body := bodyXchw e) rfl hs (runs_rmwWord ht h) rfl
  case addw =>
    have hrun := runs_rmwWord (f := fun x y => x + y) ht h
    rw [← hadd] at hrun
    exact exec_retires (body := bodyAddw e) rfl hs hrun rfl
  case lockXchw =>
    have hrun := runs_lockWord (f := fun x _ => x) ht hp h
    exact exec_retires (body := bodyLock e 0xCB) rfl hs hrun rfl
  case lockAddw =>
    have hrun := runs_lockWord (f := fun x y => x + y) ht hp h
    rw [← hadd] at hrun
    exact exec_retires (body := bodyLock e 0xCC) rfl hs hrun rfl
  case outer =>
    rcases hop with rfl | rfl
    · exact exec_faults (body := bodyLock e 0xCB) rfl hs (run_lockWord_outer (f := fun x _ => x) ht hp h)
    · exact exec_faults (body := bodyLock e 0xCC) rfl hs (run_lockWord_outer (f := fun x y => y + x) ht hp h)
  case illegal => exact exec_faults (exec_lock_unlisted hx ha) hs (run_raise _ _ t)

end Sys2Proof.Machine
end

section
/-! PROOFS. Repeated block instructions (R184, R185, R187, R188). -/

namespace Sys2Proof.Machine

/-! ### The loop (R187) -/

/-- The state once RCNT has counted an element. -/
def counted (s : State) (e : Nat) : State := onEng s e fun x => { x with rcnt := x.rcnt - 1 }

theorem rcnt_counted {e j : Nat} {u : State} (h : (eng u e).rcnt = BitVec.ofNat 32 (j + 1)) :
    (eng (counted u e) e).rcnt = BitVec.ofNat 32 j := by
  rw [counted, eng_onEng]
  show (eng u e).rcnt - 1#32 = BitVec.ofNat 32 j
  rw [h, BitVec.ofNat_add, BitVec.add_sub_cancel]

section
variable {e fuel k : Nat} {el : EM Unit} {zEnd : Option Bool} {s u : State} (h : Runs el s () u)
include h

/-- After an element the loop ends, stops at a point to resume at, or goes on. -/
theorem repLoop_succ : repLoop e el zEnd (fuel + 1) k s =
    if (eng (counted u e) e).rcnt = 0 then (counted u e, .finished)
    else if zEnd = some (bit (eng (counted u e) e).stat stZ) then (counted u e, .finished)
    else if k = 15 then if repPending (counted u e) e then (counted u e, .resumable) else repLoop e el zEnd fuel 0 (counted u e)
    else repLoop e el zEnd fuel (k + 1) (counted u e) := by
  have hrun : el.run s = .ok ((), u) := h
  rw [repLoop, hrun]
  rfl

theorem repLoop_ends (hend : (eng (counted u e) e).rcnt = 0 ∨ zEnd = some (bit (eng (counted u e) e).stat stZ)) :
    repLoop e el zEnd (fuel + 1) k s = (counted u e, .finished) := by
  rw [repLoop_succ h]
  rcases hend with h0 | hz
  · rw [if_pos h0]
  · rw [if_pos hz, ite_self]

/-- The counter of elements goes round in sixteens. -/
theorem repLoop_continues (hleft : (eng (counted u e) e).rcnt ≠ 0) (hz : zEnd ≠ some (bit (eng (counted u e) e).stat stZ))
    (hpending : k % 16 = 15 → repPending (counted u e) e = false) :
    repLoop e el zEnd (fuel + 1) (k % 16) s = repLoop e el zEnd fuel ((k + 1) % 16) (counted u e) := by
  rw [repLoop_succ h, if_neg hleft, if_neg hz]
  by_cases hk : k % 16 = 15
  · rw [if_pos hk, hpending hk, if_neg (by decide), show (k + 1) % 16 = 0 by omega]
  · rw [if_neg hk, show (k + 1) % 16 = k % 16 + 1 by omega]

end

/-- The loop over elements that run: it ends with the last of them, where RCNT has reached 0 or Z has the value that ends it. -/
theorem repLoop_elements {e op m : Nat} {v : Word} {zEnd : Option Bool} {t : State} (n : Nat) :
    ∀ (k : Nat) (s : State), n + 1 + m < 2 ^ 32 → Elements e op v zEnd m k (n + 1) s t →
      (m = 0 ∨ zEnd = some (bit (eng t e).stat stZ)) →
      repLoop e (blockElem e op v) zEnd (n + 1 + m) (k % 16) s = (t, .finished) := by
  induction n with
  | zero =>
    rintro k s - ⟨u, hel, hcount, -, ht⟩ hend
    have hlast : t = counted u e := ht
    subst hlast
    rw [Nat.add_comm (0 + 1)] at hcount ⊢
    refine repLoop_ends hel (hend.imp_left fun hm => ?_)
    rw [rcnt_counted hcount, hm]
    rfl
  | succ n ih =>
    rintro k s hlt ⟨u, hel, hcount, hgo, hrest⟩ hend
    obtain ⟨hz, hpending⟩ := hgo (Nat.succ_ne_zero n)
    rw [Nat.add_right_comm (n + 1)] at hcount hlt ⊢
    have hleft : (eng (counted u e) e).rcnt ≠ 0 := by
      rw [rcnt_counted hcount]
      bv_omega
    rw [repLoop_continues hel hleft hz hpending]
    exact ih (k + 1) _ (by omega) hrest hend

/-! ### The end of a repeated instruction, and the pairings not listed (R184) -/

theorem runRep_finished {e op : Nat} {zEnd : Option Bool} {s s1 t : State} {v : Word} (hi : canIssue s e = true)
    (hd : (eng s e).dueTrap = none) (hentry : Runs (repEntry e op true) s v s1)
    (hloop : repLoop e (blockElem e op v) zEnd (eng s1 e).rcnt.toNat 0 s1 = (t, .finished)) :
    runRep e op true zEnd s = afterRetire (onEng t e fun x => repFinish x op) e := by
  have hrun : (repEntry e op true).run s = .ok (v, s1) := hentry
  unfold runRep
  rw [hi, hd, hrun]
  dsimp only
  rw [hloop]
  rfl

theorem runRep_illegal {e op : Nat} {zEnd : Option Bool} {s t : State} (hi : canIssue s e = true) (hd : (eng s e).dueTrap = none)
    (hfetch : (do applyHits e (cmpHits s e [0] (eng s e).pc.toNat); fetchInsn e (eng s e).pc (1 + insnLen op) : EM Unit).run s
      = .ok ((), t)) : runRep e op false zEnd s = takeFault s e vIllegal none t.dbg := by
  have hentry : (repEntry e op false).run s = .error (.fault vIllegal none t.dbg) :=
    run_bind_of (run_get s) (run_bind_of (run_getE e s) (run_bind_assoc_of hfetch (run_bind_error (run_raise _ _ _))))
  unfold runRep
  rw [hi, hd, hentry]
  rfl

/-- Settles O24: a listed pairing enters and loops, element by element; another is illegal once it is fetched. -/
theorem repetition : Obligations.Repetition := by
  unfold Obligations.Repetition
  intro e op imm s s1 t v hi hd c ok zEnd hc
  have hexec : exec c s = .next (runRep e op.toNat ok zEnd s) := by
    rcases hc with ⟨rfl, rfl, rfl⟩ | ⟨rfl, rfl, rfl⟩ | ⟨rfl, rfl, rfl⟩
    · rfl
    · rfl
    · rfl
  refine ⟨?listed, ?unlisted⟩
  case listed =>
    rintro rfl hentry n m hcount hels hend
    have hloop : repLoop e (blockElem e op.toNat v) zEnd (n + m) 0 s1 = (t, .finished) := by
      cases n with
      | zero =>
        obtain rfl : m = 0 := hend.resolve_right fun h => h.1 rfl
        obtain rfl : t = s1 := hels
        rfl
      | succ n => exact repLoop_elements n 0 s1 (hcount ▸ (eng s1 e).rcnt.isLt) hels (hend.imp_right And.right)
    rw [← hcount] at hloop
    rw [hexec, runRep_finished hi hd hentry hloop]
  case unlisted =>
    rintro rfl g hfetch rfl
    rw [hexec, runRep_illegal hi hd hfetch]

end Sys2Proof.Machine
end

section
/-! PROOFS. The return from an exception, and its entry on the Supervisor stack (R195, R196, R201). -/

namespace Sys2Proof.Machine

/-! ### RETX (R201) -/

/-- The STAT of a frame raises no level and changes no world (R201). -/
abbrev ReturnFits (st cur : Word) : Prop := bit st stW = bit cur stW ∧ (bit st stS = true → bit cur stS = true)

/-- The check of RETX as it is written. -/
theorem returnRefused_iff (st cur : Word) :
    ((decide (bit st stW ≠ bit cur stW) || (bit st stS && !bit cur stS)) = true) ↔ ¬ ReturnFits st cur := by
  unfold ReturnFits
  cases bit st stS <;> cases bit cur stS <;> simp

/-- An instruction that keeps RPA retires with its registers as its work left them. -/
theorem exec_retires_keepRpa {e : Nat} {c : Instr} {i : Insn} {body : EM Unit} {s t u : State} (hc : exec c s = .next (runInsn e i body s))
    (h : Started e i s t) (hb : Runs body t () u) (hk : i.keepRpa = true) : exec c s = .next (afterRetire u e) := by
  obtain ⟨hissue, hdue, hstart⟩ := h
  have hrun : (issue e i body).run s = .ok ((), u) := by
    refine run_bind_of hstart (run_bind_of hb ?_)
    rw [endInsn, if_pos hk, run_pure]
  rw [hc, runInsn, hissue, hdue, hrun]
  rfl

section
variable {e : Nat} {t u1 u2 u3 w : State} {pc st : Word}

/-- The registers after a return from a frame at `sp`: at User level IE and IPL keep their values. -/
def returned (x : Engine) (sp pc st : Word) (y : Engine) : Engine :=
  { ersPut y (rspReg (xVital y) (xSup y)) (sp + 8) with
    stat := (if bit x.stat stS then st else putFld (putBit st stIE (bit x.stat stIE)) 23 16 (fld x.stat 23 16)) &&& 0x00FF0FFF
    rsv := putBit y.rsv 0 false, pc := pc }

/-- Once both words of the frame are read, RETX returns or raises by the saved STAT alone. -/
theorem run_doRetx (hpc : Runs (checkAccess e (rspOf (eng t e)).toNat 4 needR [1, 3]) t () u1)
    (hst : Runs (checkAccess e (rspOf (eng t e) + 4).toNat 4 needR [1, 3]) u1 () u2)
    (hrpc : Runs (readRaw e (rspOf (eng t e)).toNat 4) u2 pc u3) (hrst : Runs (readRaw e (rspOf (eng t e) + 4).toNat 4) u3 st w) :
    (doRetx e).run t =
      if ReturnFits st (eng t e).stat then .ok ((), onEng w e (returned (eng t e) (rspOf (eng t e)) pc st))
      else .error (.fault vRetPriv none w.dbg) := by
  refine run_bind_of (run_getE e t) (run_bind_of hpc (run_bind_of hst (run_bind_of hrpc (run_bind_of hrst ?_))))
  by_cases h : ReturnFits st (eng t e).stat
  · rw [if_pos h, if_neg (fun hn => (returnRefused_iff _ _).mp hn h)]
    exact run_modE _ _ w
  · rw [if_neg h, if_pos ((returnRefused_iff _ _).mpr h)]
    exact run_bind_error (run_raise _ _ _)

end

/-- Settles O27: the work of RETX is its frame, and then the taken transfer to the saved PC. -/
theorem returnFromException : Obligations.ReturnFromException := by
  unfold Obligations.ReturnFromException
  intro e s t u1 u2 u3 w pc st hs x sp hpc hst hrpc hrst
  have hrun := run_doRetx hpc hst hrpc hrst
  refine ⟨fun hfits => ?returns, fun hfits => ?refused⟩
  case returns =>
    rw [if_pos hfits] at hrun
    refine exec_retires_keepRpa (body := bodyRetx e) rfl hs ?_ rfl
    refine run_bind_of (run_getE e t) (run_bind_of hrun (run_bind_of (run_getE e _) ?_))
    rw [eng_onEng]
    exact run_modS _ _
  case refused =>
    rw [if_neg hfits] at hrun
    exact exec_faults (body := bodyRetx e) rfl hs (run_bind_of (run_getE e t) (run_bind_error hrun))

/-! ### Exception entry (R195, R196) -/

/-- The return stack pointer of an engine's world at Supervisor level (R195). -/
abbrev supSp (x : Engine) : Word := ersGet x (rspReg (xVital x) true)

section
variable {e : Nat} {k : Entry} {s u w : State} {pcS stS' : Word} {cyc : Nat}

/-- Where the Supervisor stack has room and is granted, an entry stores its frame there and enters its vector. -/
theorem runs_takeException (hin : (eng s e).inEntry = false)
    (hroom : (ersGet (eng s e) (rslReg (xVital (eng s e)) true)).toNat ≤ (supSp (eng s e) - 8#32).toNat)
    (hsup : checkSup s e needW [(supSp (eng s e) - 8#32).toNat, (supSp (eng s e) - 4#32).toNat] = none)
    (hst : Runs (writeRaw e (supSp (eng s e) - 4#32).toNat 4 stS')
      (onEng (charge s e cyc 0) e fun y => ersPut y (rspReg (xVital (eng s e)) true) (supSp (eng s e) - 8#32)) () u)
    (hpc : Runs (writeRaw e (supSp (eng s e) - 8#32).toNat 4 pcS) u () w) :
    Runs (takeException e k pcS stS' cyc) s () (onEng w e fun z => entered z k k) := by
  refine run_bind_of (run_getE e s) ?_
  rw [if_neg (by simp [hin])]
  refine run_bind_of (run_get s) (run_bind_of (run_modS _ s) ?_)
  rw [decide_eq_false (Nat.not_lt.mpr hroom), if_neg Bool.false_ne_true, hsup, if_pos (by rfl)]
  exact run_bind_of (run_modE _ _ _) (run_bind_of hst (run_bind_of hpc (run_modE _ _ w)))

theorem runEntry_of_runs {v : State} (h : Runs (takeException e k pcS stS' cyc) s () v) : runEntry s e k pcS stS' cyc = v := by
  have hrun : (takeException e k pcS stS' cyc).run s = .ok ((), v) := h
  rw [runEntry, hrun]

end

/-- The vectors of R190 and R191 as offsets from the base of the world's table. -/
theorem Entry.target_eq (b : Word) (k : Entry) : k.target b = b +
    (match k with | .vec n => BitVec.ofNat 32 (16 * n) | .svc n => BitVec.ofNat 32 (0x800 + 8 * n) | .irq _ => 0xC0#32) := by
  cases k with
  | vec n => rfl
  | svc n =>
    show b + 0x800#32 + BitVec.ofNat 32 (8 * n) = b + BitVec.ofNat 32 (0x800 + 8 * n)
    rw [BitVec.add_assoc, BitVec.ofNat_add]
  | irq l => rfl

/-- The bits of STAT that every entry sets or clears. -/
def entryBits (st : Word) : Word := putBit (putBit (putBit st stS true) stIE false) stRPA false

theorem entryStat_irq (st : Word) (l : Nat) : entryStat st (.irq l) = putFld (entryBits st) 23 16 l := rfl
theorem entryStat_of_ne_irq {k : Entry} (h : ∀ l, k ≠ .irq l) (st : Word) : entryStat st k = entryBits st := by
  cases k with
  | vec n => rfl
  | svc n => rfl
  | irq l => exact absurd rfl (h l)

theorem bit_entryBits (st : Word) {i : Nat} (hi : i < 32) :
    bit (entryBits st) i = if i = stRPA then false else if i = stIE then false else if i = stS then true else bit st i := by
  rw [entryBits, bit_putBit hi, bit_putBit hi, bit_putBit hi]

/-- Outside IPL the bits are those that every entry gives. -/
theorem bit_entryStat (st : Word) (k : Entry) {i : Nat} (hi : i < 32) (h : i < 16 ∨ 24 ≤ i) :
    bit (entryStat st k) i = bit (entryBits st) i := by
  cases k with
  | vec n => rfl
  | svc n => rfl
  | irq l => rw [entryStat_irq, bit_putFld (by decide) hi, if_neg (by omega)]

theorem fld_entryBits_ipl (st : Word) : fld (entryBits st) 23 16 = fld st 23 16 := by
  have h (w : Word) {i : Nat} (b : Bool) (hi : i < 16) : fld (putBit w i b) 23 16 = fld w 23 16 :=
    fld_putBit (by decide) (by decide) (.inl hi)
  rw [entryBits, h _ _ (by decide), h _ _ (by decide), h _ _ (by decide)]

/-- Settles O30: the entry runs, and what it makes of STAT is read bit by bit. -/
theorem exceptionEntry : Obligations.ExceptionEntry := by
  unfold Obligations.ExceptionEntry
  intro e k s t u w pcS stS' cyc x r sp hin hroom hsup ht hst hpc
  subst ht
  have hrun := runs_takeException (k := k) hin hroom hsup hst hpc
  refine ⟨_, hrun, runEntry_of_runs hrun, ?_⟩
  rw [eng_onEng]
  have hbit {i : Nat} (hi : i < 16) := bit_entryStat (eng w e).stat k (Nat.lt_trans hi (by decide)) (.inl hi)
  refine ⟨rfl, ?_⟩
  intro y z
  refine ⟨Entry.target_eq _ k, ?level, ?enable, ?resumed, ?reserved, fun i hS hIE hRPA hi => ?rest, fun l hl => ?irq, fun hk => ?ipl, rfl⟩
  case level => exact (hbit (by decide)).trans (bit_entryBits _ (by decide))
  case enable => exact (hbit (by decide)).trans (bit_entryBits _ (by decide))
  case resumed => exact (hbit (by decide)).trans (bit_entryBits _ (by decide))
  case reserved => exact (bit_putBit (by decide)).trans (if_pos rfl)
  case rest =>
    by_cases h32 : i < 32
    · refine (bit_entryStat _ k h32 hi).trans ?_
      rw [bit_entryBits _ h32, if_neg hRPA, if_neg hIE, if_neg hS]
    · have hz (v : Word) : bit v i = false := BitVec.getLsbD_of_ge v i (Nat.not_lt.mp h32)
      rw [hz, hz]
  case irq =>
    subst hl
    exact fld_putFld (by decide) (by decide)
  case ipl =>
    exact (congrArg (fld · 23 16) (entryStat_of_ne_irq hk _)).trans (fld_entryBits_ipl _)

end Sys2Proof.Machine
end

section
/-! PROOFS. Fault records: what a record holds, and what it leaves (R411, R412, R424). -/

namespace Sys2Proof.Machine

/-! ### Word 0 (R411) -/

theorem faultWord0_toNat (r : FaultInfo) : (faultWord0 r).toNat =
    r.code.toNat + r.scope.toNat * 2 ^ 8 + b2n r.masked * 2 ^ 11 + b2n r.discard * 2 ^ 12 + r.master.toNat * 2 ^ 16 + r.app.toNat * 2 ^ 22
      + r.grove.toNat * 2 ^ 27 := by
  have hmasked := b2n_le r.masked
  have hdiscard := b2n_le r.discard
  rw [faultWord0, BitVec.toNat_ofNat]
  exact Nat.mod_eq_of_lt (by omega)

theorem b2n_eq_one (b : Bool) : decide (b2n b = 1) = b := by cases b <;> rfl

/-- Each field of word 0 reads what the record was given. -/
theorem faultWord0_fields (r : FaultInfo) :
    fld (faultWord0 r) 7 0 = r.code.toNat ∧ fld (faultWord0 r) 10 8 = r.scope.toNat ∧ bit (faultWord0 r) 11 = r.masked ∧
    bit (faultWord0 r) 12 = r.discard ∧ fld (faultWord0 r) 21 16 = r.master.toNat ∧ fld (faultWord0 r) 26 22 = r.app.toNat ∧
    fld (faultWord0 r) 30 27 = r.grove.toNat := by
  have hmasked := b2n_le r.masked
  have hdiscard := b2n_le r.discard
  have hword := faultWord0_toNat r
  have hbit {i : Nat} {b : Bool} (h : (faultWord0 r).toNat / 2 ^ i % 2 = b2n b) : bit (faultWord0 r) i = b := by
    rw [bit_eq_decide, h, b2n_eq_one]
  simp only [fld_eq_div]
  exact ⟨by omega, by omega, hbit (by omega), hbit (by omega), by omega, by omega, by omega⟩

/-! ### The eight words (R411, R412) -/

theorem dbl_lo32_hi32 (d : Dbl) : dbl (lo32 d) (hi32 d) = d := by
  refine BitVec.eq_of_getLsbD_eq fun i hi => ?_
  simp only [dbl, lo32, hi32, BitVec.getLsbD_append, BitVec.getLsbD_extractLsb']
  by_cases h : i < 32
  · simp [h]
  · simp [h, show i - 32 < 32 by omega, show 32 + (i - 32) = i by omega]

/-- The words of the next record but its check value. -/
def recordBody (s : State) (r : FaultInfo) : List Word :=
  [faultWord0 r, lo32 s.tb.now, hi32 s.tb.now, rd s Reg.schedCycl, r.addr, r.info, rd s Reg.fltHead]
def recordWords (s : State) (r : FaultInfo) : List Word := recordBody s r ++ [crc32c (recordBody s r)]

/-- FLT with one record more, the next sequence number and the count. -/
def recordStored (s : State) (r : FaultInfo) : State :=
  wf (wr { s with flt := s.flt ++ [recordWords s r] } Reg.fltHead (rd s Reg.fltHead + 1)) Reg.fltStat 14 8 (s.flt.length + 1)

section
variable {s : State} (r : FaultInfo)

theorem record_of_room (h : s.flt.length < 64) :
    record s r = pushEvent (recordStored s r) 1 r.code.toNat ((rd s Reg.fltHead).toNat % 0x8000) := by
  have hlen : (s.flt ++ [recordWords s r]).length = s.flt.length + 1 := List.length_append
  rw [record, if_neg (Nat.not_le.mpr h), recordStored, ← hlen]
  rfl

theorem record_of_full (h : 64 ≤ s.flt.length) : record s r = sb (bump s Reg.fltLost 15 0 1) Reg.fltStat 0 true := by
  rw [record, if_pos h]

theorem flt_record (h : s.flt.length < 64) : (record s r).flt = s.flt ++ [recordWords s r] := by
  obtain ⟨_, _, he⟩ := pushEvent_eq (recordStored s r) 1 r.code.toNat ((rd s Reg.fltHead).toNat % 0x8000)
  rw [record_of_room r h, he]
  rfl

theorem rd_record (h : s.flt.length < 64) (a : Nat) : rd (record s r) a = rd (recordStored s r) a := by
  obtain ⟨_, _, he⟩ := pushEvent_eq (recordStored s r) 1 r.code.toNat ((rd s Reg.fltHead).toNat % 0x8000)
  rw [record_of_room r h, he]
  rfl

theorem fltHead_record (h : s.flt.length < 64) : rd (record s r) Reg.fltHead = rd s Reg.fltHead + 1 := by
  rw [rd_record r h, recordStored, rd_wf_ne _ _ _ _ (by decide), rd_wr]

theorem fltCount_record (h : s.flt.length < 64) : rf (record s r) Reg.fltStat 14 8 = s.flt.length + 1 := by
  rw [rf, rd_record r h, recordStored, wf, rd_wr, fld_putFld (by decide) (by decide)]
  exact Nat.mod_eq_of_lt (by omega)

theorem length_evq_pushEvent {k x d : Nat} (hw : s.wspStopped = false) (h : s.evq.length < 32) :
    (pushEvent s k x d).evq.length = s.evq.length + 1 := by
  rw [pushEvent, if_neg (by simp [hw]), if_neg (Nat.not_le.mpr h)]
  exact List.length_append

/-- R411, R412, R424: a record with room. -/
theorem record_stores (h : s.flt.length < 64) : (∃ w, (record s r).flt = s.flt ++ [w] ∧ w.length = 8 ∧
      fld (nth w 0) 7 0 = r.code.toNat ∧ fld (nth w 0) 10 8 = r.scope.toNat ∧ bit (nth w 0) 11 = r.masked ∧
      bit (nth w 0) 12 = r.discard ∧ fld (nth w 0) 21 16 = r.master.toNat ∧ fld (nth w 0) 26 22 = r.app.toNat ∧
      fld (nth w 0) 30 27 = r.grove.toNat ∧ dbl (nth w 1) (nth w 2) = s.tb.now ∧ nth w 3 = rd s Reg.schedCycl ∧ nth w 4 = r.addr ∧
      nth w 5 = r.info ∧ nth w 6 = rd s Reg.fltHead ∧ nth w 7 = crc32c (w.take 7)) ∧
    rd (record s r) Reg.fltHead = rd s Reg.fltHead + 1 ∧ rf (record s r) Reg.fltStat 14 8 = s.flt.length + 1 ∧
    (s.wspStopped = false → s.evq.length < 32 → (record s r).evq.length = s.evq.length + 1) := by
  obtain ⟨hcode, hscope, hmasked, hdiscard, hmaster, happ, hgrove⟩ := faultWord0_fields r
  refine ⟨⟨recordWords s r, flt_record r h, rfl, hcode, hscope, hmasked, hdiscard, hmaster, happ, hgrove, dbl_lo32_hi32 _, rfl, rfl, rfl,
    rfl, rfl⟩, fltHead_record r h, fltCount_record r h, fun hw he => ?_⟩
  rw [record_of_room r h]
  exact length_evq_pushEvent (s := recordStored s r) hw he

/-- R412: a record that finds 64 held. -/
theorem record_lost (h : 64 ≤ s.flt.length) : (record s r).flt = s.flt ∧ rd (record s r) Reg.fltHead = rd s Reg.fltHead ∧
    rf (record s r) Reg.fltLost 15 0 = min 0xFFFF (rf s Reg.fltLost 15 0 + 1) ∧ rb (record s r) Reg.fltStat 0 = true := by
  rw [record_of_full r h]
  refine ⟨rfl, ?head, ?lost, ?flag⟩
  case head => rw [rd_sb_ne _ _ _ (by decide), bump, rd_wf_ne _ _ _ _ (by decide)]
  case lost =>
    have hsat (n : Nat) : satAdd 0xFFFF n 1 = min 0xFFFF (n + 1) := by
      unfold satAdd
      split <;> omega
    rw [rf, rd_sb_ne _ _ _ (by decide), bump, wf, rd_wr, fld_putFld (by decide) (by decide)]
    rw [show 2 ^ (15 - 0 + 1) - 1 = 0xFFFF from rfl, hsat]
    exact Nat.mod_eq_of_lt (by omega)
  case flag => rw [rb_sb _ _ _ (by decide), if_pos rfl]

end

/-! ### What a record leaves -/

theorem background_safeReq : Background State.safeReq := by constructor <;> intros <;> rfl
theorem background_fenceReq : Background State.fenceReq := by constructor <;> intros <;> rfl
theorem background_wspStopped : Background State.wspStopped := by constructor <;> intros <;> rfl

/-- A record of a code that is added while there is room. -/
theorem record_adds {s : State} (r : FaultInfo) {n : Nat} (hn : r.code.toNat = n) (h : s.flt.length < 64) :
    ∃ w, (record s r).flt = s.flt ++ [w] ∧ fld (nth w 0) 7 0 = n :=
  ⟨_, flt_record r h, (faultWord0_fields r).1.trans hn⟩

/-- A request for Safe Hold stands, or is made (R27, R408). -/
theorem askSafeHold_eq (s : State) (cause : Nat) : askSafeHold s cause = { s with safeReq := some (s.safeReq.getD cause) } := by
  unfold askSafeHold
  split
  · next h => rw [h, Option.getD_some, ← h]
  · next h => rw [h, Option.getD_none]

/-- A fault that is recorded and asks for Safe Hold. -/
theorem askSafeHold_record {s : State} (r : FaultInfo) (cause : Nat) {n : Nat} (hn : r.code.toNat = n) :
    (askSafeHold (record s r) cause).safeReq = some (s.safeReq.getD cause) ∧
    (s.flt.length < 64 → ∃ w, (askSafeHold (record s r) cause).flt = s.flt ++ [w] ∧ fld (nth w 0) 7 0 = n) := by
  rw [askSafeHold_eq]
  exact ⟨by rw [background_safeReq.record], record_adds r hn⟩

end Sys2Proof.Machine
end

section
/-! PROOFS. Views of the state that the ring's own work leaves alone: frames sent, reports taken up (R290, R300). -/

namespace Sys2Proof.Machine

/-- Registers that the ring writes on its own account as it sends frames and takes up reports. -/
def ringReg (a : Nat) : Bool := [Reg.shrErra, Reg.shrErrb, Reg.shrStat].contains a

/-- A view of the state that the ring's own work leaves alone. -/
structure RingWork {α : Type} (view : State → α) : Prop where
  wr (s : State) (a : Nat) (v : Word) (h : ringReg a = true) : view (wr s a v) = view s
  shr (s : State) (x : Shr) : view { s with shr := x } = view s

section
variable {α : Type} {view : State → α} (h : RingWork view)
include h

namespace RingWork

theorem enq (s : State) (p : Port) (f : TxFrame) : view (Machine.enq s p f) = view s :=
  view_ite (h.wr _ _ _ (by cases p <;> decide)) (h.shr _ _)

theorem sendVia (s : State) (p : Port) (f : TxFrame) : view (Machine.sendVia s p f) = view s :=
  view_ite (h.enq _ _ _) (view_ite rfl (h.enq _ _ _))

theorem originate (s : State) (typ sub dA dB : Nat) (a b nw : Bool) (ts : Word) (pay : List Word) :
    view (Machine.originate s typ sub dA dB a b nw ts pay) = view s := by
  have hseq : view (nextSeq s typ sub).2 = view s := h.shr _ _
  have ha (f : TxFrame) : view (if a then Machine.sendVia (nextSeq s typ sub).2 .a f else (nextSeq s typ sub).2) = view s :=
    view_ite ((h.sendVia _ _ _).trans hseq) hseq
  exact view_ite rfl (view_ite ((h.sendVia _ _ _).trans (ha _)) (ha _))

theorem addReport (s : State) (r : Report) : view (Machine.addReport s r) = view s := by
  have happly (t : State) : view (applyReport t r) = view t := by
    cases r with
    | topo a b l => exact h.shr _ _
    | link a b n o pB up => exact h.shr _ _
  exact view_ite ((h.shr _ _).trans ((happly _).trans (h.wr _ _ _ (by decide)))) (h.shr _ _)

theorem topoSend (s : State) : view (Machine.topoSend s) = view s :=
  view_ite rfl ((h.addReport _ _).trans (h.originate _ _ _ _ _ _ _ _ _ _))

theorem linkSend (s : State) (p : Port) (o : Nat) (up : Bool) (ts : Word) : view (Machine.linkSend s p o up ts) = view s :=
  (h.addReport _ _).trans (h.originate _ _ _ _ _ _ _ _ _ _)

end RingWork
end

end Sys2Proof.Machine
end

section
/-! PROOFS. Stops and fences of Groves (R214, R257, R260, R261, R405). -/

namespace Sys2Proof.Machine

/-! ### The end of a Glade (R72, R380) -/

/-- Software jobs abandoned write the registers of vital channels alone, which lie at multiples of 16. -/
theorem abandonSoft_eq (s : State) (es : List Nat) : ∃ io vjob, abandonSoft s es = { s with io := io, vjob := vjob } ∧
    ∀ a, a % 16 ≠ 0 → rd (abandonSoft s es) a = rd s a := by
  unfold abandonSoft
  refine List.foldlRecOn (motive := fun t => ∃ io vjob, t = { s with io := io, vjob := vjob } ∧ ∀ a, a % 16 ≠ 0 → rd t a = rd s a)
    _ _ ⟨_, _, rfl, fun _ _ => rfl⟩ ?_
  rintro t ⟨io, vjob, rfl, hrd⟩ p -
  split
  · split
    · refine ⟨_, _, rfl, fun a ha => ?_⟩
      have hne : a ≠ Reg.cvuVstat + 16 * p.1 := by
        unfold Reg.cvuVstat
        omega
      rw [rd_sb_ne _ _ _ hne, rd_sb_ne _ _ _ hne]
      exact hrd a ha
    · exact ⟨_, _, rfl, hrd⟩
  · exact ⟨_, _, rfl, hrd⟩

theorem idleEngine_eq (s : State) (e : Nat) : ∃ engs, idleEngine s e = { s with engs := engs } := ⟨_, rfl⟩

/-- A Grove that has left its Glade, its engines not yet idle. -/
def gladeLeft (s : State) (g : Nat) : State :=
  putGrv s g { grv s g with
    glade := none, counting := false, trip := none, halted := (grv s g).halted || (grv s g).stepping, stepping := false }

/-- The end of a Glade changes its Grove, its engines, and what they had started on vital channels. -/
theorem endGlade_eq (s : State) (g : Nat) : ∃ io vjob engs, endGlade s g = { gladeLeft s g with io := io, vjob := vjob, engs := engs } ∧
    ∀ a, a % 16 ≠ 0 → rd (endGlade s g) a = rd s a := by
  obtain ⟨_, hleader⟩ := idleEngine_eq (gladeLeft s g) (2 * g)
  obtain ⟨engs, hchecker⟩ := idleEngine_eq (idleEngine (gladeLeft s g) (2 * g)) (2 * g + 1)
  obtain ⟨io, vjob, hsoft, hrd⟩ := abandonSoft_eq (idleEngine (idleEngine (gladeLeft s g) (2 * g)) (2 * g + 1)) [2 * g, 2 * g + 1]
  have hend : endGlade s g = abandonSoft (idleEngine (idleEngine (gladeLeft s g) (2 * g)) (2 * g + 1)) [2 * g, 2 * g + 1] := rfl
  rw [hend]
  refine ⟨io, vjob, engs, ?_, fun a ha => (hrd a ha).trans ?_⟩
  · rw [hsoft, hchecker, hleader]
  · rw [hchecker, hleader]
    rfl

theorem endGlade_apps (s : State) (g : Nat) : (endGlade s g).apps = s.apps := by
  obtain ⟨_, _, _, h, -⟩ := endGlade_eq s g
  rw [h]
  rfl

theorem glade_endGlade (s : State) (g : Nat) : (grv (endGlade s g) g).glade = none := by
  obtain ⟨_, _, _, h, -⟩ := endGlade_eq s g
  rw [h]
  exact congrArg Grove.glade (grv_putGrv s g _)

/-! ### Engines that stop (R214) -/

@[simp] theorem run_stopEngine (s : State) (e : Nat) : (eng (stopEngine s e) e).run = .stopped := congrArg Engine.run (eng_putEng _ e _)
theorem eng_stopEngine_ne (s : State) {e f : Nat} (h : f ≠ e) : eng (stopEngine s e) f = eng s f := by
  rw [stopEngine, eng_putEng_ne _ _ h, idleEngine, eng_putEng_ne _ _ h]
theorem grv_stopEngine (s : State) (e g : Nat) : grv (stopEngine s e) g = grv s g := (rfl)
theorem app_stopEngine (s : State) (e n : Nat) : app (stopEngine s e) n = app s n := (rfl)

/-- Both engines of a Grove stop. -/
def stopEngines (s : State) (g : Nat) : State := stopEngine (stopEngine s (2 * g)) (2 * g + 1)

theorem grv_stopEngines (s : State) (g k : Nat) : grv (stopEngines s g) k = grv s k := (grv_stopEngine _ _ _).trans (grv_stopEngine _ _ _)
theorem app_stopEngines (s : State) (g n : Nat) : app (stopEngines s g) n = app s n := (app_stopEngine _ _ _).trans (app_stopEngine _ _ _)
theorem run_stopEngines (s : State) (g : Nat) :
    (eng (stopEngines s g) (2 * g)).run = .stopped ∧ (eng (stopEngines s g) (2 * g + 1)).run = .stopped :=
  ⟨by rw [stopEngines, eng_stopEngine_ne _ (by omega), run_stopEngine], run_stopEngine _ _⟩

/-! ### What stops leave of fault records and fences -/

/-- The fault records, and the fences asked for and in force. -/
structure StopView where
  flt : List (List Word)
  asked : Word
  inForce : Word

def stopView (s : State) : StopView := ⟨s.flt, s.fenceReq, rd s Reg.grvFence⟩

theorem stopView_discardApp (s : State) (a : Nat) : stopView (discardApp s a) = stopView s := by
  have hstop (t : State) : stopView (stopGlades t a) = stopView t := by
    refine foldl_keeps stopView (fun u g => ?_) _ t
    split
    · exact view_ite (view := stopView) rfl rfl
    · rfl
  exact view_ite (view := stopView) (hstop _) rfl

theorem stopView_forceStop (s : State) (g : Nat) : stopView (forceStop s g) = stopView s := by
  unfold forceStop
  split
  · rfl
  · exact stopView_discardApp s _

theorem stopView_endGlade (s : State) (g : Nat) : stopView (endGlade s g) = stopView s := by
  obtain ⟨_, _, _, h, hrd⟩ := endGlade_eq s g
  rw [stopView, hrd _ (by decide), h]
  rfl

theorem stopView_stopEngine (s : State) (e : Nat) : stopView (stopEngine s e) = stopView s := (rfl)
theorem stopView_stopEngines (s : State) (g : Nat) : stopView (stopEngines s g) = stopView s :=
  (stopView_stopEngine _ _).trans (stopView_stopEngine _ _)

/-! ### A Lockstep miscompare (R257) -/

/-- The record of a miscompare. -/
def miscompareFault (g a : Nat) : FaultInfo :=
  { faultOf 0x01 2 with master := BitVec.ofNat 6 (2 * g), app := BitVec.ofNat 5 a, grove := BitVec.ofNat 4 g, discard := true }

/-- The Grove of a miscompare before its fence is asked for. -/
def miscompareStopped (s : State) (g a : Nat) : State := stopEngines (endGlade (discardApp (record s (miscompareFault g a)) a) g) g

theorem miscompare_lockstep {s : State} {g : Nat} {r : GladeRun} (hr : (grv s g).glade = some r) (hl : isLockstep s g = true) :
    miscompare s g = { miscompareStopped s g r.app with
      fenceReq := (miscompareStopped s g r.app).fenceReq ||| (3#32 <<< (2 * g)) } := by
  rw [miscompare, hr]
  dsimp only
  rw [hl, if_neg (by decide)]
  rfl

theorem stopView_miscompareStopped (s : State) (g a : Nat) : stopView (miscompareStopped s g a) = stopView (record s (miscompareFault g a)) :=
  (stopView_stopEngines _ g).trans ((stopView_endGlade _ g).trans (stopView_discardApp _ a))

theorem app_miscompareStopped (s : State) (g a : Nat) : (app (miscompareStopped s g a) a).active = false := by
  rw [miscompareStopped, app_stopEngines, app_congr (endGlade_apps _ g), active_discardApp, decide_eq_false (fun h => h rfl), Bool.and_false]

theorem glade_miscompareStopped (s : State) (g a : Nat) : (grv (miscompareStopped s g a) g).glade = none := by
  rw [miscompareStopped, grv_stopEngines, glade_endGlade]

theorem lockstepMiscompare_stops {s : State} {g : Grv} {r : GladeRun} (hr : (grv s g.val).glade = some r) (hl : isLockstep s g.val = true) :
    ∃ t, exec (.lockstepMiscompare g) s = .next t ∧ t.fenceReq = s.fenceReq ||| (3#32 <<< (2 * g.val)) ∧ (grv t g.val).glade = none ∧
      (eng t (2 * g.val)).run = .stopped ∧ (eng t (2 * g.val + 1)).run = .stopped ∧ (app t r.app).active = false ∧
      (s.flt.length < 64 → ∃ w, t.flt = s.flt ++ [w] ∧ fld (nth w 0) 7 0 = 1 ∧ fld (nth w 0) 30 27 = g.val ∧ bit (nth w 0) 12 = true) := by
  have hx : exec (.lockstepMiscompare g) s = .next (miscompare s g.val) := rfl
  have hglade := glade_miscompareStopped s g.val r.app
  have happ := app_miscompareStopped s g.val r.app
  have hruns : (eng (miscompareStopped s g.val r.app) (2 * g.val)).run = .stopped ∧
      (eng (miscompareStopped s g.val r.app) (2 * g.val + 1)).run = .stopped := run_stopEngines _ g.val
  obtain ⟨hleader, hchecker⟩ := hruns
  obtain ⟨hflt, hreq, -⟩ := StopView.mk.inj (stopView_miscompareStopped s g.val r.app)
  rw [hx, miscompare_lockstep hr hl]
  generalize miscompareStopped s g.val r.app = u at hglade happ hleader hchecker hflt hreq
  refine ⟨_, rfl, ?_, hglade, hleader, hchecker, happ, fun h => ?_⟩
  · rw [hreq, background_fenceReq.record]
  · obtain ⟨hcode, -, -, hdiscard, -, -, hgrove⟩ := faultWord0_fields (miscompareFault g.val r.app)
    refine ⟨_, hflt.trans (flt_record _ h), hcode, hgrove.trans ?_, hdiscard⟩
    exact Nat.mod_eq_of_lt g.isLt

theorem lockstepMiscompare_idle {s : State} {g : Grv} (h : (grv s g.val).glade = none) : exec (.lockstepMiscompare g) s = .next s := by
  have hx : exec (.lockstepMiscompare g) s = .next (miscompare s g.val) := rfl
  rw [hx, miscompare, h]

/-! ### What follows a fence (R250, R260, R264) -/

/-- Engines, Groves, the Spares prepared, and the fences asked for and in force. -/
structure FenceView where
  engs : Sparse Engine
  grvs : Sparse Grove
  prepared : BitVec 16
  asked : Word
  inForce : Word

def fenceView (s : State) : FenceView := ⟨s.engs, s.grvs, s.prepared, s.fenceReq, rd s Reg.grvFence⟩

theorem fenceView_wr (s : State) {a : Nat} (v : Word) (h : a ≠ Reg.grvFence) : fenceView (wr s a v) = fenceView s := by
  rw [fenceView, rd_wr_ne _ _ h.symm]
  rfl

theorem ringWork_fenceView : RingWork fenceView where
  wr s a v h := fenceView_wr s v fun ha => by rw [ha] at h; exact Bool.noConfusion h
  shr _ _ := rfl

theorem fenceView_holdSettle (s : State) : fenceView (holdSettle s) = fenceView s := by
  obtain ⟨_, _, h⟩ := holdSettle_eq s
  rw [fenceView, rd_holdSettle _ (by decide), h]
  rfl

theorem fenceView_stopWriters (s : State) (es : List Nat) : fenceView (stopWriters s es) = fenceView s := by
  have hstop (t : State) (u : Nat) : fenceView (cvuStop t u) = fenceView t := by
    have hne : gReg Reg.cvuGstat u ≠ Reg.grvFence := by
      unfold gReg Reg.cvuGstat Reg.grvFence
      omega
    exact view_ite (view := fenceView) (fenceView_wr _ _ hne) rfl
  exact foldl_keeps fenceView (fun t u => view_ite (view := fenceView) (hstop t u) rfl) _ s

theorem fenceView_dropSubstitute (s : State) {h : Nat} (hh : h < 16) : fenceView (dropSubstitute s h) = fenceView s := by
  refine foldl_keeps fenceView (fun t g => ?_) _ s
  have hsub : Reg.grvSub + g ≠ Reg.grvFence := by
    unfold Reg.grvSub Reg.grvFence
    omega
  have hmode : Reg.grvMode + h ≠ Reg.grvFence := by
    unfold Reg.grvMode Reg.grvFence
    omega
  exact view_ite (view := fenceView) ((fenceView_wr _ _ hmode).trans (fenceView_wr _ _ hsub)) rfl

theorem fenceView_endWaits (s : State) (p : WaitCmd → Bool) (st r : Nat) : fenceView (endWaits s p st r) = fenceView s := by
  refine foldl_keeps (f := fun t (w : WaitCmd) => complete t w.chan st r []) fenceView (fun t w => ?_) _ s
  unfold complete completeN respond
  rfl

theorem fenceView_editAbandon (s : State) (reason : Nat) : fenceView (editAbandon s reason) = fenceView s := by
  have hedit (t : State) (e : EditSt) : fenceView { t with edit := e } = fenceView t := rfl
  refine (fenceView_endWaits _ _ _ _).trans (view_ite (view := fenceView) ?_ rfl)
  refine (hedit _ _).trans ?_
  rw [wf, fenceView_wr _ _ (by decide), wf, fenceView_wr _ _ (by decide), sb, fenceView_wr _ _ (by decide), sb,
    fenceView_wr _ _ (by decide)]

theorem fenceView_editFault (s : State) : fenceView (editFault s) = fenceView s := by
  have hsend (t : State) (sub : Nat) (pay : List Word) : fenceView (mgmtSend t sub pay) = fenceView t :=
    ringWork_fenceView.originate _ _ _ _ _ _ _ _ _ _
  exact view_ite (view := fenceView) ((fenceView_editAbandon _ _).trans (view_ite (view := fenceView) (hsend _ _ _) rfl)) rfl

/-! ### A fence (R260) -/

/-- The Grove as a fence leaves it: no halt in force or awaited. -/
def unhalted (s : State) (g : Nat) : State := holdSettle (putGrv s g { grv s g with haltReq := false, halted := false, stepping := false })

theorem grv_unhalted (s : State) (g : Nat) : (grv (unhalted s g) g).glade = (grv s g).glade ∧ (grv (unhalted s g) g).halted = false := by
  rw [unhalted, grv_holdSettle, grv_putGrv]
  exact ⟨rfl, rfl⟩

theorem fenceView_unhalted (s : State) (g : Nat) : fenceView (unhalted s g) = { fenceView s with grvs := (unhalted s g).grvs } := by
  rw [unhalted, fenceView_holdSettle, holdSettle_grvs]
  rfl

/-- An armed or pending edit that names the Grove is given up. -/
def fenceEdit (s : State) (g : Nat) : State :=
  if (edArmed s && appNames s (edApp s) g) || s.waits.any (fun w => w.editOf fun a => appNames s a g) then editFault s else s

/-- The Grove is no prepared Spare. -/
def unprepared (s : State) (g : Nat) : State := { s with prepared := s.prepared &&& ~~~ (1#16 <<< g) }

/-- The end of a fence: its Grove's halts, units, part as Spare and as substitute, and an edit that names it are given up. -/
def fenceAftermath (s : State) (g : Nat) (es : List Nat) : State :=
  fenceEdit (dropSubstitute (unprepared (stopWriters (unhalted s g) es) g) g) g

theorem fenceView_fenceEdit (s : State) (g : Nat) : fenceView (fenceEdit s g) = fenceView s :=
  view_ite (view := fenceView) (fenceView_editFault s) rfl

theorem fenceView_unprepared (s : State) (g : Nat) :
    fenceView (unprepared s g) = { fenceView s with prepared := (fenceView s).prepared &&& ~~~ (1#16 <<< g) } := rfl

theorem fenceView_fenceAftermath (s : State) {g : Nat} (hg : g < 16) (es : List Nat) : fenceView (fenceAftermath s g es) =
    { fenceView s with grvs := (unhalted s g).grvs, prepared := s.prepared &&& ~~~ (1#16 <<< g) } := by
  rw [fenceAftermath, fenceView_fenceEdit, fenceView_dropSubstitute _ hg, fenceView_unprepared, fenceView_stopWriters, fenceView_unhalted]
  rfl

/-- The fence bits of both engines of a Grove set. -/
def fenceBits (s : State) (g : Nat) : State := sb (sb s Reg.grvFence (2 * g) true) Reg.grvFence (2 * g + 1) true

theorem engFenced_fenceBits (s : State) {g : Nat} (hg : g < 16) :
    engFenced (fenceBits s g) (2 * g) = true ∧ engFenced (fenceBits s g) (2 * g + 1) = true := by
  refine ⟨(rb_sb _ _ _ (by omega)).trans ?_, (rb_sb _ _ _ (by omega)).trans (if_pos rfl)⟩
  rw [if_neg (by omega)]
  exact (rb_sb _ _ _ (by omega)).trans (if_pos rfl)

/-- A Grove fenced whole: the fence bits, what the fence makes of the Glade, the stop, and the aftermath. -/
theorem fenceGrove_both (s : State) (g : Nat) : ∃ u, stopView u = stopView (fenceBits s g) ∧
    fenceGrove s g [2 * g, 2 * g + 1] = fenceAftermath (stopEngines (endGlade u g) g) g [2 * g, 2 * g + 1] := by
  unfold fenceGrove
  extract_lets whole fenced mates discarded stopped ended
  have hdiscarded : stopView discarded = stopView fenced := by
    unfold discarded
    split
    · exact stopView_discardApp _ _
    · rfl
  have hended : ended = endGlade stopped g := if_pos rfl
  refine ⟨stopped, (foldl_keeps stopView stopView_forceStop mates _).trans hdiscarded, ?_⟩
  exact congrArg (fun u => fenceAftermath (stopEngines u g) g [2 * g, 2 * g + 1]) hended

/-- After a fence both fence bits stand, the engines stop, and the Grove holds no Glade and no halt and is no prepared Spare. -/
theorem fenceGrove_fences (s : State) {g : Nat} (hg : g < 16) :
    let t := fenceGrove s g [2 * g, 2 * g + 1]
    engFenced t (2 * g) = true ∧ engFenced t (2 * g + 1) = true ∧ (eng t (2 * g)).run = .stopped ∧ (eng t (2 * g + 1)).run = .stopped ∧
      (grv t g).glade = none ∧ (grv t g).halted = false ∧ t.fenceReq = s.fenceReq ∧ t.prepared.getLsbD g = false := by
  obtain ⟨u, hu, hfence⟩ := fenceGrove_both s g
  have hview := fenceView_fenceAftermath (stopEngines (endGlade u g) g) hg [2 * g, 2 * g + 1]
  have hstop : stopView (stopEngines (endGlade u g) g) = stopView (fenceBits s g) :=
    (stopView_stopEngines _ g).trans ((stopView_endGlade u g).trans hu)
  have hglade : (grv (stopEngines (endGlade u g) g) g).glade = none := by rw [grv_stopEngines, glade_endGlade]
  obtain ⟨hleader, hchecker⟩ := run_stopEngines (endGlade u g) g
  obtain ⟨hbit, hbit'⟩ := engFenced_fenceBits s hg
  rw [hfence]
  generalize stopEngines (endGlade u g) g = x at hview hstop hglade hleader hchecker
  generalize fenceAftermath x g [2 * g, 2 * g + 1] = v at hview
  obtain ⟨hengs, hgrvs, hprepared, hasked, hinForce⟩ := FenceView.mk.inj hview
  obtain ⟨-, hasked', hinForce'⟩ := StopView.mk.inj hstop
  obtain ⟨hkept, hunhalted⟩ := grv_unhalted x g
  have hfenced (e : Nat) : engFenced v e = engFenced (fenceBits s g) e := congrArg (bit · e) (hinForce.trans hinForce')
  have heng (e : Nat) : eng v e = eng x e := by rw [eng, hengs]; rfl
  dsimp only
  rw [hfenced, hfenced, heng, heng, grv_congr hgrvs, hkept, hprepared]
  exact ⟨hbit, hbit', hleader, hchecker, hglade, hunhalted, hasked.trans hasked', by simp [hg]⟩

theorem enginesIn_both {w : Word} {g : Nat} (h0 : bit w (2 * g) = true) (h1 : bit w (2 * g + 1) = true) :
    enginesIn w g = [2 * g, 2 * g + 1] := by simp [enginesIn, h0, h1]
theorem enginesIn_neither {w : Word} {g : Nat} (h0 : bit w (2 * g) = false) (h1 : bit w (2 * g + 1) = false) :
    enginesIn w g = [] := by simp [enginesIn, h0, h1]

theorem groveFence_fences {s : State} {g : Grv} (h0 : bit s.fenceReq (2 * g.val) = true) (h1 : bit s.fenceReq (2 * g.val + 1) = true) :
    ∃ t, exec (.groveFence g) s = .next t ∧ engFenced t (2 * g.val) = true ∧ engFenced t (2 * g.val + 1) = true ∧
      (eng t (2 * g.val)).run = .stopped ∧ (eng t (2 * g.val + 1)).run = .stopped ∧ (grv t g.val).glade = none ∧
      (grv t g.val).halted = false ∧ t.fenceReq = s.fenceReq &&& ~~~ (3#32 <<< (2 * g.val)) ∧ t.prepared.getLsbD g.val = false := by
  have hx : exec (.groveFence g) s = .next (groveFence s g.val) := rfl
  have hfence : groveFence s g.val =
      fenceGrove { s with fenceReq := s.fenceReq &&& ~~~ (3#32 <<< (2 * g.val)) } g.val [2 * g.val, 2 * g.val + 1] := by
    rw [groveFence, enginesIn_both h0 h1]
    exact if_neg Bool.false_ne_true
  rw [hx, hfence]
  exact ⟨_, rfl, fenceGrove_fences _ g.isLt⟩

theorem groveFence_unasked {s : State} {g : Grv} (h0 : bit s.fenceReq (2 * g.val) = false) (h1 : bit s.fenceReq (2 * g.val + 1) = false) :
    exec (.groveFence g) s = .next s := by
  have hx : exec (.groveFence g) s = .next (groveFence s g.val) := rfl
  rw [hx, groveFence, enginesIn_neither h0 h1]
  rfl

end Sys2Proof.Machine
end

section
/-! PROOFS. Faults, fences and Spares, settled (R214, R218, R257, R260, R261, R263, R266, R403, R408, R411, R412). -/

namespace Sys2Proof.Machine

/-! ### Faults of the Wellspring and of the boundary sequencer (R214, R218, R408) -/

theorem wspFault_stops {s : State} (ho : s.dev ≠ .off) (hr : s.dev ≠ .reset) (hh : s.dev ≠ .halted) (hw : s.wspStopped = false) :
    ∃ t, exec .wspFault s = .next t ∧ t.wspStopped = true ∧ t.safeReq = some (s.safeReq.getD 8) ∧
      (s.flt.length < 64 → ∃ w, t.flt = s.flt ++ [w] ∧ fld (nth w 0) 7 0 = 0x15) := by
  have hx : exec .wspFault s = .next (if s.dev = .off ∨ s.dev = .reset ∨ s.dev = .halted ∨ s.wspStopped then s else wspFault s) := rfl
  rw [hx, if_neg (by simp [ho, hr, hh, hw])]
  refine ⟨_, rfl, ?_, askSafeHold_record (s := { s with wspStopped := true }) _ 8 rfl⟩
  rw [wspFault, askSafeHold_eq]
  exact background_wspStopped.record _ _

theorem boundarySequencerMiscompare_asks {s : State} (h : blocksRun s = true) :
    ∃ t, exec .boundarySequencerMiscompare s = .next t ∧ t.safeReq = some (s.safeReq.getD 8) ∧
      (s.flt.length < 64 → ∃ w, t.flt = s.flt ++ [w] ∧ fld (nth w 0) 7 0 = 0x15) := by
  have hx : exec .boundarySequencerMiscompare s =
    .next (if blocksRun s then askSafeHold (record s { faultOf 0x15 3 with discard := true }) 0x08 else s) := rfl
  rw [hx, if_pos h]
  exact ⟨_, rfl, askSafeHold_record _ 8 rfl⟩

/-! ### Spares (R263, R266) -/

theorem noTakeover_shows (s : State) {g : Nat} (hg : g < 16) :
    (noTakeover s g).noSpare.getLsbD g = true ∧ rb (noTakeover s g) Reg.grvStat 2 = true ∧
      (s.flt.length < 64 → ∃ w, (noTakeover s g).flt = s.flt ++ [w] ∧ fld (nth w 0) 7 0 = 0x10) := by
  refine ⟨?_, (rb_sb _ _ _ (by decide)).trans (if_pos rfl),
    record_adds { faultOf 0x10 2 with grove := BitVec.ofNat 4 g, discard := true } rfl⟩
  unfold noTakeover
  simp [hg]

section
variable {s : State} {g : Grv}

/-- A fenced Grove of the schedule in force that has no Spare, none pending and none looked for in vain. -/
def WantsChoice (s : State) (g : Nat) : Prop :=
  wspRuns s = true ∧ grvFenced s g = true ∧ groveInForce s g = true ∧ s.noSpare.getLsbD g = false ∧ rb s (Reg.grvSub + g) 4 = false ∧
    rb s (Reg.grvSub + g) 5 = false

theorem spareChoice_none (h : WantsChoice s g.val) (hnone : spareFor s g.val = none) :
    exec (.spareChoice g) s = .next (noTakeover s g.val) := by
  have hx : exec (.spareChoice g) s = .next (spareChoice s g.val) := rfl
  obtain ⟨hw, hf, hi, hn, h4, h5⟩ := h
  rw [hx, spareChoice, hw, hf, hi, hn, h4, h5, if_neg (by decide)]
  simp only [hnone]

theorem spareChoice_some {k : Nat} {t : State} (h : WantsChoice s g.val) (hsome : spareFor s g.val = some k)
    (ht : wspWrites s (erWrites s g.val k ++ [(Reg.grvSub + g.val, BitVec.ofNat 32 (k + 16))]) = (t, true)) :
    exec (.spareChoice g) s = .next t := by
  have hx : exec (.spareChoice g) s = .next (spareChoice s g.val) := rfl
  obtain ⟨hw, hf, hi, hn, h4, h5⟩ := h
  rw [hx, spareChoice, hw, hf, hi, hn, h4, h5, if_neg (by decide)]
  simp only [hsome, ht]

theorem sparePreparation_prepares {t : State} (hw : wspRuns s = true) (hs : grvSpare s g.val = true) (hf : grvFenced s g.val = false)
    (hi : grvIdle s g.val = true) (hp : s.prepared.getLsbD g.val = false) (hb : (grv s g.val).pondBusy = false)
    (hg : gated s g.val = false) (hc : bit (rd s Reg.pwrGctl) g.val = false)
    (ht : wspWrites (l1Clean s g.val 35) [(Reg.cmxPond + g.val, putBit (rd s (Reg.cmxPond + g.val)) 4 true)] = (t, true)) :
    exec (.sparePreparation g) s = .next { t with prepared := t.prepared ||| (1#16 <<< g.val) } := by
  have hx : exec (.sparePreparation g) s = .next (sparePrepare s g.val) := rfl
  rw [hx, sparePrepare, hw, hs, hf, hi, hp, hb, if_neg (by decide)]
  dsimp only
  rw [hc, if_neg Bool.false_ne_true]
  dsimp only
  rw [if_neg (by decide), hg, if_neg Bool.false_ne_true, ht]
  rfl

end

/-! ### A port that goes down (R298) -/

theorem view_portDown {α : Type} {view : State → α} (hring : RingWork view) (hback : Background view) (s : State) (p : Port) (ts : Word) :
    view (portDown s p ts) = view (sb s (pstat p) 1 false) := by
  have hput (t : State) (x : ShrPort) : view (putShrPort t p x) = view t := hring.shr _ _
  have hseq (t : State) : view (nextSeq t 2 0).2 = view t := hring.shr _ _
  refine (hring.topoSend _).trans ((hring.linkSend _ _ _ _ _).trans ((hback.record _ _).trans ?_))
  exact view_ite ((hring.enq _ _ _).trans ((hseq _).trans (hput _ _))) (hput _ _)

theorem ringWork_rd {a : Nat} (ha : ringReg a = false) : RingWork (rd · a) where
  wr s c v hc := rd_wr_ne s v fun h => by rw [h, hc] at ha; exact Bool.noConfusion ha
  shr _ _ := rfl

theorem rd_portDown (s : State) (p : Port) (ts : Word) {a : Nat} (hr : ringReg a = false) (hb : backReg a = false) :
    rd (portDown s p ts) a = rd (sb s (pstat p) 1 false) a := view_portDown (ringWork_rd hr) (background_rd hb) s p ts

theorem portUp_portDown (s : State) (p : Port) (ts : Word) : portUp (portDown s p ts) p = false := by
  rw [portUp, rb, rd_portDown _ _ _ (by cases p <;> decide) (by cases p <;> decide), ← rb, rb_sb _ _ _ (by decide), if_pos rfl]

/-! ### Clock monitors (R403, R494) -/

/-- Entries kept by their keys read as before. -/
theorem get_filter_keys {α : Type} (d : α) {p : Nat → Bool} {k : Nat} (hk : p k = true) (m : Sparse α) :
    Sparse.get d (m.filter fun x => p x.1) k = Sparse.get d m k := by
  induction m with
  | nil => rfl
  | cons x r ih =>
    obtain ⟨j, v⟩ := x
    by_cases hj : j = k
    · subst hj
      simp [hk, Sparse.get]
    · by_cases hp : p j = true
      · simp [hp, Sparse.get, hj, ih]
      · simp [hp, Sparse.get, hj, ih]

/-- FLT_CKSTAT outlives every reset but that of AON (R494). -/
theorem rd_devReset_fltCkstat (s : State) (r : RstSrc) : rd (devReset s r) Reg.fltCkstat = rd s Reg.fltCkstat := by
  unfold devReset
  dsimp only
  rw [rd_wr_ne _ _ (by decide)]
  exact get_filter_keys (p := fun k => dbgvKey k || decide (k = Reg.fltCkstat)) _ (by decide) s.io

/-- A source that resets the device shows its bit (R446). -/
theorem rb_devReset_source (s : State) (r : RstSrc) : rb (devReset s r) Reg.idRstsrc (srcBit r) = true := by
  unfold devReset
  rw [rb]
  dsimp only
  rw [rd_wr, bit_or, Bool.or_eq_true]
  exact .inr (by cases r <;> decide)

/-- The flag of a monitor that has found a fault. -/
def clockFlagged (s : State) (c : Fin 6) : State := sb s Reg.fltCkstat c.val true

section
variable {s : State} {c : Fin 6}

theorem exec_clockFault (ho : s.dev ≠ .off) (hm : rb s (Reg.fltCknom + c.val) 12 = true) :
    exec (.clockFault c) s = .next (
      if c.val = 0 then devReset (clockFlagged s c) .clock
      else if c.val = 2 ∨ c.val = 3 then
        portDown (record (clockFlagged s c) { faultOf 0x0A 4 with info := BitVec.ofNat 32 c.val }) (if c.val = 2 then .a else .b)
          (lo32 (record (clockFlagged s c) { faultOf 0x0A 4 with info := BitVec.ofNat 32 c.val }).tb.now)
      else askSafeHold (record (clockFlagged s c) { faultOf 0x0A 3 with discard := true, info := BitVec.ofNat 32 c.val }) 6) := by
  have hx : exec (.clockFault c) s = .next (clockFault s c.val) := rfl
  rw [hx, clockFault, if_neg (by simp [ho, hm])]
  dsimp only [clockFlagged]

theorem rb_clockFlagged (s : State) (c : Fin 6) : rb (clockFlagged s c) Reg.fltCkstat c.val = true :=
  (rb_sb _ _ _ (Nat.lt_trans c.isLt (by decide))).trans (if_pos rfl)

theorem clockFault_core (ho : s.dev ≠ .off) (hm : rb s (Reg.fltCknom + c.val) 12 = true) (hc : c.val = 0) :
    ∃ t, exec (.clockFault c) s = .next t ∧ t.dev = .reset ∧ rb t Reg.idRstsrc 2 = true ∧ rb t Reg.fltCkstat 0 = true := by
  rw [exec_clockFault ho hm, if_pos hc]
  refine ⟨_, rfl, devReset_dev _ _, rb_devReset_source _ .clock, ?_⟩
  rw [rb, rd_devReset_fltCkstat, ← hc]
  exact rb_clockFlagged s c

theorem clockFault_safeHold (ho : s.dev ≠ .off) (hm : rb s (Reg.fltCknom + c.val) 12 = true) (hc : c.val = 1 ∨ c.val = 4 ∨ c.val = 5) :
    ∃ t, exec (.clockFault c) s = .next t ∧ t.safeReq = some (s.safeReq.getD 6) ∧ rb t Reg.fltCkstat c.val = true ∧
      (s.flt.length < 64 → ∃ w, t.flt = s.flt ++ [w] ∧ fld (nth w 0) 7 0 = 0x0A) := by
  rw [exec_clockFault ho hm, if_neg (by omega), if_neg (by omega)]
  obtain ⟨hreq, hflt⟩ := askSafeHold_record (s := clockFlagged s c)
    { faultOf 0x0A 3 with discard := true, info := BitVec.ofNat 32 c.val } 6 rfl
  refine ⟨_, rfl, hreq, ?_, hflt⟩
  rw [askSafeHold_eq]
  refine (congrArg (bit · c.val) ?_).trans (rb_clockFlagged s c)
  exact (background_rd (a := Reg.fltCkstat) (by decide)).record _ _

theorem clockFault_port (ho : s.dev ≠ .off) (hm : rb s (Reg.fltCknom + c.val) 12 = true) (hc : c.val = 2 ∨ c.val = 3) :
    ∃ t, exec (.clockFault c) s = .next t ∧ rb t Reg.fltCkstat c.val = true ∧ portUp t (if c.val = 2 then .a else .b) = false := by
  rw [exec_clockFault ho hm, if_neg (by omega), if_pos hc]
  refine ⟨_, rfl, ?_, portUp_portDown _ _ _⟩
  generalize (if c.val = 2 then Port.a else Port.b) = p
  have hport : Reg.fltCkstat ≠ pstat p := by cases p <;> decide
  refine (congrArg (bit · c.val) ?_).trans (rb_clockFlagged s c)
  rw [rd_portDown _ _ _ (by decide) (by decide), rd_sb_ne _ _ _ hport]
  exact (background_rd (a := Reg.fltCkstat) (by decide)).record _ _

end

/-- Settles O49: records, miscompares, fences, Spares and clock faults, each by its own rule. -/
theorem faultsAndGroves : Obligations.FaultsAndGroves := by
  unfold Obligations.FaultsAndGroves
  intro s
  have recorded (r : FaultInfo) (ho : s.dev ≠ .off) (hr : s.dev ≠ .reset) : exec (.faultRecord r) s = .next (record s r) := by
    have hx : exec (.faultRecord r) s = .next (if s.dev = .off ∨ s.dev = .reset then s else record s r) := rfl
    rw [hx, if_neg (by simp [ho, hr])]
  exact ⟨recorded, fun r h => record_stores r h, fun r h => record_lost r h,
    fun g r hr hl _ => lockstepMiscompare_stops hr hl, fun g h => lockstepMiscompare_idle h,
    fun g h0 h1 => groveFence_fences h0 h1, fun g h0 h1 => groveFence_unasked h0 h1,
    fun ho hr hh hw => wspFault_stops ho hr hh hw, fun h => boundarySequencerMiscompare_asks h,
    fun g hw hf hi hn h4 h5 => ⟨fun hnone => ⟨_, spareChoice_none ⟨hw, hf, hi, hn, h4, h5⟩ hnone, noTakeover_shows s g.isLt⟩,
      fun h t hsome hwrites => spareChoice_some ⟨hw, hf, hi, hn, h4, h5⟩ hsome hwrites⟩,
    fun g t hw hs hf hi hp hb hg hc ht => sparePreparation_prepares hw hs hf hi hp hb hg hc ht,
    fun c ho hm => ⟨clockFault_core ho hm, clockFault_safeHold ho hm, clockFault_port ho hm⟩⟩

end Sys2Proof.Machine
end
